-- ==== Sys2Proof/Word.lean ====
section
/-! DEFINITION. The names and plain data that commands and state are made of: ports, kinds, classes, the open-demand
set, tables indexed by a fixed set of names, and the records of the evidence log. Money, energy, times and counts are
Int and Nat, as the spec computes with them; bytes, masks and keys are bit vectors. -/

namespace Sys2Proof

/-- A byte of a frame. -/
abbrev Byte := BitVec 8

/-- The two command ports (10_command_ports.md). -/
inductive Port where
  | meter
  | network
  deriving DecidableEq, Repr, Inhabited

/-- One value for each port. -/
structure PerPort (α : Type) where
  meter : α
  network : α
  deriving DecidableEq, Repr, Inhabited

def PerPort.get {α : Type} (v : PerPort α) : Port → α
  | .meter => v.meter
  | .network => v.network

def PerPort.set {α : Type} (v : PerPort α) (p : Port) (x : α) : PerPort α :=
  match p with
  | .meter => { v with meter := x }
  | .network => { v with network := x }

/-- The two cover inputs: CVRSW and TCVRSW (06, 6.2). -/
inductive CoverInput where
  | cover
  | terminal
  deriving DecidableEq, Repr, Inhabited

/-- One value for each cover input. -/
structure PerCover (α : Type) where
  cover : α
  terminal : α
  deriving DecidableEq, Repr, Inhabited

def PerCover.get {α : Type} (v : PerCover α) : CoverInput → α
  | .cover => v.cover
  | .terminal => v.terminal

def PerCover.set {α : Type} (v : PerCover α) (i : CoverInput) (x : α) : PerCover α :=
  match i with
  | .cover => { v with cover := x }
  | .terminal => { v with terminal := x }

/-- The reading of a cover input, its debounced position or its backup sample. -/
inductive CoverPos where
  | closed
  | opened
  deriving DecidableEq, Repr, Inhabited

/-- The seven tamper kinds (06, 6.1). -/
inductive TamperKind where
  | coverOpen
  | tcoverOpen
  | magnetic
  | reverseFlow
  | currentImbalance
  | linkCut
  | bypass
  deriving DecidableEq, Repr, Inhabited

/-- The five members of the open-demand set (05, R92). -/
inductive Member where
  | credit
  | overload
  | tamper
  | remote
  | uncommissioned
  deriving DecidableEq, Repr, Inhabited

/-- The open-demand set: each member is present or absent (R92). -/
structure DemandSet where
  credit : Bool
  overload : Bool
  tamper : Bool
  remote : Bool
  uncommissioned : Bool
  deriving DecidableEq, Repr, Inhabited

def DemandSet.none : DemandSet := ⟨false, false, false, false, false⟩

def DemandSet.has (d : DemandSet) : Member → Bool
  | .credit => d.credit
  | .overload => d.overload
  | .tamper => d.tamper
  | .remote => d.remote
  | .uncommissioned => d.uncommissioned

def DemandSet.put (d : DemandSet) (m : Member) (present : Bool) : DemandSet :=
  match m with
  | .credit => { d with credit := present }
  | .overload => { d with overload := present }
  | .tamper => { d with tamper := present }
  | .remote => { d with remote := present }
  | .uncommissioned => { d with uncommissioned := present }

/-- Whether the set holds no member. -/
def DemandSet.isEmpty (d : DemandSet) : Bool :=
  !(d.credit || d.overload || d.tamper || d.remote || d.uncommissioned)

/-- The believed position of the relay (05, 5.2). -/
inductive Position where
  | unknown
  | opened
  | closed
  deriving DecidableEq, Repr, Inhabited

/-- The six latched alert classes (11). -/
inductive LatchedClass where
  | tamper
  | relayFault
  | supplyChanged
  | codeDone
  | tariffActivated
  | powerRestored
  deriving DecidableEq, Repr, Inhabited

/-- The six condition alert classes (11). -/
inductive ConditionClass where
  | creditExhausted
  | lowCredit
  | emergencyAvailable
  | armed
  | metrologyLost
  | evidenceThreshold
  deriving DecidableEq, Repr, Inhabited

/-- The twelve alert classes (11). -/
inductive AlertClass where
  | latched (c : LatchedClass)
  | condition (c : ConditionClass)
  deriving DecidableEq, Repr, Inhabited

/-- One value for each latched class. -/
structure PerLatched (α : Type) where
  tamper : α
  relayFault : α
  supplyChanged : α
  codeDone : α
  tariffActivated : α
  powerRestored : α
  deriving DecidableEq, Repr, Inhabited

def PerLatched.get {α : Type} (v : PerLatched α) : LatchedClass → α
  | .tamper => v.tamper
  | .relayFault => v.relayFault
  | .supplyChanged => v.supplyChanged
  | .codeDone => v.codeDone
  | .tariffActivated => v.tariffActivated
  | .powerRestored => v.powerRestored

def PerLatched.set {α : Type} (v : PerLatched α) (c : LatchedClass) (x : α) : PerLatched α :=
  match c with
  | .tamper => { v with tamper := x }
  | .relayFault => { v with relayFault := x }
  | .supplyChanged => { v with supplyChanged := x }
  | .codeDone => { v with codeDone := x }
  | .tariffActivated => { v with tariffActivated := x }
  | .powerRestored => { v with powerRestored := x }

/-- One value for each condition class. -/
structure PerCondition (α : Type) where
  creditExhausted : α
  lowCredit : α
  emergencyAvailable : α
  armed : α
  metrologyLost : α
  evidenceThreshold : α
  deriving DecidableEq, Repr, Inhabited

def PerCondition.get {α : Type} (v : PerCondition α) : ConditionClass → α
  | .creditExhausted => v.creditExhausted
  | .lowCredit => v.lowCredit
  | .emergencyAvailable => v.emergencyAvailable
  | .armed => v.armed
  | .metrologyLost => v.metrologyLost
  | .evidenceThreshold => v.evidenceThreshold

def PerCondition.set {α : Type} (v : PerCondition α) (c : ConditionClass) (x : α) : PerCondition α :=
  match c with
  | .creditExhausted => { v with creditExhausted := x }
  | .lowCredit => { v with lowCredit := x }
  | .emergencyAvailable => { v with emergencyAvailable := x }
  | .armed => { v with armed := x }
  | .metrologyLost => { v with metrologyLost := x }
  | .evidenceThreshold => { v with evidenceThreshold := x }

/-- One value for each alert class. -/
structure PerClass (α : Type) where
  latched : PerLatched α
  condition : PerCondition α
  deriving DecidableEq, Repr, Inhabited

def PerClass.get {α : Type} (v : PerClass α) : AlertClass → α
  | .latched c => v.latched.get c
  | .condition c => v.condition.get c

def PerClass.set {α : Type} (v : PerClass α) (c : AlertClass) (x : α) : PerClass α :=
  match c with
  | .latched c => { v with latched := v.latched.set c x }
  | .condition c => { v with condition := v.condition.set c x }

/-- The fifteen record kinds (07, R139). -/
inductive RecordKind where
  | tamper
  | tamperCleared
  | relayFault
  | coldStart
  | checkpointLost
  | clockSet
  | codeAccepted
  | codeRefused
  | relayOpened
  | relayClosed
  | powerFail
  | powerRestore
  | tariffActivated
  | metrologyGap
  | balanceFloor
  deriving DecidableEq, Repr, Inhabited

/-- The tamper part of a record (R138). -/
structure TamperPart where
  number : Nat
  kind : Option TamperKind
  deriving DecidableEq, Repr, Inhabited

/-- The code part of a record (R138). -/
structure CodePart where
  kind : Nat
  issue : Nat
  payload : Nat
  deriving DecidableEq, Repr, Inhabited

/-- The relay part of a record (R138). -/
structure RelayPart where
  before : Position
  after : Position
  set : DemandSet
  attempts : Nat
  deriving DecidableEq, Repr, Inhabited

/-- The clock part of a record (R138). -/
structure ClockPart where
  oldTime : Nat
  newTime : Nat
  oldOffset : Int
  newOffset : Int
  deriving DecidableEq, Repr, Inhabited

/-- A record as its origin offers it to LOG, before it has a number (R138). -/
structure Record where
  time : Nat
  valid : Bool
  kind : RecordKind
  tamper : Option TamperPart := none
  code : Option CodePart := none
  relay : Option RelayPart := none
  gap : Option Nat := none
  energy : Option Nat := none
  clock : Option ClockPart := none
  deriving DecidableEq, Repr, Inhabited

/-- The three blocks that keep evidence waiting for staging room (R141). -/
inductive Origin where
  | tamper
  | switch
  | calendar
  deriving DecidableEq, Repr, Inhabited

/-- The four price bands (03, 3.1). -/
inductive Band where
  | b0
  | b1
  | b2
  | b3
  deriving DecidableEq, Repr, Inhabited

/-- One value for each band. -/
structure PerBand (α : Type) where
  b0 : α
  b1 : α
  b2 : α
  b3 : α
  deriving DecidableEq, Repr, Inhabited

def PerBand.get {α : Type} (v : PerBand α) : Band → α
  | .b0 => v.b0
  | .b1 => v.b1
  | .b2 => v.b2
  | .b3 => v.b3

def PerBand.set {α : Type} (v : PerBand α) (b : Band) (x : α) : PerBand α :=
  match b with
  | .b0 => { v with b0 := x }
  | .b1 => { v with b1 := x }
  | .b2 => { v with b2 := x }
  | .b3 => { v with b3 := x }

end Sys2Proof
end

