-- ==== Sys2Proof/Syntax.lean ====
section
/-! DEFINITION. The commands of the block: one constructor for each row of spec/opcode_table.json, with the row's
operands. A command that a master sends through a port carries the port it comes on and its arguments as the bytes of
the frame give them (12.3). -/

namespace Sys2Proof

inductive Instr where
  /-- The bytes of a metrology-link frame, and how many bits followed the last whole byte: none when MLFRM was already
  asserted at the end of the last restore, so that MLR did not see the frame's start (R1; log entry 25). -/
  | metrologyFrame (bytes : List Byte) (extraBits : Option Nat)
  | silenceExpiry
  | linkCutExpiry
  | imbalanceDetect
  | imbalanceEpisodeEnd
  | reverseFlowDetect
  | reverseFlowRearm
  | overloadDetect
  /-- A debit request that carries the billed increment E in cWh (R21). -/
  | debitRequest (e : Nat)
  /-- A clock second with clock time t (R23). -/
  | standingAccrual (t : BitVec 32)
  /-- The accrual SUPMON asks for, as a clock second with t (R24). -/
  | gapAccrual (t : BitVec 32)
  | clockMinute
  | requestEmergency (p : Port)
  | readCredit (p : Port)
  | readTotals (p : Port)
  | tariffOpen (p : Port) (id : BitVec 16)
  | tariffPut (p : Port) (group : Byte) (data : List Byte)
  | tariffCommit (p : Port) (time : BitVec 32)
  | tariffCancel (p : Port)
  | readTariff (p : Port) (selector group : Byte)
  | tariffActivation
  | imageWriteComplete
  /-- The digit characters as the frame holds them (R64). -/
  | submitCode (p : Port) (chars : List Byte)
  | engineTake
  | decipherEnd
  | codeJudging
  | penaltyDecrement
  | penaltyExpiry (p : Port)
  | codeResult (p : Port) (ticket : Byte)
  | setCodeFloor (p : Port) (m : BitVec 32)
  /-- A request to add (true) or remove (false) a member of the open-demand set (R92). -/
  | demandSetRequest (m : Member) (add : Bool)
  | crdyChange (high : Bool)
  | cinhnChange (high : Bool)
  | deadTimeEnd
  | pulseEnd
  | settleEnd
  | confirmReconnect (p : Port)
  | remoteOpen (p : Port)
  | remoteRelease (p : Port) (mode : Byte)
  | holdOffEnd
  | overloadSignal
  | overloadRestoreExpiry
  | energyWhileOpenDetect
  | lsenseChange (present : Bool)
  | bypassTimerExpiry
  | readSwitch (p : Port)
  | tamperEvent (k : TamperKind)
  | coverInputChange (i : CoverInput) (reading : CoverPos)
  | debounceExpiry (i : CoverInput)
  | backupCoverSample
  | magsChange (high : Bool)
  | magneticPresenceExpiry
  | magneticReleaseExpiry
  | remoteTamperClear (p : Port) (c : BitVec 32)
  | readTamper (p : Port)
  | recordOffer (r : Record)
  | waitingEvidenceOffer (o : Origin)
  | logWriteStart
  | logWriteComplete
  | markWriteStart
  | markWriteComplete
  | evidenceCollect (p : Port) (n : BitVec 32)
  | readLog (p : Port) (first : BitVec 32) (count : Byte)
  | setEvidenceThreshold (p : Port) (v : Byte)
  | clockTick
  | clockHourMark
  /-- The new clock time and the new local offset in minutes, two's complement (R157). -/
  | clockSet (p : Port) (t : BitVec 32) (offset : BitVec 16)
  | readClock (p : Port)
  | brownOutStart
  | brownOutEnd
  | mainFailure
  | vmainRise
  | vmainDropRestoring
  | resetnAssert
  | resetnRelease
  | vcellLow
  | backupPowerUp
  /-- The end of a restore, with the levels of the straps BAUD1 and BAUD0 that SUPMON samples there (R167). -/
  | restoreEnd (baud1 baud0 : Bool)
  | checkpointRequest
  | checkpointWriteStart
  | checkpointWriteComplete
  /-- A complete frame, as the bytes received after its start byte (R181). -/
  | badFrame (p : Port) (frame : List Byte)
  | lengthByteReject (p : Port) (b : Byte)
  | mcsnRelease
  | interByteTimeout
  | responseSent (p : Port)
  | readStatus (p : Port)
  | readIdentity (p : Port)
  | provisionIdentity (p : Port) (number : BitVec 48) (key : BitVec 144)
  | lockIdentity (p : Port)
  | identityWriteComplete
  /-- An occurrence of a latched class, for the ports its signaller names (R190). -/
  | alertOccurrence (c : LatchedClass) (toMeter toNetwork : Bool)
  | conditionPresentation (c : ConditionClass) (present : Bool)
  | alertQuery (p : Port)
  | alertAck (p : Port) (cls count : Byte)
  | setAlertLevels (p : Port) (levels : List Byte) (threshold : Byte)
  /-- A byte on a port's line: a whole one, which the receiver takes, or none for one that has begun and is not whole yet, of
  which the line alone shows something (R178 to R180, R189; log entry 35). -/
  | receiverByte (p : Port) (b : Option Byte)
  | uartFramingError
  deriving DecidableEq, Repr

end Sys2Proof
end

