-- ==== Sys2Proof/Decode.lean ====
section
/-! DEFINITION. Commands as words of bits: no row of spec/opcode_table.json gives bits, so no word spells a command. -/

namespace Sys2Proof

/-- The command that a word of a row's bits spells: none, as no row has bits. -/
def decodeTableWord (nbits w : Nat) : Option Instr :=
  match nbits, w with
  | _, _ => none

end Sys2Proof
end

