-- ==== Sys2Proof/Config.lean ====
section
/-! DEFINITION. The free values of the model: what the spec leaves without a value while the machine goes on. They have
no body, so nothing can be proved about them beyond their being values (log entry 20). -/

namespace Sys2Proof

/-- The code READ_CLOCK sends for the day type while the clock is not valid: R47 says the day type is then not decided,
and R162 returns it all the same. It may depend on the clock time and the local offset. -/
opaque Config.undecidedDayType : Nat → Int → Byte

/-- The codes READ_CLOCK sends for a work day (false) and a rest day (true): R162 returns the day type, and 12.6 gives it
no codes. -/
opaque Config.dayTypeCode : Bool → Byte

/-- The band of a day profile (its switch-point minutes) in which no switch point is at or below the minute. R48: a valid
profile always has one, and the active tariff is always valid. -/
opaque Config.bandWithoutSwitchPoint : List Nat → Nat → Band

end Sys2Proof
end

