-- ==== Sys2Proof/Machine/State.lean ====
section
/-! DEFINITION. The state of the GB3120: every item of the chapters' state tables, the input pins, the requests that wait
between blocks, and the queue of commands that wait at the part. All plain data. -/

namespace Sys2Proof.Machine

/-- A block timer: whether it runs, and the real time it has counted in milliseconds (R161). -/
structure Timer where
  running : Bool
  ms : Nat
  deriving DecidableEq, Repr, Inhabited

/-- A timer that is stopped, or idle, at 0. -/
def Timer.stopped : Timer := ⟨false, 0⟩

/-- A timer that has just started from 0. -/
def Timer.started : Timer := ⟨true, 0⟩

/-- The link state (01, 1.2). -/
inductive LinkState where
  | never
  | synced
  | lost
  deriving DecidableEq, Repr, Inhabited

/-- MLR, but for the energy totals (01). -/
structure Mlr where
  link : LinkState
  lastSeq : Option Byte
  eLast : Option Nat
  silence : Timer
  linkCut : Timer
  linkCutRaised : Bool
  badReports : Nat
  unbalanced : Nat
  balanced : Nat
  episode : Bool
  reverse : Nat
  rearm : Nat
  reverseRaised : Bool
  overload : Nat
  deriving DecidableEq, Repr, Inhabited

/-- The eight energy totals in cWh (R12). -/
structure Totals where
  imported : Nat
  neutral : Nat
  exported : Nat
  billed : Nat
  band : PerBand Nat
  deriving DecidableEq, Repr, Inhabited

/-- The emergency state (02, 2.6). -/
inductive Emergency where
  | unavailable
  | available
  | inUse
  deriving DecidableEq, Repr, Inhabited

/-- BILL (02). The exhaustion level L is not held: R35. -/
structure Bill where
  b : Int
  r : Nat
  q : Nat
  h : Nat
  d : Nat
  emergency : Emergency
  deferral : Bool
  floor : Bool
  deriving DecidableEq, Repr, Inhabited

/-- A switch point of a day profile (03, 3.1). -/
structure SwitchPoint where
  minute : Nat
  band : Band
  deriving DecidableEq, Repr, Inhabited

/-- The RESTDAYS group: bit w of the mask for weekday w, and the special dates. -/
structure RestDays where
  mask : BitVec 7
  dates : List Nat
  deriving DecidableEq, Repr, Inhabited

/-- The CHARGES group. -/
structure Charges where
  standing : Nat
  emergency : Nat
  lowCredit : Nat
  maxCredit : Nat
  share : Nat
  deriving DecidableEq, Repr, Inhabited

/-- A friendly window: bit w of the mask for weekday w, bit 7 special. -/
structure Window where
  mask : BitVec 8
  start : Nat
  stop : Nat
  deriving DecidableEq, Repr, Inhabited

/-- The FRIENDLY group. -/
structure Friendly where
  windows : List Window
  allowance : Nat
  deriving DecidableEq, Repr, Inhabited

/-- The reverse mode (R10). -/
inductive ReverseMode where
  | ignore
  | chargeAsImport
  deriving DecidableEq, Repr, Inhabited

/-- The POLICY group: bit k - 1 of the lockout mask for tamper kind k. -/
structure Policy where
  ilim : Nat
  restoreDelay : Nat
  reverseMode : ReverseMode
  mfix : Nat
  lockout : BitVec 7
  deriving DecidableEq, Repr, Inhabited

/-- A tariff record: its eight groups (03, 3.1). -/
structure Tariff where
  id : Nat
  prices : PerBand Nat
  workday : List SwitchPoint
  restday : List SwitchPoint
  restDays : RestDays
  charges : Charges
  friendly : Friendly
  policy : Policy
  deriving DecidableEq, Repr, Inhabited

/-- The default tariff (R61). -/
def Tariff.default : Tariff where
  id := 0
  prices := ⟨0, 0, 0, 0⟩
  workday := [⟨0, .b0⟩]
  restday := [⟨0, .b0⟩]
  restDays := ⟨0#7, []⟩
  charges := ⟨0, 0, 0, 1000, 0⟩
  friendly := ⟨[], 0⟩
  policy := ⟨0, 30, .ignore, 0, 0#7⟩

/-- The pending slot: the pending state with what it holds, the activation time in ARMED only (03). -/
inductive PendingSlot where
  | empty
  | assembling (t : Tariff)
  | armed (t : Tariff) (time : Nat)
  deriving DecidableEq, Repr, Inhabited

/-- The nonvolatile tariff image: a record that passes its check, or a place that fails it (R62). -/
inductive TariffImage where
  | failing
  | holds (t : Tariff)
  deriving DecidableEq, Repr, Inhabited

/-- The image state (R62). -/
inductive ImageState where
  | current
  | writing
  | stale
  deriving DecidableEq, Repr, Inhabited

/-- An image write in progress: the copy it took when it started, and its time. -/
structure ImageWrite where
  copy : Tariff
  ms : Nat
  deriving DecidableEq, Repr, Inhabited

/-- TARIFF (03). -/
structure TariffStore where
  active : Tariff
  slot : PendingSlot
  commissioned : Bool
  image : TariffImage
  imageState : ImageState
  imageRequest : Bool
  imageWriting : Option ImageWrite
  deriving DecidableEq, Repr, Inhabited

/-- CAL (08). The second phase is in milliseconds of the present second. -/
structure Calendar where
  t : Nat
  phase : Nat
  offset : Int
  valid : Bool
  hold : List Record
  deriving DecidableEq, Repr, Inhabited

/-- The outcome of a code (R76). -/
inductive CodeOutcome where
  | accepted
  | malformed
  | checkFailed
  | unknownKind
  | old
  | used
  | invalidField
  | overLimit
  | debtLimit
  | staleClearance
  | conditionPresent
  deriving DecidableEq, Repr, Inhabited

/-- The deciphered fields of a code (R75). -/
structure Deciphered where
  kind : Nat
  issue : Nat
  payload : Nat
  check : Nat
  deriving DecidableEq, Repr, Inhabited

/-- An entry of the pending-code queue (R65). -/
structure CodeEntry where
  port : Port
  ticket : Byte
  digits : List Nat
  deriving DecidableEq, Repr, Inhabited

/-- The phase of the entry in flight (04, 4.2). JUDGING holds the fields, none when the entry is marked malformed (R73).
PERSISTING holds the accepted code, the share d of a CREDIT code, and whether a checkpoint write that started after the
acceptance is in progress (R71). -/
inductive FlightPhase where
  | deciphering (ms : Nat)
  | judging (fields : Option Deciphered)
  | persisting (code : CodePart) (share : Option Nat) (covered : Bool)
  deriving DecidableEq, Repr, Inhabited

/-- The entry in flight, with the key read when the engine took it (R69). -/
structure Flight where
  entry : CodeEntry
  key : BitVec 144
  phase : FlightPhase
  deriving DecidableEq, Repr, Inhabited

/-- A result entry (R85). -/
structure CodeResult where
  ticket : Byte
  outcome : CodeOutcome
  code : Option CodePart
  share : Option Nat
  deriving DecidableEq, Repr, Inhabited

/-- A port's lockout record (R87, R88); the penalty in seconds. -/
structure Lockout where
  failures : Nat
  k : Nat
  penalty : Nat
  deriving DecidableEq, Repr, Inhabited

/-- CODE (04). -/
structure CodeEngine where
  queue : List CodeEntry
  flight : Option Flight
  tickets : PerPort Byte
  results : PerPort (List CodeResult)
  accepted : List Nat
  lowMark : Nat
  lockout : PerPort Lockout
  deriving DecidableEq, Repr, Inhabited

/-- The six switch states (05, 5.2). -/
inductive SwitchState where
  | unknown
  | closed
  | opened
  | armed
  | opening
  | closing
  deriving DecidableEq, Repr, Inhabited

/-- The phases of an operation (05, 5.4). -/
inductive OpPhase where
  | waitPermit
  | deadTime
  | pulse
  | settle
  deriving DecidableEq, Repr, Inhabited

/-- The two coils (05, 5.4). -/
inductive Coil where
  | openCoil
  | closeCoil
  deriving DecidableEq, Repr, Inhabited

/-- SWITCH (05). -/
structure Switch where
  set : DemandSet
  state : SwitchState
  phase : Option OpPhase
  attempts : Nat
  opTimer : Timer
  position : Position
  confirm : Bool
  fault : Bool
  deadCoil : Option Coil
  deadMs : Nat
  holdOff : Timer
  overload : Timer
  streak : Nat
  bypass : Timer
  bypassRaised : Bool
  waiting : List Record
  deriving DecidableEq, Repr, Inhabited

/-- The clock time and clock-valid flag a cover latch stores (R118). -/
structure LatchTime where
  time : Nat
  valid : Bool
  deriving DecidableEq, Repr, Inhabited

/-- TAMPER (06). sampling is the model's own count of the 250 ms between backup samples (R119). -/
structure Tamper where
  ts : Nat
  tsLock : Nat
  tsClear : Nat
  latch : PerCover (Option LatchTime)
  lastSample : PerCover CoverPos
  debounced : PerCover CoverPos
  debounce : PerCover Timer
  feFlag : Bool
  presence : Timer
  magnetic : Bool
  release : Timer
  hold : List Record
  sampling : Timer
  deriving DecidableEq, Repr, Inhabited

/-- A record with the number LOG gave it (R140). -/
structure LogRecord where
  number : Nat
  body : Record
  deriving DecidableEq, Repr, Inhabited

/-- A place of the log copy of the collection mark that passes its check (R146). -/
structure MarkCopy where
  mark : Nat
  count : Nat
  deriving DecidableEq, Repr, Inhabited

/-- One of the two alternating nonvolatile places (R146, R184). -/
inductive Place where
  | a
  | b
  deriving DecidableEq, Repr, Inhabited

/-- LOG's writer (R142, R146). -/
inductive LogWriter where
  | idle
  | record (ms : Nat)
  | mark (place : Place) (copy : MarkCopy) (ms : Nat)
  deriving DecidableEq, Repr, Inhabited

/-- LOG (07). The uncollected count is not held apart (section 7.0). A place of the mark that fails its check is none. -/
structure EvidenceLog where
  records : List LogRecord
  markA : Option MarkCopy
  markB : Option MarkCopy
  heldMark : Nat
  staging : List LogRecord
  next : Option Nat
  overflow : Nat
  dropped : Nat
  threshold : Nat
  writer : LogWriter
  markRequest : Bool
  deriving DecidableEq, Repr, Inhabited

/-- The pending flag and the occurrence count of one class on one port (11). -/
structure ClassState where
  pending : Bool
  count : Byte
  deriving DecidableEq, Repr, Inhabited

/-- One port's alert state (11). -/
structure PortAlert where
  classes : PerClass ClassState
  levels : PerClass Nat
  threshold : Nat
  deriving DecidableEq, Repr, Inhabited

/-- ALERT (11). -/
structure Alert where
  ports : PerPort PortAlert
  conditions : PerCondition Bool
  deriving DecidableEq, Repr, Inhabited

/-- The supply state (R164). -/
inductive SupplyState where
  | mainGood
  | mainFailed
  | restoring
  deriving DecidableEq, Repr, Inhabited

/-- The restore origin (R164). -/
inductive RestoreOrigin where
  | outage
  | pin
  deriving DecidableEq, Repr, Inhabited

/-- The last reset cause (R167). -/
inductive ResetCause where
  | cold
  | warm
  | pin
  deriving DecidableEq, Repr, Inhabited

/-- What a checkpoint holds (R172); counter is the record counter, 0 when exhausted. -/
structure Checkpoint where
  seq : Nat
  time : Nat
  b : Int
  r : Nat
  q : Nat
  h : Nat
  d : Nat
  emergency : Emergency
  accepted : List Nat
  lowMark : Nat
  ts : Nat
  tsLock : Nat
  tsClear : Nat
  totals : Totals
  set : DemandSet
  confirm : Bool
  commissioned : Bool
  counter : Nat
  active : Tariff
  deriving DecidableEq, Repr, Inhabited

/-- A slot of the checkpoint ring (09, 9.5). -/
inductive Slot where
  | empty
  | invalid
  | valid (c : Checkpoint)
  deriving DecidableEq, Repr, Inhabited

/-- The checkpoint writer: WRITING holds the slot's index, the contents taken at the start, and the time (R173). -/
inductive CheckpointWriter where
  | idle
  | writing (slot : Nat) (c : Checkpoint) (ms : Nat)
  deriving DecidableEq, Repr, Inhabited

/-- The sequence and the time of a completed checkpoint write (R177). -/
structure DoneWrite where
  seq : Nat
  time : Nat
  deriving DecidableEq, Repr, Inhabited

/-- SUPMON (09). retention says whether the retention check would be found valid. -/
structure Supmon where
  supply : SupplyState
  brownOut : Bool
  origin : Option RestoreOrigin
  restoreTimer : Timer
  cause : ResetCause
  failTime : Option Nat
  retention : Bool
  ring : List Slot
  nextSeq : Nat
  request : Bool
  writer : CheckpointWriter
  lastDone : Option DoneWrite
  deriving DecidableEq, Repr, Inhabited

/-- The receiver state of a port; BODY keeps the length n (R178). -/
inductive Receiver where
  | hunting
  | length
  | body (n : Nat)
  deriving DecidableEq, Repr, Inhabited

/-- One port's line: the bytes received after the start byte, the owed response frames in sending order, and how many
bytes of the first have been sent (10). -/
structure Line where
  receiver : Receiver
  received : List Byte
  owed : List (List Byte)
  sent : Nat
  discarded : Nat
  deriving DecidableEq, Repr, Inhabited

/-- The network port's rate (R180). -/
inductive Baud where
  | b9600
  | b19200
  | b38400
  | b115200
  deriving DecidableEq, Repr, Inhabited

/-- MPORT and NPORT (10). txTenths is how far the network port has sent its present response byte, in tenths of a bit
(R180); msdo is the byte last clocked out, or begun, in this selection, none while MSDO is high impedance (R179); deaf says that the
meter port waits for MCSN to fall after a restore, and stale that the byte on the network port's line began while the main
domain was stopped, so that the port waits for the next start bit (R189; log entry 35). -/
structure Ports where
  line : PerPort Line
  baud : Baud
  interByte : Timer
  txTenths : Nat
  msdo : Option Byte
  deaf : Bool
  stale : Bool
  deriving DecidableEq, Repr, Inhabited

/-- The identity record (R184). -/
structure IdentityRecord where
  number : Option Nat
  key : Option (BitVec 144)
  provisioned : Bool
  locked : Bool
  deriving DecidableEq, Repr, Inhabited

/-- A place of the identity image that passes its check (R184). -/
structure IdentityCopy where
  data : IdentityRecord
  count : Nat
  deriving DecidableEq, Repr, Inhabited

/-- An identity write in progress: its place, what it writes, and its time (R184). -/
structure IdentityWrite where
  place : Place
  copy : IdentityCopy
  ms : Nat
  deriving DecidableEq, Repr, Inhabited

/-- The identity area (10.5); again is the coalesced further request. -/
structure Identity where
  working : IdentityRecord
  placeA : Option IdentityCopy
  placeB : Option IdentityCopy
  writing : Option IdentityWrite
  again : Bool
  deriving DecidableEq, Repr, Inhabited

/-- The input pins as they stand, and whether VMAIN is above 3.0 V (00; log entry 8). -/
structure Pins where
  lsense : Bool
  cinhn : Bool
  crdy : Bool
  mags : Bool
  covers : PerCover CoverPos
  baud1 : Bool
  baud0 : Bool
  mcsn : Bool
  resetn : Bool
  vmainGood : Bool
  deriving DecidableEq, Repr, Inhabited

/-- The whole part. handed holds the requests that one block has handed to another and that the other has not yet taken,
oldest first (log entry 2); pending holds the commands that wait at the part. -/
structure State where
  mlr : Mlr
  totals : Totals
  bill : Bill
  tariff : TariffStore
  cal : Calendar
  code : CodeEngine
  sw : Switch
  tamper : Tamper
  log : EvidenceLog
  alert : Alert
  supmon : Supmon
  ports : Ports
  identity : Identity
  pins : Pins
  handed : List Instr
  pending : List Instr
  deriving DecidableEq, Repr

/-- The part stops with a fault: no command does (NOTES.md, Stops). -/
inductive Fault where
  deriving DecidableEq, Repr

/-- Why a command has no meaning. -/
inductive Refusal where
  /-- Raised by an arm of exec whose command has no meaning yet; safe, as it only stops. No arm raises it. -/
  | notModelled (mnemonic : String)
  deriving DecidableEq, Repr

/-- What a meaning answers. -/
abbrev Result := Host.Outcome State Fault Refusal

/-- The default level table of the meter port (11.2). -/
def defaultMeterLevels : PerClass Nat where
  latched := { tamper := 6, relayFault := 5, supplyChanged := 2, codeDone := 4, tariffActivated := 1, powerRestored := 2 }
  condition := { creditExhausted := 5, lowCredit := 3, emergencyAvailable := 3, armed := 4, metrologyLost := 1,
                 evidenceThreshold := 0 }

/-- The default level table of the network port (11.2). -/
def defaultNetworkLevels : PerClass Nat where
  latched := { tamper := 7, relayFault := 6, supplyChanged := 3, codeDone := 4, tariffActivated := 2, powerRestored := 3 }
  condition := { creditExhausted := 3, lowCredit := 1, emergencyAvailable := 0, armed := 2, metrologyLost := 5,
                 evidenceThreshold := 4 }

/-- Every class clear with count 0 (R196). -/
def noClasses : PerClass ClassState where
  latched := ⟨⟨false, 0⟩, ⟨false, 0⟩, ⟨false, 0⟩, ⟨false, 0⟩, ⟨false, 0⟩, ⟨false, 0⟩⟩
  condition := ⟨⟨false, 0⟩, ⟨false, 0⟩, ⟨false, 0⟩, ⟨false, 0⟩, ⟨false, 0⟩, ⟨false, 0⟩⟩

/-- Every condition absent (R196). -/
def noConditions : PerCondition Bool := ⟨false, false, false, false, false, false⟩

/-- ALERT at its defaults (R196). -/
def Alert.default : Alert where
  ports := ⟨⟨noClasses, defaultMeterLevels, 0⟩, ⟨noClasses, defaultNetworkLevels, 0⟩⟩
  conditions := noConditions

/-- All energy totals 0 (R19). -/
def Totals.zero : Totals := ⟨0, 0, 0, 0, ⟨0, 0, 0, 0⟩⟩

/-- A port's line after a restore (R189). -/
def Line.fresh : Line := ⟨.hunting, [], [], 0, 0⟩

/-- An identity record of a part never provisioned (R185). -/
def IdentityRecord.none : IdentityRecord := ⟨Option.none, Option.none, false, false⟩

/-- No failure, no penalty (R91). -/
def Lockout.clear : Lockout := ⟨0, 0, 0⟩

/-- MLR at the end of a restore (R19). -/
def Mlr.restored : Mlr where
  link := .never
  lastSeq := none
  eLast := none
  silence := .started
  linkCut := .stopped
  linkCutRaised := false
  badReports := 0
  unbalanced := 0
  balanced := 0
  episode := false
  reverse := 0
  rearm := 0
  reverseRaised := false
  overload := 0

/-- The part right after the end of the first restore of a new part: cold, with no valid checkpoint (R164, R167, R171;
log entry 6). The pin levels are log entry 7's. -/
def State.reset : State where
  mlr := Mlr.restored
  totals := Totals.zero
  bill := { b := 0, r := 0, q := 0, h := 0, d := 0, emergency := .unavailable, deferral := false, floor := false }
  tariff :=
    { active := Tariff.default, slot := .empty, commissioned := false, image := .failing, imageState := .writing,
      imageRequest := false, imageWriting := some ⟨Tariff.default, 0⟩ }
  cal := { t := 0, phase := 0, offset := 0, valid := false, hold := [] }
  code :=
    { queue := [], flight := none, tickets := ⟨0, 0⟩, results := ⟨[], []⟩, accepted := [], lowMark := 0,
      lockout := ⟨Lockout.clear, Lockout.clear⟩ }
  sw :=
    { set := { DemandSet.none with uncommissioned := true }, state := .opening, phase := some .waitPermit, attempts := 0,
      opTimer := .stopped, position := .unknown, confirm := true, fault := false, deadCoil := none, deadMs := 0,
      holdOff := .started, overload := .stopped, streak := 0, bypass := .stopped, bypassRaised := false, waiting := [] }
  tamper :=
    { ts := 0, tsLock := 0, tsClear := 0, latch := ⟨none, none⟩, lastSample := ⟨.closed, .closed⟩,
      debounced := ⟨.closed, .closed⟩, debounce := ⟨.stopped, .stopped⟩, feFlag := false, presence := .stopped,
      magnetic := false, release := .stopped, hold := [], sampling := .stopped }
  log :=
    { records := [], markA := none, markB := none, heldMark := 0,
      staging :=
        [⟨1, { time := 0, valid := false, kind := .coldStart, energy := some 0 }⟩,
         ⟨2, { time := 0, valid := false, kind := .checkpointLost }⟩,
         ⟨3, { time := 0, valid := false, kind := .powerRestore }⟩],
      next := some 4, overflow := 0, dropped := 0, threshold := 32, writer := .idle, markRequest := false }
  alert :=
    { ports :=
        ⟨{ classes := noClasses.set (.latched .powerRestored) ⟨true, 1⟩, levels := defaultMeterLevels, threshold := 0 },
         { classes := noClasses.set (.latched .powerRestored) ⟨true, 1⟩, levels := defaultNetworkLevels, threshold := 0 }⟩,
      conditions := noConditions }
  supmon :=
    { supply := .mainGood, brownOut := false, origin := none, restoreTimer := .stopped, cause := .cold, failTime := none,
      retention := true, ring := List.replicate 8 .empty, nextSeq := 1, request := true, writer := .idle,
      lastDone := none }
  ports := { line := ⟨Line.fresh, Line.fresh⟩, baud := .b9600, interByte := .stopped, txTenths := 0, msdo := none,
             deaf := false, stale := false }
  identity :=
    { working := IdentityRecord.none, placeA := none, placeB := none, writing := none, again := false }
  pins :=
    { lsense := false, cinhn := true, crdy := false, mags := false, covers := ⟨.closed, .closed⟩, baud1 := false,
      baud0 := false, mcsn := true, resetn := true, vmainGood := true }
  handed := []
  pending := []

end Sys2Proof.Machine
end

