-- ==== Sys2Proof/Machine/Limits.lean ====
section
/-! DEFINITION. The bounds and times the spec names, each once. -/

namespace Sys2Proof.Machine

/-- B_MIN (R20). -/
def balanceMin : Int := -1000000000000
/-- The greatest debt, and the bound of the limit tests of R27 and R29: 10^12 m¢. -/
def moneyMax : Nat := 1000000000000
/-- The greatest 32-bit value: T, TS and record numbers end there (R127, R140, R152). -/
def max32 : Nat := 4294967295
/-- Where an energy total saturates (R12). -/
def max48 : Nat := 281474976710655
/-- Where the 16-bit counts saturate (R2, R140, R144, R178). -/
def max16 : Nat := 65535
/-- The cap of one accrual: 31 days (R24). -/
def accrualCap : Nat := 2678400
/-- Seconds of a day (R23). -/
def daySeconds : Nat := 86400

/-- Streak lengths: R13, R14, R16, R109. -/
def imbalanceRun : Nat := 30
def reverseRun : Nat := 10
def overloadRun : Nat := 5
def energyOpenRun : Nat := 3

/-- The bounds of queues, holds and lists: R68, R72, R83, R101, R128, R140, R142, R144, R159. -/
def codeQueueMax : Nat := 4
def resultsMax : Nat := 4
def acceptedMax : Nat := 32
def switchHoldMax : Nat := 2
def tamperHoldMax : Nat := 8
def stagingMax : Nat := 8
def logMax : Nat := 128
def uncollectedMax : Nat := 64
def clockHoldMax : Nat := 4

/-- Times in milliseconds: R7, R8. -/
def silenceMs : Nat := 5000
def linkCutMs : Nat := 60000
/-- R117, R119, R123, R124. -/
def debounceMs : Nat := 20
def samplingMs : Nat := 250
def presenceMs : Nat := 2000
def releaseMs : Nat := 10000
/-- R69. -/
def decipherMs : Nat := 5
/-- R97, R98, R100, R107, R108, R110. -/
def deadTimeMs : Nat := 20
def pulseMs : Nat := 60
def settleMs : Nat := 100
def holdOffMs : Nat := 10000
def overloadMs : Nat := 3600000
def bypassMs : Nat := 2000
/-- R142, R146; R62, R173, R184 (the longest these three may take). -/
def logWriteMs : Nat := 10
def longWriteMs : Nat := 25
/-- R167, R180, R152. -/
def restoreMs : Nat := 64
def interByteMs : Nat := 20
def secondMs : Nat := 1000

/-- One more, up to a bound. -/
def bump (bound n : Nat) : Nat := min (n + 1) bound

/-- n added to a total that saturates (R12). -/
def addTotal (total n : Nat) : Nat := min (total + n) max48

/-- A timer that has reached its limit and rests there. -/
def Timer.expired (limit : Nat) : Timer := ⟨false, limit⟩

/-- One millisecond more on a running timer, up to its limit. -/
def Timer.tick (limit : Nat) (t : Timer) : Timer := if t.running then ⟨true, min (t.ms + 1) limit⟩ else t

/-- Whether a running timer has reached its limit. -/
def Timer.due (limit : Nat) (t : Timer) : Bool := t.running && decide (limit ≤ t.ms)

end Sys2Proof.Machine
end

