-- ==== Sys2Proof/Machine/Bytes.lean ====
section
/-! DEFINITION. Fields and frames as bytes, most significant byte first (12_formats.md, R197). -/

namespace Sys2Proof.Machine

/-- The k bytes of w modulo 256^k, most significant first. -/
def beNat : Nat → Nat → List Byte
  | 0, _ => []
  | k + 1, w => BitVec.ofNat 8 (w / 256 ^ k) :: beNat k w

/-- The k bytes of x in two's complement. -/
def beInt (k : Nat) (x : Int) : List Byte := beNat k (x % (256 ^ k : Nat)).toNat

/-- The number that bytes spell, most significant first. -/
def ofBe (bs : List Byte) : Nat := bs.foldl (fun acc b => acc * 256 + b.toNat) 0

/-- The sum of bytes modulo 256. -/
def byteSum (bs : List Byte) : Byte := bs.foldl (· + ·) 0#8

/-- Flags in one byte, the first in bit 0 (R197). -/
def flagBits : List Bool → Nat
  | [] => 0
  | b :: bs => (if b then 1 else 0) + 2 * flagBits bs

def flagByte (fs : List Bool) : List Byte := [BitVec.ofNat 8 (flagBits fs)]

/-- A value that may be absent: a presence flag, then the value or 0 (R197). -/
def beOption (k : Nat) : Option Nat → List Byte
  | some w => 1#8 :: beNat k w
  | none => 0#8 :: beNat k 0

/-- A millisecond count as a timer of at most 10 s is sent, and as a longer one is (R197). -/
def timerMs (ms : Nat) : List Byte := beNat 2 ms
def timerSeconds (ms : Nat) : List Byte := beNat 2 (ms / 1000)

/-- The statuses of a response (10.3, 12.3). -/
inductive Status where
  | ok
  | queued
  | pending
  | busy
  | frameError
  | unknownCommand
  | notPermitted
  | badArgument
  | wrongState
  | lockedOut
  | notProvisioned
  | notCommissioned
  | identityLocked
  | stale
  | conditionPresent
  | notAvailable
  | notArmed
  | invalidTariff
  | unknownTicket
  deriving DecidableEq, Repr

/-- Status codes (12.3). -/
def Status.code : Status → Byte
  | .ok => 0x00
  | .queued => 0x01
  | .pending => 0x02
  | .busy => 0x03
  | .frameError => 0x04
  | .unknownCommand => 0x05
  | .notPermitted => 0x06
  | .badArgument => 0x07
  | .wrongState => 0x08
  | .lockedOut => 0x09
  | .notProvisioned => 0x0A
  | .notCommissioned => 0x0B
  | .identityLocked => 0x0C
  | .stale => 0x0E
  | .conditionPresent => 0x0F
  | .notAvailable => 0x10
  | .notArmed => 0x11
  | .invalidTariff => 0x12
  | .unknownTicket => 0x13

/-- A status and its data. -/
structure Reply where
  status : Status
  data : List Byte
  deriving DecidableEq, Repr

/-- A refusal, or an answer without data. -/
def Reply.bare (st : Status) : Reply := ⟨st, []⟩

/-- The response frame: start byte, length, status, data, and the check byte that makes all bytes sum to 0 (R197). -/
def responseFrame (r : Reply) : List Byte :=
  let body := 0x3C#8 :: BitVec.ofNat 8 (r.data.length + 1) :: r.status.code :: r.data
  body ++ [- byteSum body]

end Sys2Proof.Machine
end

