-- ==== Sys2Proof/Machine/Flags.lean ====
section
/-! DEFINITION. The codes of the enumerations and masks of 12.6, and the evidence class of a record kind. -/

namespace Sys2Proof.Machine

/-- Tamper kind codes; 0 is none (12.6). -/
def tamperKindCode : TamperKind → Nat
  | .coverOpen => 1
  | .tcoverOpen => 2
  | .magnetic => 3
  | .reverseFlow => 4
  | .currentImbalance => 5
  | .linkCut => 6
  | .bypass => 7

/-- Whether the lockout mask holds a kind: bit k - 1 for kind k (12.4). -/
def maskHolds (mask : BitVec 7) (k : TamperKind) : Bool := mask.getLsbD (tamperKindCode k - 1)

/-- The demand set as its byte: bit 0 CREDIT, 1 OVERLOAD, 2 TAMPER, 3 REMOTE, 4 UNCOMMISSIONED (12.6). -/
def demandCode (d : DemandSet) : Nat := flagBits [d.credit, d.overload, d.tamper, d.remote, d.uncommissioned]

def positionCode : Position → Nat
  | .unknown => 0
  | .opened => 1
  | .closed => 2

def switchStateCode : SwitchState → Nat
  | .unknown => 0
  | .closed => 1
  | .opened => 2
  | .armed => 3
  | .opening => 4
  | .closing => 5

def opPhaseCode : Option OpPhase → Nat
  | none => 0
  | some .waitPermit => 1
  | some .deadTime => 2
  | some .pulse => 3
  | some .settle => 4

def linkCode : LinkState → Nat
  | .never => 0
  | .synced => 1
  | .lost => 2

def emergencyCode : Emergency → Nat
  | .unavailable => 0
  | .available => 1
  | .inUse => 2

def slotCode : PendingSlot → Nat
  | .empty => 0
  | .assembling _ => 1
  | .armed _ _ => 2

def imageCode : ImageState → Nat
  | .current => 0
  | .writing => 1
  | .stale => 2

def flightCode : Option Flight → Nat
  | none => 0
  | some f =>
    match f.phase with
    | .deciphering _ => 1
    | .judging _ => 2
    | .persisting _ _ _ => 3

/-- The phase code of an entry that is still queued (12.6). -/
def queuedCode : Nat := 4

def causeCode : ResetCause → Nat
  | .cold => 0
  | .warm => 1
  | .pin => 2

def baudCode : Baud → Nat
  | .b9600 => 0
  | .b19200 => 1
  | .b38400 => 2
  | .b115200 => 3

def bandCode : Band → Nat
  | .b0 => 0
  | .b1 => 1
  | .b2 => 2
  | .b3 => 3

def reverseModeCode : ReverseMode → Nat
  | .ignore => 0
  | .chargeAsImport => 1

/-- Outcome codes (12.3). -/
def outcomeCode : CodeOutcome → Nat
  | .accepted => 0
  | .malformed => 1
  | .checkFailed => 2
  | .unknownKind => 3
  | .old => 4
  | .used => 5
  | .invalidField => 6
  | .overLimit => 7
  | .debtLimit => 8
  | .staleClearance => 9
  | .conditionPresent => 10

def recordKindCode : RecordKind → Nat
  | .tamper => 1
  | .tamperCleared => 2
  | .relayFault => 3
  | .coldStart => 4
  | .checkpointLost => 5
  | .clockSet => 6
  | .codeAccepted => 16
  | .codeRefused => 17
  | .relayOpened => 18
  | .relayClosed => 19
  | .powerFail => 20
  | .powerRestore => 21
  | .tariffActivated => 22
  | .metrologyGap => 23
  | .balanceFloor => 24

/-- The class of a kind: EVIDENCE or ROUTINE (R139). -/
def isEvidence : RecordKind → Bool
  | .tamper | .tamperCleared | .relayFault | .coldStart | .checkpointLost | .clockSet => true
  | .codeAccepted | .codeRefused | .relayOpened | .relayClosed | .powerFail | .powerRestore | .tariffActivated
  | .metrologyGap | .balanceFloor => false

/-- The alert class with a number of the class table (11). -/
def alertClassOf : Nat → Option AlertClass
  | 1 => some (.latched .tamper)
  | 2 => some (.latched .relayFault)
  | 3 => some (.condition .creditExhausted)
  | 4 => some (.condition .lowCredit)
  | 5 => some (.condition .emergencyAvailable)
  | 6 => some (.condition .armed)
  | 7 => some (.latched .supplyChanged)
  | 8 => some (.latched .codeDone)
  | 9 => some (.condition .metrologyLost)
  | 10 => some (.condition .evidenceThreshold)
  | 11 => some (.latched .tariffActivated)
  | 12 => some (.latched .powerRestored)
  | _ => none

def alertClassNumber : AlertClass → Nat
  | .latched .tamper => 1
  | .latched .relayFault => 2
  | .condition .creditExhausted => 3
  | .condition .lowCredit => 4
  | .condition .emergencyAvailable => 5
  | .condition .armed => 6
  | .latched .supplyChanged => 7
  | .latched .codeDone => 8
  | .condition .metrologyLost => 9
  | .condition .evidenceThreshold => 10
  | .latched .tariffActivated => 11
  | .latched .powerRestored => 12

/-- The twelve classes in class number order. -/
def allClasses : List AlertClass :=
  [.latched .tamper, .latched .relayFault, .condition .creditExhausted, .condition .lowCredit,
   .condition .emergencyAvailable, .condition .armed, .latched .supplyChanged, .latched .codeDone,
   .condition .metrologyLost, .condition .evidenceThreshold, .latched .tariffActivated, .latched .powerRestored]

end Sys2Proof.Machine
end

