-- ==== Sys2Proof/Machine/Operands.lean ====
section
/-! DEFINITION. How operands are read: the energy report, the tariff groups, the digits of a code and its cipher, the
local offset. Each follows its layout in 12_formats.md. -/

namespace Sys2Proof.Machine

/-- The fields of an energy report that the part uses (12.2). Ip is already limited to 12,000 (R2). -/
structure Report where
  seq : Byte
  magnetic : Bool
  ep : Nat
  en : Nat
  ex : Nat
  ip : Nat
  deriving DecidableEq, Repr

/-- A report from a frame: none unless the frame holds exactly 12 whole bytes, its type is 0xA5 and its bytes sum to 0
(R1, R2). -/
def readReport (bytes : List Byte) (extraBits : Nat) : Option Report :=
  match bytes with
  | [ty, seq, flags, ep1, ep0, en1, en0, ex1, ex0, ip1, ip0, _check] =>
    if extraBits = 0 ∧ ty = 0xA5#8 ∧ byteSum bytes = 0#8 then
      some { seq := seq, magnetic := flags.getLsbD 0, ep := ofBe [ep1, ep0], en := ofBe [en1, en0],
             ex := ofBe [ex1, ex0], ip := min (ofBe [ip1, ip0]) 12000 }
    else none
  | _ => none

/-- The band with a code 0-3. -/
def bandOf (b : Byte) : Option Band :=
  match b.toNat with
  | 0 => some .b0
  | 1 => some .b1
  | 2 => some .b2
  | 3 => some .b3
  | _ => none

/-- Switch points of 3 bytes each, every field in the range of R52. -/
def readSwitchPoints : List Byte → Option (List SwitchPoint)
  | [] => some []
  | m1 :: m0 :: b :: rest =>
    match bandOf b, readSwitchPoints rest with
    | some band, some ps => if ofBe [m1, m0] ≤ 1439 then some (⟨ofBe [m1, m0], band⟩ :: ps) else none
    | _, _ => none
  | _ => none

/-- Day numbers of 2 bytes each. -/
def readDates : List Byte → Option (List Nat)
  | [] => some []
  | d1 :: d0 :: rest => (readDates rest).map (ofBe [d1, d0] :: ·)
  | _ => none

/-- Friendly windows of 5 bytes each, every field in the range of R52. -/
def readWindows : List Byte → Option (List Window)
  | [] => some []
  | m :: s1 :: s0 :: e1 :: e0 :: rest =>
    match readWindows rest with
    | some ws =>
      if ofBe [s1, s0] ≤ 1439 ∧ 1 ≤ ofBe [e1, e0] ∧ ofBe [e1, e0] ≤ 1440 then
        some (⟨m, ofBe [s1, s0], ofBe [e1, e0]⟩ :: ws)
      else none
    | none => none
  | _ => none

/-- A day profile: a count of 1-8 and as many switch points. -/
def readProfile : List Byte → Option (List SwitchPoint)
  | c :: rest =>
    match readSwitchPoints rest with
    | some ps => if 1 ≤ c.toNat ∧ c.toNat ≤ 8 ∧ ps.length = c.toNat then some ps else none
    | none => none
  | [] => none

/-- The RESTDAYS group: mask with bit 7 clear, a count of 0-16 and as many dates. -/
def readRestDays : List Byte → Option RestDays
  | m :: c :: rest =>
    match readDates rest with
    | some ds =>
      if m.getLsbD 7 = false ∧ c.toNat ≤ 16 ∧ ds.length = c.toNat then some ⟨m.setWidth 7, ds⟩ else none
    | none => none
  | _ => none

/-- The CHARGES group: S 4, EC 4, LOWCRED 4, MAXCRED 5, F 2. -/
def readCharges (data : List Byte) : Option Charges :=
  let s := ofBe (data.take 4)
  let ec := ofBe ((data.drop 4).take 4)
  let low := ofBe ((data.drop 8).take 4)
  let maxc := ofBe ((data.drop 12).take 5)
  let f := ofBe ((data.drop 17).take 2)
  if data.length = 19 ∧ s ≤ 100000000 ∧ ec ≤ 100000000 ∧ low ≤ 100000000 ∧ 1000 ≤ maxc ∧ maxc ≤ moneyMax ∧ f ≤ 900 then
    some ⟨s, ec, low, maxc, f⟩
  else none

/-- The FRIENDLY group: a count of 0-4, as many windows, FA 4. -/
def readFriendly : List Byte → Option Friendly
  | c :: rest =>
    match readWindows (rest.take (5 * c.toNat)) with
    | some ws =>
      let fa := ofBe (rest.drop (5 * c.toNat))
      if c.toNat ≤ 4 ∧ rest.length = 5 * c.toNat + 4 ∧ fa ≤ 100000000 then some ⟨ws, fa⟩ else none
    | none => none
  | [] => none

/-- The POLICY group: ILIM 2, restore delay 2, reverse mode 1, Mfix 2, lockout mask 1 with bit 7 clear. -/
def readPolicy : List Byte → Option Policy
  | [i1, i0, d1, d0, m, f1, f0, k] =>
    let ilim := ofBe [i1, i0]
    let delay := ofBe [d1, d0]
    if (ilim = 0 ∨ (100 ≤ ilim ∧ ilim ≤ 12000)) ∧ 30 ≤ delay ∧ delay ≤ 3600 ∧ m.toNat ≤ 1 ∧ k.getLsbD 7 = false then
      some ⟨ilim, delay, if m.toNat = 0 then .ignore else .chargeAsImport, ofBe [f1, f0], k.setWidth 7⟩
    else none
  | _ => none

/-- The PRICES group: P[0] to P[3], 3 bytes each. -/
def readPrices : List Byte → Option (PerBand Nat)
  | [a2, a1, a0, b2, b1, b0, c2, c1, c0, d2, d1, d0] =>
    let p : PerBand Nat := ⟨ofBe [a2, a1, a0], ofBe [b2, b1, b0], ofBe [c2, c1, c0], ofBe [d2, d1, d0]⟩
    if p.b0 ≤ 99999 ∧ p.b1 ≤ 99999 ∧ p.b2 ≤ 99999 ∧ p.b3 ≤ 99999 then some p else none
  | _ => none

/-- TARIFF_PUT's checks and its effect on the pending tariff: none when a check of R51 fails. -/
def putGroup (group : Byte) (data : List Byte) (t : Tariff) : Option Tariff :=
  match group.toNat with
  | 1 => match data with
    | [i1, i0] => some { t with id := ofBe [i1, i0] }
    | _ => none
  | 2 => (readPrices data).map (fun x => { t with prices := x })
  | 3 => (readProfile data).map (fun x => { t with workday := x })
  | 4 => (readProfile data).map (fun x => { t with restday := x })
  | 5 => (readRestDays data).map (fun x => { t with restDays := x })
  | 6 => (readCharges data).map (fun x => { t with charges := x })
  | 7 => (readFriendly data).map (fun x => { t with friendly := x })
  | 8 => (readPolicy data).map (fun x => { t with policy := x })
  | _ => none

/-- A day profile as 12.4 lays it out. -/
def profileBytes (ps : List SwitchPoint) : List Byte :=
  beNat 1 ps.length ++ ps.flatMap (fun p => beNat 2 p.minute ++ beNat 1 (bandCode p.band))

/-- The data of one group of a tariff (12.4). -/
def groupBytes (group : Byte) (t : Tariff) : List Byte :=
  match group.toNat with
  | 1 => beNat 2 t.id
  | 2 => beNat 3 t.prices.b0 ++ beNat 3 t.prices.b1 ++ beNat 3 t.prices.b2 ++ beNat 3 t.prices.b3
  | 3 => profileBytes t.workday
  | 4 => profileBytes t.restday
  | 5 => beNat 1 t.restDays.mask.toNat ++ beNat 1 t.restDays.dates.length ++ t.restDays.dates.flatMap (beNat 2)
  | 6 => beNat 4 t.charges.standing ++ beNat 4 t.charges.emergency ++ beNat 4 t.charges.lowCredit ++
         beNat 5 t.charges.maxCredit ++ beNat 2 t.charges.share
  | 7 => beNat 1 t.friendly.windows.length ++
         t.friendly.windows.flatMap (fun w => beNat 1 w.mask.toNat ++ beNat 2 w.start ++ beNat 2 w.stop) ++
         beNat 4 t.friendly.allowance
  | 8 => beNat 2 t.policy.ilim ++ beNat 2 t.policy.restoreDelay ++ beNat 1 (reverseModeCode t.policy.reverseMode) ++
         beNat 2 t.policy.mfix ++ beNat 1 t.policy.lockout.toNat
  | _ => []

/-- Whether a list strictly increases. -/
def increasing : List Nat → Bool
  | a :: b :: rest => decide (a < b) && increasing (b :: rest)
  | _ => true

/-- The whole-record test of a day profile (R53). -/
def profileSound (ps : List SwitchPoint) : Bool :=
  (match ps with | p :: _ => decide (p.minute = 0) | [] => false) && increasing (ps.map (·.minute))

/-- The first group, in record order, that fails its whole-record test (R53). -/
def firstFailingGroup (t : Tariff) : Option Nat :=
  if !profileSound t.workday then some 3
  else if !profileSound t.restday then some 4
  else if !increasing t.restDays.dates then some 5
  else if !decide (t.charges.lowCredit ≤ t.charges.maxCredit) then some 6
  else if !t.friendly.windows.all (fun w => decide (w.start < w.stop)) then some 7
  else none

/-- Every field of a record in its range (03, 3.1). -/
def Tariff.inRange (t : Tariff) : Bool :=
  decide (t.id < 2 ^ 16) &&
  (decide (t.prices.b0 ≤ 99999) && decide (t.prices.b1 ≤ 99999) && decide (t.prices.b2 ≤ 99999) &&
    decide (t.prices.b3 ≤ 99999)) &&
  (decide (1 ≤ t.workday.length) && decide (t.workday.length ≤ 8) && t.workday.all (fun p => decide (p.minute ≤ 1439))) &&
  (decide (1 ≤ t.restday.length) && decide (t.restday.length ≤ 8) && t.restday.all (fun p => decide (p.minute ≤ 1439))) &&
  (decide (t.restDays.dates.length ≤ 16) && t.restDays.dates.all (fun d => decide (d < 2 ^ 16))) &&
  (decide (t.charges.standing ≤ 100000000) && decide (t.charges.emergency ≤ 100000000) &&
    decide (t.charges.lowCredit ≤ 100000000) && decide (1000 ≤ t.charges.maxCredit) &&
    decide (t.charges.maxCredit ≤ moneyMax) && decide (t.charges.share ≤ 900)) &&
  (decide (t.friendly.windows.length ≤ 4) &&
    t.friendly.windows.all (fun w => decide (w.start ≤ 1439) && decide (1 ≤ w.stop) && decide (w.stop ≤ 1440)) &&
    decide (t.friendly.allowance ≤ 100000000)) &&
  ((decide (t.policy.ilim = 0) || (decide (100 ≤ t.policy.ilim) && decide (t.policy.ilim ≤ 12000))) &&
    decide (30 ≤ t.policy.restoreDelay) && decide (t.policy.restoreDelay ≤ 3600) && decide (t.policy.mfix < 2 ^ 16))

/-- A valid record: every field in range and every whole-record test passed (03, 3.1). -/
def Tariff.valid (t : Tariff) : Bool := t.inRange && (firstFailingGroup t).isNone

/-- The digits of a code, or none when the argument is not exactly 22 digit characters (R64). -/
def readDigits (chars : List Byte) : Option (List Nat) :=
  if chars.length = 22 ∧ chars.all (fun c => decide (0x30 ≤ c.toNat) && decide (c.toNat ≤ 0x39)) then
    some (chars.map (fun c => c.toNat - 0x30))
  else none

/-- The decimal number V of the digits, the first most significant (R73). -/
def codeValue (digits : List Nat) : Nat := digits.foldl (fun acc d => acc * 10 + d) 0

/-- The keyed function f (R74). -/
def roundF (x k : BitVec 36) : BitVec 36 := ((x + k) * 40503#36).rotateLeft 7

/-- One round: (L, Rh) becomes (Rh, L XOR f(Rh, K)) (R74). -/
def cipherRound (lr : BitVec 36 × BitVec 36) (k : BitVec 36) : BitVec 36 × BitVec 36 :=
  (lr.2, lr.1 ^^^ roundF lr.2 k)

/-- K_1 to K_4: the 36-bit slices of the token key, K_1 the most significant (R74). -/
def roundKeys (key : BitVec 144) : List (BitVec 36) :=
  [key.extractLsb' 108 36, key.extractLsb' 72 36, key.extractLsb' 36 36, key.extractLsb' 0 36]

/-- The deciphered field value of V < 2^72 (R73, R74). -/
def decipher (key : BitVec 144) (v : Nat) : BitVec 72 :=
  let out := (roundKeys key).foldl cipherRound (BitVec.ofNat 36 (v / 2 ^ 36), BitVec.ofNat 36 v)
  out.1 ++ out.2

/-- The vending system's rounds, in the order it applies them (R74, after the table). -/
def encipherRound (lr : BitVec 36 × BitVec 36) (k : BitVec 36) : BitVec 36 × BitVec 36 :=
  (lr.2 ^^^ roundF lr.1 k, lr.1)

/-- The number a vending system writes for a field value (R74). -/
def encipher (key : BitVec 144) (w : BitVec 72) : Nat :=
  let out := (roundKeys key).reverse.foldl encipherRound (w.extractLsb' 36 36, w.extractLsb' 0 36)
  (out.1 ++ out.2).toNat

/-- The four fields (R75, 12.5). -/
def splitFields (w : BitVec 72) : Deciphered where
  kind := (w.extractLsb' 68 4).toNat
  issue := (w.extractLsb' 44 24).toNat
  payload := (w.extractLsb' 12 32).toNat
  check := (w.extractLsb' 0 12).toNat

/-- What DECIPHERING forms: none when the entry is malformed (R73). -/
def decipherDigits (key : BitVec 144) (digits : List Nat) : Option Deciphered :=
  if 2 ^ 72 ≤ codeValue digits then none else some (splitFields (decipher key (codeValue digits)))

/-- The check of a code (R75). -/
def codeCheck (f : Deciphered) : Nat := (7 * f.kind + 3 * f.issue + f.payload) % 4093

/-- Whether CLOCK_SET takes an offset (R157). -/
def offsetTaken (o : Int) : Bool := decide (-720 ≤ o) && decide (o ≤ 840) && decide (o % 15 = 0)

end Sys2Proof.Machine
end

