-- ==== Sys2Proof/Machine/Lookups.lean ====
section
/-! DEFINITION. The lookups TARIFF and CAL answer: local time, day type, band, friendly period (R46 to R49, R155). -/

namespace Sys2Proof.Machine

/-- The active tariff, from which every lookup is answered (R46). -/
def State.active (s : State) : Tariff := s.tariff.active

/-- local = T + offset × 60 (R155). -/
def localSeconds (t : Nat) (offset : Int) : Int := t + offset * 60
def localDay (t : Nat) (offset : Int) : Int := localSeconds t offset / 86400
def localWeekday (t : Nat) (offset : Int) : Nat := (localDay t offset % 7).toNat
def localMinute (t : Nat) (offset : Int) : Nat := (localSeconds t offset % 86400 / 60).toNat

inductive DayType where
  | workday
  | restday
  deriving DecidableEq, Repr

/-- Whether a day number is one of the special dates. -/
def specialDate (tar : Tariff) (day : Int) : Bool := tar.restDays.dates.any (fun d => decide ((d : Int) = day))

/-- The day type of a local day (R47). -/
def dayType (tar : Tariff) (day : Int) (weekday : Nat) : DayType :=
  if specialDate tar day || tar.restDays.mask.getLsbD weekday then .restday else .workday

/-- The switch point with the greatest minute at or below m, of two candidates. -/
def laterPoint (m : Nat) (best : Option SwitchPoint) (p : SwitchPoint) : Option SwitchPoint :=
  if p.minute ≤ m then
    match best with
    | some q => if q.minute ≤ p.minute then some p else some q
    | none => some p
  else best

/-- The band a profile gives at a minute (R48); without a switch point at or below it, a free value (log entry 20). -/
def bandAt (profile : List SwitchPoint) (m : Nat) : Band :=
  match profile.foldl (laterPoint m) none with
  | some p => p.band
  | none => Config.bandWithoutSwitchPoint (profile.map (·.minute)) m

/-- The band in force under a tariff at a clock time (R48). -/
def bandUnder (tar : Tariff) (t : Nat) (offset : Int) (valid : Bool) : Band :=
  if valid then
    match dayType tar (localDay t offset) (localWeekday t offset) with
    | .workday => bandAt tar.workday (localMinute t offset)
    | .restday => bandAt tar.restday (localMinute t offset)
  else .b0

/-- Whether a friendly window applies (R49). -/
def windowActive (tar : Tariff) (t : Nat) (offset : Int) (w : Window) : Bool :=
  (if specialDate tar (localDay t offset) then w.mask.getLsbD 7 else w.mask.getLsbD (localWeekday t offset)) &&
    decide (w.start ≤ localMinute t offset) && decide (localMinute t offset < w.stop)

/-- The friendly lookup under a tariff at a clock time (R49). -/
def friendlyUnder (tar : Tariff) (t : Nat) (offset : Int) (valid : Bool) : Bool :=
  valid && tar.friendly.windows.any (windowActive tar t offset)

/-- The band in force now, and its price P (R21, R46). -/
def bandInForce (s : State) : Band := bandUnder s.active s.cal.t s.cal.offset s.cal.valid
def priceInForce (s : State) : Nat := s.active.prices.get (bandInForce s)

/-- Whether a friendly period is active now (R36). -/
def friendlyNow (s : State) : Bool := friendlyUnder s.active s.cal.t s.cal.offset s.cal.valid

end Sys2Proof.Machine
end

