-- ==== Sys2Proof/Machine/Ops.lean ====
section
/-! DEFINITION. The operations that blocks share: ALERT's occurrences and presentations, LOG's offers and the holds of
waiting evidence, SWITCH's rules of 5.3 and the demand set, checkpoint and write requests, BILL's reductions and
evaluation, tamper events and clearances, and the responses of the ports. -/

namespace Sys2Proof.Machine

/-! ## Taking a command -/

/-- Whether the main domain runs (R164). -/
def mainGood (s : State) : Bool := s.supmon.supply == .mainGood

/-- A command taken: if a block had handed it over, it no longer waits (log entries 2 and 11). -/
def State.take (i : Instr) (s : State) : State := { s with handed := s.handed.erase i }

/-- Requests handed to other blocks, behind those that wait (log entry 2). -/
def State.hand (is : List Instr) (s : State) : State := { s with handed := s.handed ++ is }

/-- What a main-domain command does: f in MAIN_GOOD, nothing otherwise (R164; log entry 1). -/
def inMain (i : Instr) (f : State → State) (s : State) : Result :=
  .next (if mainGood s then f (s.take i) else s)

/-! ## ALERT (R190 to R192) -/

def PortAlert.raise (c : AlertClass) (a : PortAlert) : PortAlert :=
  { a with classes := a.classes.set c ⟨true, (a.classes.get c).count + 1⟩ }

/-- An occurrence of a latched class for the ports named (R190). -/
def occurrence (c : LatchedClass) (toMeter toNetwork : Bool) (s : State) : State :=
  { s with alert :=
    { s.alert with ports :=
      { meter := if toMeter then s.alert.ports.meter.raise (.latched c) else s.alert.ports.meter,
        network := if toNetwork then s.alert.ports.network.raise (.latched c) else s.alert.ports.network } } }

/-- Whether a condition class applies to the meter port: all but EVIDENCE_THRESHOLD (R191). -/
def onMeter (c : ConditionClass) : Bool := c != .evidenceThreshold

/-- A presentation against the condition record: an onset, an end, or nothing (R191). -/
def Alert.present (a : Alert) (c : ConditionClass) (now : Bool) : Alert :=
  { ports :=
      if now && !(a.conditions.get c) then
        { meter := if onMeter c then a.ports.meter.raise (.condition c) else a.ports.meter,
          network := a.ports.network.raise (.condition c) }
      else a.ports,
    conditions := a.conditions.set c now }

def present (c : ConditionClass) (now : Bool) (s : State) : State := { s with alert := s.alert.present c now }

/-- Whether any pending class of a port has a level above its threshold (R192). -/
def PortAlert.line (a : PortAlert) : Bool :=
  allClasses.any (fun c => (a.classes.get c).pending && decide (a.threshold < a.levels.get c))

/-- A port's alert line: driven only while the main domain runs (R192). -/
def alertLine (p : Port) (s : State) : Bool := mainGood s && (s.alert.ports.get p).line

/-! ## LOG: offers (R140, R141) -/

/-- An accepted record takes the next number and joins the tail of the staging queue (R140). -/
def EvidenceLog.accept (l : EvidenceLog) (n : Nat) (r : Record) : EvidenceLog :=
  { l with staging := l.staging ++ [⟨n, r⟩], next := if n = max32 then none else some (n + 1) }

/-- The evidence overflow count goes up by one (R144). -/
def EvidenceLog.overflowOne (l : EvidenceLog) : EvidenceLog := { l with overflow := bump max16 l.overflow }

/-- Whether the staging queue has a free place. -/
def EvidenceLog.room (l : EvidenceLog) : Bool := decide (l.staging.length < stagingMax)

/-- A routine offer (R140): dropped and counted when the queue is full, when evidence waits at an origin, or when the
numbers are exhausted. -/
def EvidenceLog.offerRoutine (l : EvidenceLog) (waiting : Bool) (r : Record) : EvidenceLog :=
  match l.next with
  | some n => if l.room && !waiting then l.accept n r else { l with dropped := bump max16 l.dropped }
  | none => { l with dropped := bump max16 l.dropped }

/-- An evidence offer (R140): none when it is refused for room. While the numbers are exhausted it is counted in the
overflow count instead of being kept. -/
def EvidenceLog.offerEvidence (l : EvidenceLog) (r : Record) : Option EvidenceLog :=
  match l.next with
  | some n => if l.room then some (l.accept n r) else none
  | none => some l.overflowOne

/-- An origin with a hold of at most cap records stages evidence: behind its waiting records if it has any, else by an
offer, and into the hold if that is refused for room. A full hold keeps no more; LOG counts the record (R101, R128,
R159). -/
def EvidenceLog.stageFrom (l : EvidenceLog) (hold : List Record) (cap : Nat) (r : Record) : List Record × EvidenceLog :=
  if hold.isEmpty then
    match l.offerEvidence r with
    | some l' => (hold, l')
    | none => ([r], l)
  else if hold.length < cap then (hold ++ [r], l)
  else (hold, l.overflowOne)

/-- An origin offers its oldest waiting record again (R141). -/
def EvidenceLog.reoffer (l : EvidenceLog) (hold : List Record) : List Record × EvidenceLog :=
  match hold with
  | r :: rest =>
    match l.offerEvidence r with
    | some l' => (rest, l')
    | none => (hold, l)
  | [] => (hold, l)

/-- Whether any evidence waits for room at its origin (R140). -/
def evidenceWaiting (s : State) : Bool :=
  !s.tamper.hold.isEmpty || !s.sw.waiting.isEmpty || !s.cal.hold.isEmpty

/-- A routine record is staged. -/
def stageRoutine (r : Record) (s : State) : State := { s with log := s.log.offerRoutine (evidenceWaiting s) r }

/-- TAMPER stages evidence through its record hold (R128). -/
def stageTamper (r : Record) (s : State) : State :=
  let out := s.log.stageFrom s.tamper.hold tamperHoldMax r
  { s with tamper := { s.tamper with hold := out.1 }, log := out.2 }

/-- SWITCH stages RELAY_FAULT evidence through its waiting records (R101). -/
def stageSwitch (r : Record) (s : State) : State :=
  let out := s.log.stageFrom s.sw.waiting switchHoldMax r
  { s with sw := { s.sw with waiting := out.1 }, log := out.2 }

/-- CAL stages CLOCK_SET evidence through its record hold (R159). -/
def stageCalendar (r : Record) (s : State) : State :=
  let out := s.log.stageFrom s.cal.hold clockHoldMax r
  { s with cal := { s.cal with hold := out.1 }, log := out.2 }

/-- SUPMON's evidence has no hold: at a cold restore it always finds room (R141); refused for room it is not kept (log
entry 26). -/
def stageSupmon (r : Record) (s : State) : State := { s with log := (s.log.offerEvidence r).getD s.log }

/-- A record of this moment: the clock time and the clock-valid flag. -/
def recordNow (kind : RecordKind) (s : State) : Record := { time := s.cal.t, valid := s.cal.valid, kind := kind }

/-- The uncollected count under a mark: EVIDENCE records of the log above it (R144). -/
def EvidenceLog.uncollectedUnder (l : EvidenceLog) (mark : Nat) : Nat :=
  (l.records.filter (fun r => isEvidence r.body.kind && decide (mark < r.number))).length

def EvidenceLog.uncollected (l : EvidenceLog) : Nat := l.uncollectedUnder l.heldMark

/-- LOG presents EVIDENCE_THRESHOLD (R148). -/
def evaluateThreshold (s : State) : State :=
  present .evidenceThreshold (decide (s.log.threshold ≤ s.log.uncollected)) s

/-! ## SUPMON: checkpoint requests (R172) -/

def requestCheckpoint (s : State) : State := { s with supmon := { s.supmon with request := true } }

/-! ## SWITCH: permits, phases and the rules of 5.3 -/

/-- The coil of the operation in flight (05, 5.4). -/
def Switch.coil (w : Switch) : Option Coil :=
  match w.state with
  | .opening => some .openCoil
  | .closing => some .closeCoil
  | _ => none

/-- Which coil pair is driven (R98). -/
def coilDriven (s : State) : Option Coil := if s.sw.phase = some .pulse then s.sw.coil else none

/-- The permits of R96. -/
def permits (s : State) (c : Coil) : Bool :=
  s.pins.crdy && s.pins.cinhn && (mainGood s && !s.supmon.brownOut) &&
    (match c with | .openCoil => true | .closeCoil => !s.sw.holdOff.running)

/-- Whether the dead time from the other coil's last pulse has passed (R97). -/
def Switch.deadTimeMet (w : Switch) (c : Coil) : Bool :=
  match w.deadCoil with
  | some other => decide (other = c) || decide (deadTimeMs ≤ w.deadMs)
  | none => true

/-- WAIT_PERMIT and DEAD_TIME go on as far as they can at once (R94, R96, R97). -/
def Switch.advance (w : Switch) (ok : Coil → Bool) : Switch :=
  match w.coil with
  | none => w
  | some c =>
    if (w.phase = some .waitPermit ∨ w.phase = some .deadTime) ∧ ok c = true then
      if w.deadTimeMet c then { w with phase := some .pulse, opTimer := .started }
      else { w with phase := some .deadTime }
    else w

/-- What the start of any operation does to the watches (R109, R110), with the first phase and count. -/
def Switch.operate (w : Switch) (st : SwitchState) (ph : OpPhase) : Switch :=
  { w with state := st, phase := some ph, attempts := 0, opTimer := .stopped, streak := 0, bypass := .stopped,
           bypassRaised := false }

/-- An opening starts from CLOSED or UNKNOWN (R94). -/
def Switch.startOpening (w : Switch) : Switch := { w.operate .opening .waitPermit with confirm := true }

/-- A closing starts (R95, R104). -/
def Switch.startClosing (w : Switch) : Switch := w.operate .closing .waitPermit

/-- The drive of a pulse stops before its 60 ms: the dead-time reference records its end (R94, R99). -/
def Switch.cutPulse (w : Switch) : Switch :=
  if w.phase = some .pulse then { w with deadCoil := w.coil, deadMs := 0, opTimer := .stopped } else w

/-- A closing is abandoned for an opening (R94). -/
def Switch.abandonClosing (w : Switch) : Switch :=
  { w.cutPulse.operate .opening .deadTime with confirm := true }

/-- The rules of 5.3 for the present state; joined says that a member has just joined the set (R94, R95, R102). -/
def Switch.rules (w : Switch) (joined : Bool) : Switch :=
  match w.state with
  | .closed => if !w.set.isEmpty && (joined || !w.fault) then w.startOpening else w
  | .closing => if !w.set.isEmpty then w.abandonClosing else w
  | .opened =>
    if w.set.isEmpty then (if w.confirm then { w with state := .armed } else w.startClosing) else w
  | .armed =>
    if !w.set.isEmpty then { w with state := .opened } else if w.confirm then w else w.startClosing
  | .opening | .unknown => w

/-- A permit is withheld (R96, R99): DEAD_TIME returns to WAIT_PERMIT, and a pulse does when the loss cuts it. -/
def Switch.losePermit (w : Switch) (cuts : Bool) : Switch :=
  match w.phase with
  | some .deadTime => { w with phase := some .waitPermit }
  | some .pulse => if cuts then { w.cutPulse with phase := some .waitPermit } else w
  | _ => w

/-- SWITCH after a change: its phases go on as the permits allow, and ARMED is presented (R93). -/
def settleSwitch (w : Switch) (s : State) : State :=
  let w' := w.advance (permits { s with sw := w })
  { s with sw := w', alert := s.alert.present .armed (w'.state == .armed) }

/-- The rules of 5.3 applied. -/
def applyRules (joined : Bool) (s : State) : State := settleSwitch (s.sw.rules joined) s

/-- A request on the open-demand set (R92): no change of the set is no change at all. BILL presents CREDIT_EXHAUSTED as
the presence of CREDIT (R37). -/
def demand (m : Member) (add : Bool) (s : State) : State :=
  if s.sw.set.has m = add then s
  else
    let s1 := applyRules add { s with sw := { s.sw with set := s.sw.set.put m add } }
    if m = .credit then present .creditExhausted add s1 else s1

/-- The relay part of a record (R101, R103). -/
def relayPart (after : Position) (attempts : Nat) (s : State) : RelayPart :=
  { before := s.sw.position, after := after, set := s.sw.set, attempts := attempts }

/-- The believed position is taken; a change to OPEN or CLOSED stages its routine record and signals SUPPLY_CHANGED
(R103). -/
def believe (p : Position) (attempts : Nat) (s : State) : State :=
  let moved := { s with sw := { s.sw with position := p } }
  if p = s.sw.position ∨ p = .unknown then moved
  else
    occurrence .supplyChanged true true
      (stageRoutine
        { recordNow (if p = .opened then .relayOpened else .relayClosed) s with relay := some (relayPart p attempts s) }
        moved)

/-- The position LSENSE shows (R101, R109, R114). -/
def sensed (s : State) : Position := if s.pins.lsense then .closed else .opened

/-- A relay fault (R101 steps 1 to 4, R109 steps 1 to 4): flag, evidence record, alert, and the sensed position. Where the
position changes, R103 applies as well, and R140 lets the two offers be taken in either order: that the RELAY_FAULT record is
offered before the RELAY_OPENED or RELAY_CLOSED record is the model's choice (log entry 43). -/
def relayFault (attempts : Nat) (s : State) : State :=
  let p := sensed s
  let r : Record := { recordNow .relayFault s with relay := some (relayPart p attempts s), energy := some s.totals.imported }
  believe p attempts
    (occurrence .relayFault true true (stageSwitch r { s with sw := { s.sw with fault := true } }))

/-! ## BILL -/

/-- The exhaustion level L (R35). -/
def exhaustion (s : State) : Int :=
  match s.bill.emergency with
  | .inUse => -(s.active.charges.emergency : Int)
  | .unavailable | .available => 0

/-- B reduced by w m¢, saturating at B_MIN; reaching it sets the floor flag and stages BALANCE_FLOOR once (R20). -/
def reduce (w : Nat) (s : State) : State :=
  let b' := max balanceMin (s.bill.b - w)
  let reached := decide (w ≠ 0) && decide (b' = balanceMin)
  let s1 := { s with bill := { s.bill with b := b', floor := s.bill.floor || reached } }
  if reached && !s.bill.floor then
    stageRoutine { recordNow .balanceFloor s with energy := some s.totals.imported } s1
  else s1

/-- The emergency state recomputed outside IN_USE (R31). -/
def recomputed (s : State) : Emergency :=
  if s.bill.emergency = .inUse then .inUse
  else if 0 < s.active.charges.emergency ∧ s.bill.b < s.active.charges.lowCredit then .available
  else .unavailable

/-- The CREDIT evaluation (R37): the demand, the deferral flag, and the CREDIT_EXHAUSTED condition. -/
def evaluateCredit (s : State) : State :=
  let l := exhaustion s
  let deferred := friendlyNow s && !s.sw.set.credit && decide (s.bill.b < l) &&
    decide (l - s.active.friendly.allowance ≤ s.bill.b)
  let s1 := { s with bill := { s.bill with deferral := deferred } }
  let s2 := if l ≤ s.bill.b then demand .credit false s1 else if deferred then s1 else demand .credit true s1
  present .creditExhausted s2.sw.set.credit s2

/-- BILL's re-evaluation, in the order of R38: emergency state, LOW_CREDIT, CREDIT. -/
def evaluate (s : State) : State :=
  let e := recomputed s
  let s1 := { s with bill := { s.bill with emergency := e } }
  evaluateCredit
    (present .lowCredit (decide (s1.bill.b < s1.active.charges.lowCredit))
      (present .emergencyAvailable (e == .available) s1))

/-- What an accrual to the clock second t charges (R23, R24). -/
def accrualSpan (t h : Nat) : Nat := min (t - h) accrualCap
def accrualSum (s : State) (t : Nat) : Nat := s.bill.q + accrualSpan t s.bill.h * s.active.charges.standing

/-- The money of a standing accrual, without the evaluation (R23). -/
def accrueMoney (t : Nat) (s : State) : State :=
  if s.bill.h < t then
    let sum := accrualSum s t
    reduce (sum / daySeconds) { s with bill := { s.bill with q := sum % daySeconds, h := t } }
  else s

/-- A standing accrual at a clock second t, with the re-evaluation that R23 gives for t > H. At t ≤ H the request changes
nothing and makes no evaluation: the model's choice (log entry 37). -/
def accrue (t : Nat) (s : State) : State := if s.bill.h < t then evaluate (accrueMoney t s) else s

/-- BILL's two requests at the end of a warm or pin restore: the gap accrual and an evaluation (R24, R45). -/
def gapAccrue (t : Nat) (s : State) : State := evaluate (accrueMoney t s)

/-- The gap accruals that wait at BILL are taken before any other request of BILL (R45; log entry 14). -/
def settleGap (s : State) : State :=
  s.handed.foldl
    (fun acc i => match i with
      | .gapAccrual t => gapAccrue t.toNat (acc.take i)
      | _ => acc) s

/-- A debit request carrying e cWh (R21), with the band total of R12. -/
def debit (e : Nat) (s : State) : State :=
  let sum := s.bill.r + e * priceInForce s
  let band := bandInForce s
  let s1 := { s with
    bill := { s.bill with r := sum % 10000 },
    totals := { s.totals with band := s.totals.band.set band (addTotal (s.totals.band.get band) e) } }
  evaluate (reduce (sum / 10000) s1)

/-! ## TAMPER -/

/-- The sequence numbers after an event of a kind (R126, R127). -/
def numberEvent (mask : BitVec 7) (k : TamperKind) (m : Tamper) : Tamper :=
  let n := min (m.ts + 1) max32
  if maskHolds mask k then
    { m with ts := n, tsLock := n,
             tsClear := if m.ts = max32 ∧ m.tsClear = max32 then max32 - 1 else m.tsClear }
  else { m with ts := n }

/-- The tamper record of the event just numbered (R128). -/
def tamperRecord (k : TamperKind) (time : Nat) (valid : Bool) (s : State) : Record :=
  { time := time, valid := valid, kind := .tamper, tamper := some ⟨s.tamper.ts, some k⟩, energy := some s.totals.imported }

/-- A tamper event, taken whole (R116, R126 to R129). -/
def tamperEvent (k : TamperKind) (time : Nat) (valid : Bool) (s : State) : State :=
  let s1 := { s with tamper := numberEvent s.active.policy.lockout k s.tamper }
  let s2 := if s1.tamper.tsClear < s1.tamper.tsLock then demand .tamper true s1 else s1
  requestCheckpoint (occurrence .tamper true true (stageTamper (tamperRecord k time valid s1) s2))

/-- Whether a bar to clearance holds (R130). -/
def clearanceBarred (s : State) : Bool :=
  (maskHolds s.active.policy.lockout .coverOpen && s.tamper.debounced.cover == .opened) ||
  (maskHolds s.active.policy.lockout .tcoverOpen && s.tamper.debounced.terminal == .opened) ||
  (maskHolds s.active.policy.lockout .magnetic && s.tamper.magnetic)

/-- The three tests of a clearance naming c (R130). -/
def judgeClearance (c : Nat) (s : State) : CodeOutcome :=
  if s.tamper.ts < c then .invalidField
  else if c < s.tamper.tsLock then .staleClearance
  else if clearanceBarred s then .conditionPresent
  else .accepted

/-- An applied clearance; code is the part of a code that brought it (R131). -/
def applyClearance (c : Nat) (code : Option CodePart) (s : State) : State :=
  stageTamper
    { recordNow .tamperCleared s with tamper := some ⟨c, none⟩, code := code }
    (demand .tamper false { s with tamper := { s.tamper with tsClear := c } })

/-- Whether a magnetic source is present (R122). -/
def sourcePresent (s : State) : Bool := s.pins.mags || s.tamper.feFlag

/-- The magnetic timers after a source may have changed (R123, R124). -/
def magneticTimers (source : Bool) (m : Tamper) : Tamper :=
  if m.magnetic then
    { m with release := if source then .stopped else if m.release.running then m.release else .started }
  else
    { m with presence := if source then (if m.presence.running then m.presence else .started) else .stopped }

def watchMagnetic (s : State) : State := { s with tamper := magneticTimers (sourcePresent s) s.tamper }

/-- TAMPER is handed the front-end flag (R15, R122). -/
def handFlag (flag : Bool) (s : State) : State :=
  watchMagnetic { s with tamper := { s.tamper with feFlag := flag } }

/-! ## TARIFF and identity: image writes -/

/-- A tariff image write starts: it copies the active tariff, and the image fails its check until it completes (R62). -/
def TariffStore.startImageWrite (t : TariffStore) : TariffStore :=
  { t with image := .failing, imageState := .writing, imageWriting := some ⟨t.active, 0⟩, imageRequest := false }

/-- A tariff image write is requested (R62). -/
def requestImage (s : State) : State :=
  { s with tariff :=
    match s.tariff.imageState with
    | .writing => { s.tariff with imageRequest := true }
    | .current | .stale => s.tariff.startImageWrite }

/-- The older of two places: the one that fails its check or has the lower write count; place a when both fail (R146,
R184; log entry 23). -/
def olderPlace (countA countB : Option Nat) : Place :=
  match countA, countB with
  | none, _ => .a
  | some _, none => .b
  | some x, some y => if x < y then .a else .b

/-- The write count one above the other place's (R146, R184). The spec gives the count neither a width nor an end, and the
model takes a natural number without a bound (log entry 29). -/
def nextCount (countA countB : Option Nat) : Place → Nat
  | .a => (countB.getD 0) + 1
  | .b => (countA.getD 0) + 1

def Identity.countA (i : Identity) : Option Nat := i.placeA.map (·.count)
def Identity.countB (i : Identity) : Option Nat := i.placeB.map (·.count)

def Identity.putPlace (i : Identity) (p : Place) (x : Option IdentityCopy) : Identity :=
  match p with
  | .a => { i with placeA := x }
  | .b => { i with placeB := x }

/-- An identity write starts: it copies the working record for the older place, which fails its check until the write
completes (R184). -/
def Identity.startWrite (i : Identity) : Identity :=
  let p := olderPlace i.countA i.countB
  { i.putPlace p none with
    writing := some ⟨p, ⟨i.working, nextCount i.countA i.countB p⟩, 0⟩, again := false }

/-- An identity write is requested (R184). -/
def Identity.requestWrite (i : Identity) : Identity :=
  if i.writing.isSome then { i with again := true } else i.startWrite

/-! ## Command ports: responses (R181 to R183) -/

/-- A response becomes owed, behind those already owed (R182). -/
def respond (p : Port) (r : Reply) (s : State) : State :=
  { s with ports := { s.ports with
      line := s.ports.line.set p
        { s.ports.line.get p with owed := (s.ports.line.get p).owed ++ [responseFrame r] } } }

/-- A frame is discarded and counted (R178, R182). -/
def discardFrame (p : Port) (s : State) : State :=
  { s with ports := { s.ports with
      line := s.ports.line.set p
        { s.ports.line.get p with discarded := bump max16 (s.ports.line.get p).discarded } } }

/-- A complete good frame that carries a command, with tests 2 and 4 of R181 and the rule of two owed responses (R182).
body gives the state after the command, and its reply (R183). -/
def runCommand (i : Instr) (p : Port) (permitted : Bool) (body : State → State × Reply) (s : State) : Result :=
  inMain i
    (fun s =>
      match (s.ports.line.get p).owed with
      | [] =>
        if permitted then respond p (body s).2 (body s).1
        else respond p (.bare .notPermitted) s
      | [_] => respond p (.bare .busy) s
      | _ => discardFrame p s) s

/-- A read: the state is left as it is. -/
def readOnly (f : State → List Byte) (s : State) : State × Reply := (s, ⟨.ok, f s⟩)

/-- Permission of a command (10.4): the ports it is taken on. -/
def onNetwork (p : Port) : Bool := p == .network
def onMeterPort (p : Port) : Bool := p == .meter

end Sys2Proof.Machine
end

