-- ==== Sys2Proof/Machine/Alerts.lean ====
section
/-! DEFINITION. ALERT's commands (11_alerts.md). -/

namespace Sys2Proof.Machine

/-- ALERT_OCCURRENCE (R190). -/
def execAlertOccurrence (c : LatchedClass) (toMeter toNetwork : Bool) (s : State) : Result :=
  inMain (.alertOccurrence c toMeter toNetwork) (occurrence c toMeter toNetwork) s

/-- CONDITION_PRESENTATION (R191). -/
def execConditionPresentation (c : ConditionClass) (now : Bool) (s : State) : Result :=
  inMain (.conditionPresentation c now) (present c now) s

/-- The pending classes of a port, in class number order (R193). -/
def PortAlert.pending (a : PortAlert) : List AlertClass := allClasses.filter (fun c => (a.classes.get c).pending)

/-- The selected class: the pending class of the highest level, the lowest number among equals (R193). -/
def PortAlert.selected (a : PortAlert) : Option AlertClass :=
  a.pending.find? (fun c => a.pending.all (fun d => decide (a.levels.get d ≤ a.levels.get c)))

/-- The data of ALERT_QUERY (R193; log entry 19). With no class pending R193 lists no level and no count; that their bytes are
sent all the same, as 0, is the model's choice (log entry 19). -/
def queryBytes (p : Port) (s : State) : List Byte :=
  let a := s.alert.ports.get p
  (match a.selected with
    | some c => beNat 1 (alertClassNumber c) ++ beNat 1 (a.levels.get c) ++ [(a.classes.get c).count]
    | none => beNat 3 0) ++
  beNat 1 a.pending.length ++
  a.pending.flatMap (fun c => beNat 1 (alertClassNumber c) ++ [(a.classes.get c).count]) ++
  flagByte [alertLine p s]

/-- ALERT_QUERY (R193), on both ports. -/
def execAlertQuery (p : Port) (s : State) : Result :=
  runCommand (.alertQuery p) p true (readOnly (queryBytes p)) s

/-- Whether a class is a condition whose record is present (R194). -/
def conditionHolds (c : AlertClass) (s : State) : Bool :=
  match c with
  | .latched _ => false
  | .condition k => s.alert.conditions.get k

/-- The status of an acknowledgement (R194). -/
def ackStatus (p : Port) (c : AlertClass) (count : Byte) (s : State) : Status :=
  let k := (s.alert.ports.get p).classes.get c
  if !k.pending then .ok
  else if conditionHolds c s then .conditionPresent
  else if k.count = count then .ok
  else .stale

/-- One port's alert state is replaced. -/
def Alert.setPort (a : Alert) (p : Port) (x : PortAlert) : Alert := { a with ports := a.ports.set p x }

/-- A class's flag on a port is cleared. -/
def clearPending (p : Port) (c : AlertClass) (s : State) : State :=
  let a := s.alert.ports.get p
  let cleared := { a with classes := a.classes.set c { a.classes.get c with pending := false } }
  { s with alert := s.alert.setPort p cleared }

/-- The class's flag, the line and the class's count, as the command leaves them: its two flags in one byte (R194, R197;
log entry 19). -/
def ackBytes (p : Port) (c : AlertClass) (s : State) : List Byte :=
  let k := (s.alert.ports.get p).classes.get c
  flagByte [k.pending, alertLine p s] ++ [k.count]

/-- The acknowledgement of a class (R194). -/
def acknowledge (p : Port) (c : AlertClass) (count : Byte) (s : State) : State × Reply :=
  let st := ackStatus p c count s
  let s1 := if st = .ok then clearPending p c s else s
  (s1, ⟨st, ackBytes p c s1⟩)

/-- ALERT_ACK (R194), on both ports. -/
def execAlertAck (p : Port) (cls count : Byte) (s : State) : Result :=
  runCommand (.alertAck p cls count) p true
    (fun s =>
      match alertClassOf cls.toNat with
      | some c => acknowledge p c count s
      | none => (s, .bare .badArgument)) s

/-- Twelve levels in class number order as a table (R195, 12.3). -/
def levelTable (levels : List Byte) : PerClass Nat :=
  let l (n : Nat) : Nat := (levels.getD n 0#8).toNat
  { latched :=
      { tamper := l 0, relayFault := l 1, supplyChanged := l 6, codeDone := l 7, tariffActivated := l 10,
        powerRestored := l 11 },
    condition :=
      { creditExhausted := l 2, lowCredit := l 3, emergencyAvailable := l 4, armed := l 5, metrologyLost := l 8,
        evidenceThreshold := l 9 } }

/-- The effect of SET_ALERT_LEVELS (R195). -/
def setLevels (p : Port) (levels : List Byte) (threshold : Byte) (s : State) : State × Reply :=
  if levels.all (fun v => decide (v.toNat ≤ 7)) = true ∧ threshold.toNat ≤ 7 then
    let a := { s.alert.ports.get p with levels := levelTable levels, threshold := threshold.toNat }
    let s1 := { s with alert := s.alert.setPort p a }
    (s1, ⟨.ok, flagByte [alertLine p s1]⟩)
  else (s, .bare .badArgument)

/-- SET_ALERT_LEVELS (R195), on both ports. -/
def execSetAlertLevels (p : Port) (levels : List Byte) (threshold : Byte) (s : State) : Result :=
  runCommand (.setAlertLevels p levels threshold) p true (setLevels p levels threshold) s

end Sys2Proof.Machine
end

