-- ==== Sys2Proof/Machine/Detectors.lean ====
section
/-! DEFINITION. The detectors of MLR and the energy-while-open watch of SWITCH: how a real report moves their streaks, and
what a streak that reaches its limit brings (R13, R14, R16, R109). -/

namespace Sys2Proof.Machine

/-- Whether a report judged by the imbalance detector is unbalanced (R13). -/
def unbalancedReport (r : Report) : Bool := decide (max r.ep r.en < 8 * (max r.ep r.en - min r.ep r.en))

/-- The imbalance streaks after a real report (R13). -/
def judgeImbalance (r : Report) (m : Mlr) : Mlr :=
  if max r.ep r.en < 10 then m
  else if unbalancedReport r then
    (if m.episode then { m with balanced := 0 } else { m with unbalanced := bump imbalanceRun m.unbalanced })
  else
    (if m.episode then { m with balanced := bump imbalanceRun m.balanced } else { m with unbalanced := 0 })

/-- The reverse condition of a report (R14). -/
def reverseReport (r : Report) : Bool := decide (r.ep < r.ex) && decide (10 ≤ r.ex)

/-- The reverse streaks after a real report (R14). -/
def judgeReverse (r : Report) (m : Mlr) : Mlr :=
  if reverseReport r then
    (if m.reverseRaised then { m with rearm := 0 } else { m with reverse := bump reverseRun m.reverse })
  else
    (if m.reverseRaised then { m with rearm := bump reverseRun m.rearm } else { m with reverse := 0 })

/-- The overload streak after a real report, under ILIM (R16). -/
def judgeOverload (ilim : Nat) (r : Report) (m : Mlr) : Mlr :=
  if ilim ≠ 0 ∧ ilim < r.ip then { m with overload := bump overloadRun m.overload } else { m with overload := 0 }

/-- The unbalanced streak at 30 outside an episode (R13). -/
def imbalanceFound (s : State) : Bool := !s.mlr.episode && decide (imbalanceRun ≤ s.mlr.unbalanced)

def detectImbalance (s : State) : State :=
  if imbalanceFound s then
    State.hand [.tamperEvent .currentImbalance]
      { s with mlr := { s.mlr with episode := true, unbalanced := 0, balanced := 0 } }
  else s

/-- The balanced streak at 30 in an episode (R13). -/
def balanceFound (s : State) : Bool := s.mlr.episode && decide (imbalanceRun ≤ s.mlr.balanced)

def endImbalance (s : State) : State :=
  if balanceFound s then { s with mlr := { s.mlr with episode := false, unbalanced := 0, balanced := 0 } } else s

/-- The reverse streak at 10 with the raised flag clear (R14). -/
def reverseFound (s : State) : Bool := !s.mlr.reverseRaised && decide (reverseRun ≤ s.mlr.reverse)

def detectReverse (s : State) : State :=
  if reverseFound s then
    State.hand [.tamperEvent .reverseFlow]
      { s with mlr := { s.mlr with reverseRaised := true, reverse := 0, rearm := 0 } }
  else s

/-- The re-arm streak at 10 with the raised flag set (R14). -/
def rearmFound (s : State) : Bool := s.mlr.reverseRaised && decide (reverseRun ≤ s.mlr.rearm)

def rearmReverse (s : State) : State :=
  if rearmFound s then { s with mlr := { s.mlr with reverseRaised := false, reverse := 0, rearm := 0 } } else s

/-- The overload streak at 5 (R16). -/
def overloadFound (s : State) : Bool := decide (overloadRun ≤ s.mlr.overload)

def detectOverload (s : State) : State :=
  if overloadFound s then State.hand [.overloadSignal] { s with mlr := { s.mlr with overload := 0 } } else s

/-- Whether SWITCH rests open: the states of the watches of 5.8. -/
def restsOpen (w : Switch) : Bool := w.state == .opened || w.state == .armed

/-- The energy-while-open streak after a real report with its Ep (R109). -/
def watchEnergy (ep : Nat) (w : Switch) : Switch :=
  if ep < 10 then { w with streak := 0 }
  else if restsOpen w && !w.fault then { w with streak := bump energyOpenRun w.streak }
  else w

/-- The streak at 3 while open with the fault flag clear (R109). -/
def energyFound (s : State) : Bool :=
  restsOpen s.sw && !s.sw.fault && decide (energyOpenRun ≤ s.sw.streak)

/-- The energy-while-open fault (R109): the steps of a relay fault with attempt count 0, and CLOSED when the sense shows
present. The bypass timer then has no state to run in; its count and the raised flag stand until R110 clears them (log entry
33). -/
def detectEnergy (s : State) : State :=
  if energyFound s then
    let s1 := relayFault 0 { s with sw := { s.sw with streak := 0 } }
    settleSwitch
      (if s1.pins.lsense then { s1.sw with state := .closed, bypass := { s1.sw.bypass with running := false } } else s1.sw)
      s1
  else s

/-- What streaks at their limits bring is taken before the next report is judged (log entry 12). -/
def settleDetectors (s : State) : State :=
  detectEnergy (detectOverload (rearmReverse (detectReverse (endImbalance (detectImbalance s)))))

end Sys2Proof.Machine
end

