-- ==== Sys2Proof/Machine/Tariffs.lean ====
section
/-! DEFINITION. TARIFF's commands (03_tariffs.md). -/

namespace Sys2Proof.Machine

/-- The pending slot is set. -/
def setSlot (slot : PendingSlot) (s : State) : State := { s with tariff := { s.tariff with slot := slot } }

/-- TARIFF_OPEN (R50), on the network port. -/
def execTariffOpen (p : Port) (id : BitVec 16) (s : State) : Result :=
  runCommand (.tariffOpen p id) p (onNetwork p)
    (fun s => (setSlot (.assembling { s.active with id := id.toNat }) s, .bare .ok)) s

/-- The effect of TARIFF_PUT (R51, R52): the pending state is tested before the argument. -/
def putTariff (group : Byte) (data : List Byte) (s : State) : State × Reply :=
  match s.tariff.slot with
  | .assembling t =>
    match putGroup group data t with
    | some t' => (setSlot (.assembling t') s, .bare .ok)
    | none => (s, .bare .badArgument)
  | .empty | .armed _ _ => (s, .bare .wrongState)

/-- TARIFF_PUT (R51, R52), on the network port. -/
def execTariffPut (p : Port) (group : Byte) (data : List Byte) (s : State) : Result :=
  runCommand (.tariffPut p group data) p (onNetwork p) (putTariff group data) s

/-- The effect of TARIFF_COMMIT (R53). -/
def commitTariff (time : BitVec 32) (s : State) : State × Reply :=
  match s.tariff.slot with
  | .assembling t =>
    match firstFailingGroup t with
    | some g => (s, ⟨.invalidTariff, beNat 1 g⟩)
    | none => (setSlot (.armed t time.toNat) s, .bare .ok)
  | .empty | .armed _ _ => (s, .bare .wrongState)

/-- TARIFF_COMMIT (R53), on the network port. -/
def execTariffCommit (p : Port) (time : BitVec 32) (s : State) : Result :=
  runCommand (.tariffCommit p time) p (onNetwork p) (commitTariff time) s

/-- TARIFF_CANCEL (R54), on the network port. -/
def execTariffCancel (p : Port) (s : State) : Result :=
  runCommand (.tariffCancel p) p (onNetwork p) (fun s => (setSlot .empty s, .bare .ok)) s

/-- What READ_TARIFF sends after the group: pending state, id, activation time, commissioned flag (R56; log entry 19). -/
def tariffTail (id : Nat) (t : TariffStore) : List Byte :=
  beNat 1 (slotCode t.slot) ++ beNat 2 id ++
  beOption 4 (match t.slot with | .armed _ time => some time | .empty | .assembling _ => none) ++
  flagByte [t.commissioned]

/-- The data of READ_TARIFF, none when its argument is refused (R56). With the pending selector in EMPTY no tariff is selected:
the id is then sent as 0 in two bytes with no presence byte, the model's choice (log entry 19). R56 gives no order between the
OK answer in EMPTY and the refusal of a group number outside 1 to 8: that the refusal comes first is the model's choice (log
entry 46). -/
def tariffBytes (selector group : Byte) (s : State) : Option (List Byte) :=
  if 1 ≤ group.toNat ∧ group.toNat ≤ 8 then
    match selector.toNat with
    | 0 => some (groupBytes group s.active ++ tariffTail s.active.id s.tariff)
    | 1 =>
      match s.tariff.slot with
      | .empty => some (tariffTail 0 s.tariff)
      | .assembling t | .armed t _ => some (groupBytes group t ++ tariffTail t.id s.tariff)
    | _ => none
  else none

/-- READ_TARIFF (R56), on both ports. -/
def execReadTariff (p : Port) (selector group : Byte) (s : State) : Result :=
  runCommand (.readTariff p selector group) p true
    (fun s =>
      match tariffBytes selector group s with
      | some d => (s, ⟨.ok, d⟩)
      | none => (s, .bare .badArgument)) s

/-- The tariff that the activation test finds due (R57). -/
def dueTariff (s : State) : Option Tariff :=
  match s.tariff.slot with
  | .armed t time => if s.cal.valid = true ∧ time ≤ s.cal.t then some t else none
  | .empty | .assembling _ => none

/-- The step of an activation in TARIFF itself, with the UNCOMMISSIONED member (R58 steps 1 and 2). -/
def replaceTariff (t : Tariff) (s : State) : State :=
  let s1 := { s with tariff := { s.tariff with active := t, slot := .empty, commissioned := true } }
  if s.tariff.commissioned then s1 else demand .uncommissioned false s1

/-- What an activation brings MLR (R16, R59); a signal due for an earlier run is sent first (log entry 12). -/
def activateMlr (s : State) : State :=
  if s.active.policy.ilim = 0 then
    let s1 := detectOverload s
    { s1 with mlr := { s1.mlr with overload := 0 } }
  else s

/-- An activation (R58, R59, R41). -/
def activate (t : Tariff) (s : State) : State :=
  let s1 := replaceTariff t s
  let s2 := occurrence .tariffActivated true true (stageRoutine (recordNow .tariffActivated s1) s1)
  evaluate (activateMlr (requestImage (requestCheckpoint s2)))

/-- The activation test (R57). -/
def activationTest (s : State) : State :=
  match dueTariff s with
  | some t => activate t s
  | none => s

/-- TARIFF_ACTIVATION: the activation test of a clock second (R57, R58); BILL's gap accrual comes first. -/
def execTariffActivation (s : State) : Result := inMain .tariffActivation (fun s => activationTest (settleGap s)) s

/-- A tariff image write completes (R62). -/
def completeImage (t : TariffStore) : TariffStore :=
  match t.imageWriting with
  | none => t
  | some w =>
    let stored := { t with image := .holds w.copy, imageWriting := none }
    if t.imageRequest then stored.startImageWrite else { stored with imageState := .current }

/-- IMAGE_WRITE_COMPLETE (R62). -/
def execImageWriteComplete (s : State) : Result :=
  inMain .imageWriteComplete (fun s => { s with tariff := completeImage s.tariff }) s

end Sys2Proof.Machine
end

