-- ==== Sys2Proof/Machine/Calendars.lean ====
section
/-! DEFINITION. CAL's commands (08_calendar.md). -/

namespace Sys2Proof.Machine

/-- T after a tick (R152). -/
def nextTime (t : Nat) : Nat := min (t + 1) max32

/-- What a tick that CAL takes in MAIN_GOOD issues, t being T after it (R153, R154). -/
def tickEvents (before t : Nat) : List Instr :=
  [.standingAccrual (BitVec.ofNat 32 t), .tariffActivation, .penaltyDecrement] ++
  (if t % 3600 = 0 then [.clockHourMark] else []) ++
  (if before < t ∧ t % 60 = 0 then [.clockMinute] else [])

/-- A tick of the time base (R152 to R154). -/
def tickClock (s : State) : State :=
  let t := nextTime s.cal.t
  let s1 := { s with cal := { s.cal with t := t, phase := 0 } }
  if mainGood s then State.hand (tickEvents s.cal.t t) s1 else s1

/-- CLOCK_TICK (R152): taken in every supply state. -/
def execClockTick (s : State) : Result := .next (tickClock s)

/-- CLOCK_HOUR_MARK (R153, R172). -/
def execClockHourMark (s : State) : Result := inMain .clockHourMark requestCheckpoint s

/-- The clock seconds already issued reach BILL before a CLOCK_SET (R160; log entry 15). -/
def settleAccruals (s : State) : State :=
  s.handed.foldl
    (fun acc i => match i with
      | .standingAccrual t => accrue t.toNat (acc.take i)
      | _ => acc) s

/-- The CLOCK_SET record (R159). -/
def clockRecord (oldTime : Nat) (oldOffset : Int) (newTime : Nat) (newOffset : Int) : Record where
  time := newTime
  valid := true
  kind := .clockSet
  clock := some ⟨oldTime, newTime, oldOffset, newOffset⟩

/-- Steps 1 to 3 of a CLOCK_SET (R25, R158): accrual to the old T, the new clock, the rebase and its evaluation. -/
def rebase (t : Nat) (offset : Int) (s : State) : State :=
  let s1 := accrueMoney s.cal.t s
  evaluate
    { s1 with cal := { s1.cal with t := t, offset := offset, valid := true }, bill := { s1.bill with h := t } }

/-- An accepted CLOCK_SET (R158). -/
def setClock (t : Nat) (offset : Int) (s : State) : State × Reply :=
  let s0 := settleAccruals (settleGap s)
  let s1 := stageCalendar (clockRecord s0.cal.t s0.cal.offset t offset) (rebase t offset s0)
  (activationTest s1,
   ⟨.ok, beNat 4 s0.cal.t ++ beInt 2 s0.cal.offset ++ beNat 4 t ++ beInt 2 offset⟩)

/-- CLOCK_SET (R157 to R160), on the network port. -/
def execClockSet (p : Port) (t : BitVec 32) (offset : BitVec 16) (s : State) : Result :=
  runCommand (.clockSet p t offset) p (onNetwork p)
    (fun s =>
      if offsetTaken offset.toInt then setClock t.toNat offset.toInt s else (s, .bare .badArgument)) s

/-- The day type as READ_CLOCK sends it: the spec gives no codes, and no day type while the clock is not valid, so both are
free values (R47, R162; log entry 20). -/
def dayTypeByte (s : State) : Byte :=
  if s.cal.valid then
    match dayType s.active (localDay s.cal.t s.cal.offset) (localWeekday s.cal.t s.cal.offset) with
    | .workday => Config.dayTypeCode false
    | .restday => Config.dayTypeCode true
  else Config.undecidedDayType s.cal.t s.cal.offset

/-- READ_CLOCK (R162; log entry 19), on both ports. Its two flags do not stand next to one another in R162, and the model sends
each in a byte of its own at its place: its choice (log entry 19). -/
def execReadClock (p : Port) (s : State) : Result :=
  runCommand (.readClock p) p true
    (readOnly (fun s =>
      beNat 4 s.cal.t ++ beInt 2 s.cal.offset ++ flagByte [s.cal.valid] ++
      beInt 2 (localDay s.cal.t s.cal.offset) ++ beNat 1 (localWeekday s.cal.t s.cal.offset) ++
      beNat 2 (localMinute s.cal.t s.cal.offset) ++ [dayTypeByte s] ++ beNat 1 (bandCode (bandInForce s)) ++
      flagByte [friendlyNow s])) s

end Sys2Proof.Machine
end

