-- ==== Sys2Proof/Machine/Credit.lean ====
section
/-! DEFINITION. BILL's commands (02_credit_arithmetic.md). -/

namespace Sys2Proof.Machine

/-- DEBIT_REQUEST (R21, R22), with the band total of R12. -/
def execDebitRequest (e : Nat) (s : State) : Result := inMain (.debitRequest e) (fun s => debit e (settleGap s)) s

/-- STANDING_ACCRUAL (R23). -/
def execStandingAccrual (t : BitVec 32) (s : State) : Result :=
  inMain (.standingAccrual t) (fun s => accrue t.toNat (settleGap s)) s

/-- GAP_ACCRUAL and the evaluation that follows it (R24, R45). -/
def execGapAccrual (t : BitVec 32) (s : State) : Result := inMain (.gapAccrual t) (gapAccrue t.toNat) s

/-- CLOCK_MINUTE (R39). -/
def execClockMinute (s : State) : Result := inMain .clockMinute (fun s => evaluate (settleGap s)) s

/-- The emergency request as BILL takes it (R32). -/
def takeEmergency (s : State) : State × Reply :=
  match s.bill.emergency with
  | .available => (evaluate { s with bill := { s.bill with emergency := .inUse } }, .bare .ok)
  | .unavailable | .inUse => (s, .bare .notAvailable)

/-- REQUEST_EMERGENCY (R32), on the meter port. -/
def execRequestEmergency (p : Port) (s : State) : Result :=
  runCommand (.requestEmergency p) p (onMeterPort p) (fun s => takeEmergency (settleGap s)) s

/-- The LOW_CREDIT condition (R40). -/
def lowCredit (s : State) : Bool := decide (s.bill.b < s.active.charges.lowCredit)

/-- The data of READ_CREDIT (12.8). -/
def creditBytes (s : State) : List Byte :=
  beInt 8 s.bill.b ++ beInt 8 s.bill.d ++ beNat 2 s.bill.r ++ beNat 4 s.bill.q ++ beNat 4 s.bill.h ++
  beNat 1 (emergencyCode s.bill.emergency) ++ beInt 8 (exhaustion s) ++ beInt 8 s.active.charges.emergency ++
  flagByte [lowCredit s, s.sw.set.credit, s.bill.deferral, s.bill.floor]

/-- READ_CREDIT (R42), on both ports. -/
def execReadCredit (p : Port) (s : State) : Result :=
  runCommand (.readCredit p) p true (readOnly creditBytes) s

end Sys2Proof.Machine
end

