-- ==== Sys2Proof/Machine/Frames.lean ====
section
/-! DEFINITION. Command frames: codes, argument counts and permissions (12.3, 10.4), from bytes to a command and back. -/

namespace Sys2Proof.Machine

/-- A number as a bit vector of the bytes that spell it. -/
def bits (w : Nat) (bs : List Byte) : BitVec w := BitVec.ofNat w (ofBe bs)

/-- A frame's bytes after the start byte sum to 0 with it (R181 test 1, R197). -/
def sumsToZero (frame : List Byte) : Bool := byteSum (0xC3#8 :: frame) == 0#8

/-- The permission of a command code on a port; none when it is no command code (R181 tests 3 and 4, 10.4). -/
def permission (code : Byte) (p : Port) : Option Bool :=
  match code.toNat with
  | 0x01 | 0x02 | 0x03 | 0x04 | 0x05 | 0x06 | 0x07 | 0x08 | 0x09 | 0x10 | 0x11 | 0x12 | 0x18 | 0x19 => some true
  | 0x20 | 0x21 => some (onMeterPort p)
  | 0x30 | 0x31 | 0x32 | 0x33 | 0x34 | 0x35 | 0x36 | 0x37 | 0x38 | 0x39 | 0x3A | 0x3B | 0x3C => some (onNetwork p)
  | _ => none

/-- A command without arguments. -/
def noArguments (i : Instr) : List Byte → Option Instr
  | [] => some i
  | _ => none

/-- The command of a code and its arguments, none when the count is not the layout's (R181 test 5, 12.3). TARIFF_PUT and
SUBMIT_CODE take any count: their owners check it; a TARIFF_PUT without a group has the group 0, which no tariff has. -/
def readArguments (p : Port) (code : Byte) (args : List Byte) : Option Instr :=
  match code.toNat with
  | 0x01 => noArguments (.readStatus p) args
  | 0x02 => noArguments (.readCredit p) args
  | 0x03 => noArguments (.readTotals p) args
  | 0x04 => (match args with | [sel, g] => some (.readTariff p sel g) | _ => none)
  | 0x05 => noArguments (.readClock p) args
  | 0x06 => noArguments (.readSwitch p) args
  | 0x07 => noArguments (.readTamper p) args
  | 0x08 => (match args with | [a, b, c, d, n] => some (.readLog p (bits 32 [a, b, c, d]) n) | _ => none)
  | 0x09 => noArguments (.readIdentity p) args
  | 0x10 => noArguments (.alertQuery p) args
  | 0x11 => (match args with | [c, n] => some (.alertAck p c n) | _ => none)
  | 0x12 => if args.length = 13 then some (.setAlertLevels p (args.take 12) (args.getD 12 0#8)) else none
  | 0x18 => some (.submitCode p args)
  | 0x19 => (match args with | [t] => some (.codeResult p t) | _ => none)
  | 0x20 => noArguments (.requestEmergency p) args
  | 0x21 => noArguments (.confirmReconnect p) args
  | 0x30 => (match args with | [a, b] => some (.tariffOpen p (bits 16 [a, b])) | _ => none)
  | 0x31 => some (.tariffPut p (args.headD 0#8) args.tail)
  | 0x32 => (match args with | [a, b, c, d] => some (.tariffCommit p (bits 32 [a, b, c, d])) | _ => none)
  | 0x33 => noArguments (.tariffCancel p) args
  | 0x34 =>
    (match args with
      | [a, b, c, d, e, f] => some (.clockSet p (bits 32 [a, b, c, d]) (bits 16 [e, f]))
      | _ => none)
  | 0x35 => noArguments (.remoteOpen p) args
  | 0x36 => (match args with | [m] => some (.remoteRelease p m) | _ => none)
  | 0x37 => (match args with | [a, b, c, d] => some (.remoteTamperClear p (bits 32 [a, b, c, d])) | _ => none)
  | 0x38 => (match args with | [a, b, c, d] => some (.evidenceCollect p (bits 32 [a, b, c, d])) | _ => none)
  | 0x39 => (match args with | [v] => some (.setEvidenceThreshold p v) | _ => none)
  | 0x3A =>
    if args.length = 24 then some (.provisionIdentity p (bits 48 (args.take 6)) (bits 144 (args.drop 6))) else none
  | 0x3B => noArguments (.lockIdentity p) args
  | 0x3C => (match args with | [a, b, c, d] => some (.setCodeFloor p (bits 32 [a, b, c, d])) | _ => none)
  | _ => none

/-- The command byte and the arguments of a frame (12.3). -/
def frameParts (frame : List Byte) : Byte × List Byte := (frame.getD 1 0#8, (frame.drop 2).dropLast)

/-- The command a frame carries, when it passes the tests of R181 that do not depend on the state. -/
def readFrame (p : Port) (frame : List Byte) : Option Instr :=
  let parts := frameParts frame
  if sumsToZero frame && permission parts.1 p == some true then readArguments p parts.1 parts.2 else none

/-- A number's bytes. -/
def bytesOf (k : Nat) {w : Nat} (v : BitVec w) : List Byte := beNat k v.toNat

/-- The code and the arguments of a command that comes in a frame (12.3). -/
def commandParts : Instr → Option (Port × Byte × List Byte)
  | .readStatus p => some (p, 0x01#8, [])
  | .readCredit p => some (p, 0x02#8, [])
  | .readTotals p => some (p, 0x03#8, [])
  | .readTariff p sel g => some (p, 0x04#8, [sel, g])
  | .readClock p => some (p, 0x05#8, [])
  | .readSwitch p => some (p, 0x06#8, [])
  | .readTamper p => some (p, 0x07#8, [])
  | .readLog p first n => some (p, 0x08#8, bytesOf 4 first ++ [n])
  | .readIdentity p => some (p, 0x09#8, [])
  | .alertQuery p => some (p, 0x10#8, [])
  | .alertAck p c n => some (p, 0x11#8, [c, n])
  | .setAlertLevels p levels t => some (p, 0x12#8, levels ++ [t])
  | .submitCode p chars => some (p, 0x18#8, chars)
  | .codeResult p t => some (p, 0x19#8, [t])
  | .requestEmergency p => some (p, 0x20#8, [])
  | .confirmReconnect p => some (p, 0x21#8, [])
  | .tariffOpen p id => some (p, 0x30#8, bytesOf 2 id)
  | .tariffPut p g data => some (p, 0x31#8, g :: data)
  | .tariffCommit p t => some (p, 0x32#8, bytesOf 4 t)
  | .tariffCancel p => some (p, 0x33#8, [])
  | .clockSet p t o => some (p, 0x34#8, bytesOf 4 t ++ bytesOf 2 o)
  | .remoteOpen p => some (p, 0x35#8, [])
  | .remoteRelease p m => some (p, 0x36#8, [m])
  | .remoteTamperClear p c => some (p, 0x37#8, bytesOf 4 c)
  | .evidenceCollect p n => some (p, 0x38#8, bytesOf 4 n)
  | .setEvidenceThreshold p v => some (p, 0x39#8, [v])
  | .provisionIdentity p n k => some (p, 0x3A#8, bytesOf 6 n ++ bytesOf 18 k)
  | .lockIdentity p => some (p, 0x3B#8, [])
  | .setCodeFloor p m => some (p, 0x3C#8, bytesOf 4 m)
  | .metrologyFrame _ _ | .silenceExpiry | .linkCutExpiry | .imbalanceDetect | .imbalanceEpisodeEnd | .reverseFlowDetect
  | .reverseFlowRearm | .overloadDetect | .debitRequest _ | .standingAccrual _ | .gapAccrual _ | .clockMinute
  | .tariffActivation | .imageWriteComplete | .engineTake | .decipherEnd | .codeJudging | .penaltyDecrement
  | .penaltyExpiry _ | .demandSetRequest _ _ | .crdyChange _ | .cinhnChange _ | .deadTimeEnd | .pulseEnd | .settleEnd
  | .holdOffEnd | .overloadSignal | .overloadRestoreExpiry | .energyWhileOpenDetect | .lsenseChange _
  | .bypassTimerExpiry | .tamperEvent _ | .coverInputChange _ _ | .debounceExpiry _ | .backupCoverSample
  | .magsChange _ | .magneticPresenceExpiry | .magneticReleaseExpiry | .recordOffer _ | .waitingEvidenceOffer _
  | .logWriteStart | .logWriteComplete | .markWriteStart | .markWriteComplete | .clockTick | .clockHourMark
  | .brownOutStart | .brownOutEnd | .mainFailure | .vmainRise | .vmainDropRestoring | .resetnAssert | .resetnRelease
  | .vcellLow | .backupPowerUp | .restoreEnd _ _ | .checkpointRequest | .checkpointWriteStart | .checkpointWriteComplete
  | .badFrame _ _ | .lengthByteReject _ _ | .mcsnRelease | .interByteTimeout | .responseSent _ | .identityWriteComplete
  | .alertOccurrence _ _ _ | .conditionPresentation _ _ | .receiverByte _ _ | .uartFramingError => none

/-- The frame that a master sends for a command, after its start byte (12.3). -/
def commandFrame (code : Byte) (args : List Byte) : List Byte :=
  let body := BitVec.ofNat 8 (args.length + 1) :: code :: args
  body ++ [- byteSum (0xC3#8 :: body)]

end Sys2Proof.Machine
end

