-- ==== Sys2Proof/Machine/Identities.lean ====
section
/-! DEFINITION. The identity area's commands (10_command_ports.md, 10.5 and 10.6). -/

namespace Sys2Proof.Machine

/-- The greatest meter number (R184). -/
def meterNumberMax : Nat := 9999999999999

/-- The effect of PROVISION_IDENTITY (R186). -/
def provision (number : BitVec 48) (key : BitVec 144) (s : State) : State × Reply :=
  if s.identity.working.locked then (s, .bare .identityLocked)
  else if meterNumberMax < number.toNat then (s, .bare .badArgument)
  else
    let working : IdentityRecord :=
      { s.identity.working with number := some number.toNat, key := some key, provisioned := true }
    ({ s with identity := { s.identity with working := working }.requestWrite }, .bare .ok)

/-- PROVISION_IDENTITY (R186), on the network port. -/
def execProvisionIdentity (p : Port) (number : BitVec 48) (key : BitVec 144) (s : State) : Result :=
  runCommand (.provisionIdentity p number key) p (onNetwork p) (provision number key) s

/-- The effect of LOCK_IDENTITY (R187). -/
def lockIdentity (s : State) : State × Reply :=
  if s.identity.working.locked then (s, .bare .identityLocked)
  else if !s.identity.working.provisioned then (s, .bare .notProvisioned)
  else
    let working : IdentityRecord := { s.identity.working with locked := true }
    ({ s with identity := { s.identity with working := working }.requestWrite }, .bare .ok)

/-- LOCK_IDENTITY (R187), on the network port. -/
def execLockIdentity (p : Port) (s : State) : Result :=
  runCommand (.lockIdentity p) p (onNetwork p) lockIdentity s

/-- An identity write completes; a coalesced further write starts (R184). -/
def Identity.completeWrite (i : Identity) : Identity :=
  match i.writing with
  | none => i
  | some w =>
    let stored := { i.putPlace w.place (some w.copy) with writing := none }
    if i.again then stored.startWrite else stored

/-- IDENTITY_WRITE_COMPLETE (R184). -/
def execIdentityWriteComplete (s : State) : Result :=
  inMain .identityWriteComplete (fun s => { s with identity := s.identity.completeWrite }) s

/-- The data of READ_IDENTITY (R188; log entry 19): never the key. -/
def identityBytes (s : State) : List Byte :=
  beOption 6 s.identity.working.number ++
  flagByte [s.identity.working.provisioned, s.identity.working.locked, s.identity.writing.isSome]

/-- READ_IDENTITY (R188), on both ports. -/
def execReadIdentity (p : Port) (s : State) : Result :=
  runCommand (.readIdentity p) p true (readOnly identityBytes) s

end Sys2Proof.Machine
end

