-- ==== Sys2Proof/Machine/Metrology.lean ====
section
/-! DEFINITION. MLR's commands (01_energy_from_the_metrology_link.md). -/

namespace Sys2Proof.Machine

/-- A discarded frame that counts as bad (R1, R2). -/
def countBadReport (s : State) : State := { s with mlr := { s.mlr with badReports := bump max16 s.mlr.badReports } }

/-- The gap g of a report against the last accepted sequence number (R4). -/
def gapOf (seq last : Byte) : Nat := (seq - last - 1#8).toNat

/-- How many fill reports a gap brings (R4). -/
def fillsOf (g : Nat) : Nat := if g ≤ 8 then g else 8

/-- The billed increment of a real report (R10). -/
def increment (r : Report) (s : State) : Nat :=
  let measured := max r.ep r.en
  let withExport :=
    match s.active.policy.reverseMode with
    | .ignore => measured
    | .chargeAsImport => measured + r.ex
  if s.tamper.magnetic then max withExport s.active.policy.mfix else withExport

/-- Fill reports handed to BILL, and their additions to the totals (R5, R11, R12). -/
def billFills : Nat → Nat → State → State
  | 0, _, s => s
  | n + 1, eLast, s =>
    billFills n eLast
      (State.hand [.debitRequest eLast] { s with totals := { s.totals with billed := addTotal s.totals.billed eLast } })

/-- The totals after a real report with its increment (R12). -/
def countReport (r : Report) (e : Nat) (t : Totals) : Totals :=
  { t with imported := addTotal t.imported (max r.ep r.en), neutral := addTotal t.neutral r.en,
           exported := addTotal t.exported r.ex, billed := addTotal t.billed e }

/-- MLR's link after a report is accepted (R3, R4, R8). R3 says that the link-cut timer stops; the count it then keeps is the
model's choice, 0 (log entry 36). -/
def acceptLink (seq : Byte) (e : Nat) (m : Mlr) : Mlr :=
  { m with link := .synced, lastSeq := some seq, eLast := some e, silence := .started, linkCut := .stopped,
           linkCutRaised := false }

/-- A real report (R3, R4, R10 to R16): billed and counted, judged by the detectors, and handed to TAMPER and SWITCH. The
magnetic condition of R10 is read before the report's own flag reaches TAMPER. -/
def realReport (r : Report) (s : State) : State :=
  let e := increment r s
  let judged := judgeOverload s.active.policy.ilim r (judgeReverse r (judgeImbalance r s.mlr))
  let s1 :=
    { s with mlr := acceptLink r.seq e judged, totals := countReport r e s.totals, sw := watchEnergy r.ep s.sw }
  handFlag r.magnetic (present .metrologyLost false (State.hand [.debitRequest e] s1))

/-- The record of a long gap (R6). -/
def gapRecord (g : Nat) (s : State) : Record := { recordNow .metrologyGap s with gap := some g }

/-- A valid report against the link state (R3, R4). -/
def judgeReport (r : Report) (s : State) : State :=
  match s.mlr.link, s.mlr.lastSeq with
  | .synced, some last =>
    let g := gapOf r.seq last
    if g = 255 then s
    else
      let filled := billFills (fillsOf g) (s.mlr.eLast.getD 0) s
      realReport r (if 9 ≤ g then stageRoutine (gapRecord g s) filled else filled)
  | _, _ => realReport r s

/-- METROLOGY_FRAME (R1 to R6, R10 to R16). A frame that was already in progress at the end of the restore, whose start MLR
did not see, is ignored, whatever it holds (R1). -/
def execMetrologyFrame (bytes : List Byte) (extraBits : Option Nat) (s : State) : Result :=
  inMain (.metrologyFrame bytes extraBits)
    (fun s =>
      match extraBits with
      | none => s
      | some n =>
        match readReport bytes n with
        | none => countBadReport s
        | some r => judgeReport r (settleDetectors s)) s

/-- SILENCE_EXPIRY (R7, R9): only of a timer that has reached 5 s, so an expiry that comes behind a report finds the
restarted timer and does nothing. The count that the stopped timer keeps is the model's choice, 0 (log entry 36). -/
def execSilenceExpiry (s : State) : Result :=
  inMain .silenceExpiry
    (fun s =>
      if s.mlr.silence.due silenceMs then
        handFlag false
          (present .metrologyLost true
            { s with mlr := { s.mlr with link := .lost, silence := .stopped, linkCut := .started, linkCutRaised := false } })
      else s) s

/-- LINK_CUT_EXPIRY (R8): of a timer that has reached 60 s. Its resting count is the model's choice (log entry 36). -/
def execLinkCutExpiry (s : State) : Result :=
  inMain .linkCutExpiry
    (fun s =>
      if s.mlr.linkCut.due linkCutMs then
        State.hand [.tamperEvent .linkCut]
          { s with mlr := { s.mlr with linkCut := .expired linkCutMs, linkCutRaised := true } }
      else s) s

/-- IMBALANCE_DETECT (R13). -/
def execImbalanceDetect (s : State) : Result := inMain .imbalanceDetect detectImbalance s

/-- IMBALANCE_EPISODE_END (R13). -/
def execImbalanceEpisodeEnd (s : State) : Result := inMain .imbalanceEpisodeEnd endImbalance s

/-- REVERSE_FLOW_DETECT (R14). -/
def execReverseFlowDetect (s : State) : Result := inMain .reverseFlowDetect detectReverse s

/-- REVERSE_FLOW_REARM (R14). -/
def execReverseFlowRearm (s : State) : Result := inMain .reverseFlowRearm rearmReverse s

/-- OVERLOAD_DETECT (R16). -/
def execOverloadDetect (s : State) : Result := inMain .overloadDetect detectOverload s

/-- READ_TOTALS (R17), on both ports. -/
def execReadTotals (p : Port) (s : State) : Result :=
  runCommand (.readTotals p) p true
    (readOnly (fun s =>
      beNat 6 s.totals.imported ++ beNat 6 s.totals.neutral ++ beNat 6 s.totals.exported ++ beNat 6 s.totals.billed ++
      beNat 6 s.totals.band.b0 ++ beNat 6 s.totals.band.b1 ++ beNat 6 s.totals.band.b2 ++ beNat 6 s.totals.band.b3 ++
      beNat 2 s.mlr.badReports ++ beNat 1 (linkCode s.mlr.link))) s

end Sys2Proof.Machine
end

