-- ==== Sys2Proof/Machine/Codes.lean ====
section
/-! DEFINITION. CODE's commands (04_top_up_codes.md). -/

namespace Sys2Proof.Machine

/-! ## Intake -/

/-- The intake tests in their order (R65), and the queueing with the ticket (R66). -/
def intake (p : Port) (digits : List Nat) (s : State) : State × Reply :=
  if !(s.identity.working.provisioned && s.identity.working.key.isSome) then (s, .bare .notProvisioned)
  else if !s.tariff.commissioned then (s, .bare .notCommissioned)
  else if (s.code.lockout.get p).penalty ≠ 0 then (s, ⟨.lockedOut, beNat 2 (s.code.lockout.get p).penalty⟩)
  else if codeQueueMax ≤ s.code.queue.length then (s, .bare .busy)
  else
    let ticket := s.code.tickets.get p
    ({ s with code :=
        { s.code with queue := s.code.queue ++ [⟨p, ticket, digits⟩], tickets := s.code.tickets.set p (ticket + 1) } },
     ⟨.queued, [ticket]⟩)

/-- The argument check of R64, then the intake. -/
def submitCode (p : Port) (chars : List Byte) (s : State) : State × Reply :=
  match readDigits chars with
  | some digits => intake p digits s
  | none => (s, .bare .badArgument)

/-- SUBMIT_CODE (R64 to R66), on both ports. -/
def execSubmitCode (p : Port) (chars : List Byte) (s : State) : Result :=
  runCommand (.submitCode p chars) p true (submitCode p chars) s

/-! ## The engine -/

/-- The engine takes the head of the queue (R69). -/
def takeEntry (s : State) : State :=
  match s.code.flight, s.code.queue, s.identity.working.key with
  | none, e :: rest, some key =>
    { s with code := { s.code with queue := rest, flight := some ⟨e, key, .deciphering 0⟩ } }
  | _, _, _ => s

/-- ENGINE_TAKE (R69). -/
def execEngineTake (s : State) : Result := inMain .engineTake takeEntry s

/-- DECIPHERING ends with the deciphered fields (R73 to R75). -/
def endDecipher (c : CodeEngine) : CodeEngine :=
  match c.flight with
  | some fl =>
    match fl.phase with
    | .deciphering ms =>
      if decipherMs ≤ ms then
        { c with flight := some { fl with phase := .judging (decipherDigits fl.key fl.entry.digits) } }
      else c
    | .judging _ | .persisting _ _ _ => c
  | none => c

/-- DECIPHER_END (R69, R73): after the 5 ms of DECIPHERING. -/
def execDecipherEnd (s : State) : Result := inMain .decipherEnd (fun s => { s with code := endDecipher s.code }) s

/-! ## Judging -/

/-- A judged code: the state with the owning block's effect, the outcome, and the share d of a CREDIT code. -/
structure Judged where
  state : State
  outcome : CodeOutcome
  share : Option Nat := none

/-- IN_USE ends at a credit change that leaves B at 0 or above (R33); evaluate then recomputes the state. -/
def endEmergency (b : Bill) : Bill :=
  if b.emergency = .inUse ∧ 0 ≤ b.b then { b with emergency := .unavailable } else b

/-- The amount A and the recovery share d of a CREDIT code (R28). -/
def creditAmount (payload : Nat) : Nat := payload * 1000
def recoveryShare (payload : Nat) (s : State) : Nat := min s.bill.d (creditAmount payload * s.active.charges.share / 1000)

/-- What a CREDIT code does to the money: B, D and the floor flag (R20, R28), and the end of emergency use (R33). -/
def creditBill (b' : Int) (d : Nat) (b : Bill) : Bill :=
  endEmergency { b with b := b', d := b.d - d, floor := b.floor && !decide (balanceMin < b') }

/-- A CREDIT code at BILL (R28). -/
def applyCredit (payload : Nat) (s : State) : Judged :=
  let d := recoveryShare payload s
  let b' : Int := s.bill.b + (creditAmount payload - d : Nat)
  if (s.active.charges.maxCredit : Int) < b' then { state := evaluate s, outcome := .overLimit }
  else
    { state := evaluate { s with bill := creditBill b' d s.bill }, outcome := .accepted, share := some d }

/-- A DEBT code at BILL (R27). -/
def applyDebt (payload : Nat) (s : State) : Judged :=
  if moneyMax < s.bill.d + payload * 1000 then { state := evaluate s, outcome := .debtLimit }
  else
    { state := evaluate { s with bill := { s.bill with d := s.bill.d + payload * 1000 } }, outcome := .accepted }

/-- A TENANCY code at BILL (R29). -/
def applyTenancy (payload : Nat) (s : State) : Judged :=
  if moneyMax < payload * 1000 then { state := evaluate s, outcome := .debtLimit }
  else
    { state := evaluate { s with bill := endEmergency { s.bill with b := 0, d := payload * 1000, floor := false } },
      outcome := .accepted }

/-- A CLEAR_TAMPER code at TAMPER (R79, R130, R131). -/
def applyClearCode (code : CodePart) (s : State) : Judged :=
  match judgeClearance code.payload s with
  | .accepted => { state := applyClearance code.payload (some code) s, outcome := .accepted }
  | refusal => { state := s, outcome := refusal }

/-- The kind-specific tests and effects (R77 to R79). -/
def applyCode (code : CodePart) (s : State) : Judged :=
  match code.kind with
  | 1 => if code.payload = 0 then { state := s, outcome := .invalidField } else applyCredit code.payload (settleGap s)
  | 2 => applyDebt code.payload (settleGap s)
  | 3 => applyClearCode code s
  | 4 => applyTenancy code.payload (settleGap s)
  | _ => { state := s, outcome := .unknownKind }

/-- The code part of deciphered fields. -/
def codePart (f : Deciphered) : CodePart := ⟨f.kind, f.issue, f.payload⟩

/-- The judging tests in their order (R76). -/
def judgeFields (fields : Option Deciphered) (s : State) : Judged :=
  match fields with
  | none => { state := s, outcome := .malformed }
  | some f =>
    if f.check ≠ codeCheck f then { state := s, outcome := .checkFailed }
    else if f.kind = 0 ∨ 4 < f.kind then { state := s, outcome := .unknownKind }
    else if f.issue ≤ s.code.lowMark then { state := s, outcome := .old }
    else if s.code.accepted.contains f.issue then { state := s, outcome := .used }
    else applyCode (codePart f) s

/-- An issue number at its place in ascending order. -/
def insertIssue (n : Nat) : List Nat → List Nat
  | [] => [n]
  | x :: xs => if n < x then n :: x :: xs else x :: insertIssue n xs

/-- The accepted-code list takes an issue number; a 33rd entry moves the smallest into the low mark (R83). -/
def acceptIssue (n : Nat) (c : CodeEngine) : CodeEngine :=
  let l := insertIssue n c.accepted
  if acceptedMax < l.length then { c with accepted := l.tail, lowMark := l.headD c.lowMark }
  else { c with accepted := l }

/-- A failure against a lockout record (R87, R88). -/
def Lockout.fail (l : Lockout) : Lockout :=
  if l.penalty ≠ 0 then l
  else if l.failures + 1 < 5 then { l with failures := l.failures + 1 }
  else { failures := 5, k := min (l.k + 1) 6, penalty := 60 * 2 ^ l.k }

/-- The end of a penalty that has reached 0 (R88). -/
def Lockout.expire (l : Lockout) : Lockout :=
  if l.failures = 5 ∧ l.penalty = 0 then { l with failures := 4 } else l

/-- Whether an outcome counts against its port (R87). -/
def countsAgainst : CodeOutcome → Bool
  | .malformed | .checkFailed => true
  | _ => false

/-- DONE (R72): the result joins the port's list, the oldest leaving a full one, and CODE_DONE is signalled to that port. -/
def finishEntry (p : Port) (r : CodeResult) (s : State) : State :=
  let old := s.code.results.get p
  let kept := if resultsMax ≤ old.length then old.tail else old
  occurrence .codeDone (p == .meter) (p == .network)
    { s with code := { s.code with flight := none, results := s.code.results.set p (kept ++ [r]) } }

/-- The code part of a result: present but for MALFORMED and CHECK_FAILED (R85). -/
def resultCode (fields : Option Deciphered) (o : CodeOutcome) : Option CodePart :=
  if countsAgainst o then none else fields.map codePart

/-- What a refusal leaves (R81, R87), and its DONE. -/
def refuseEntry (fl : Flight) (fields : Option Deciphered) (j : Judged) : State :=
  let p := fl.entry.port
  let s1 :=
    if countsAgainst j.outcome then
      stageRoutine (recordNow .codeRefused j.state)
        { j.state with code := { j.state.code with lockout := j.state.code.lockout.set p (j.state.code.lockout.get p).fail } }
    else j.state
  finishEntry p { ticket := fl.entry.ticket, outcome := j.outcome, code := resultCode fields j.outcome, share := none } s1

/-- Acceptance after its effect: list, lockout, record, checkpoint, PERSISTING (R80 steps 2 to 5). -/
def acceptEntry (fl : Flight) (code : CodePart) (j : Judged) : State :=
  let c := acceptIssue code.issue j.state.code
  let s1 := { j.state with code :=
    { c with lockout := c.lockout.set fl.entry.port Lockout.clear,
             flight := some { fl with phase := .persisting code j.share false } } }
  requestCheckpoint (stageRoutine { recordNow .codeAccepted s1 with code := some code } s1)

/-- The judging request (R70). A penalty of this port that has reached 0 has ended first (log entry 13). -/
def judgeEntry (s : State) : State :=
  match s.code.flight with
  | some fl =>
    match fl.phase with
    | .judging fields =>
      let s0 := { s with code :=
        { s.code with lockout := s.code.lockout.set fl.entry.port (s.code.lockout.get fl.entry.port).expire } }
      let j := judgeFields fields s0
      match j.outcome, fields with
      | .accepted, some f => acceptEntry fl (codePart f) j
      | _, _ => refuseEntry fl fields j
    | .deciphering _ | .persisting _ _ _ => s
  | none => s

/-- CODE_JUDGING (R70, R76 to R83, R87). -/
def execCodeJudging (s : State) : Result := inMain .codeJudging judgeEntry s

/-- A checkpoint write that started after the acceptance has completed (R71, R72). -/
def completeFlight (s : State) : State :=
  match s.code.flight with
  | some fl =>
    match fl.phase with
    | .persisting code share true =>
      finishEntry fl.entry.port { ticket := fl.entry.ticket, outcome := .accepted, code := some code, share := share } s
    | _ => s
  | none => s

/-- A checkpoint write starts while the entry is PERSISTING: it holds the effect (R71). -/
def coverFlight (c : CodeEngine) : CodeEngine :=
  match c.flight with
  | some fl =>
    match fl.phase with
    | .persisting code share _ => { c with flight := some { fl with phase := .persisting code share true } }
    | .deciphering _ | .judging _ => c
  | none => c

/-! ## Lockout, results and the floor -/

/-- One second off a running penalty (R88). -/
def Lockout.countDown (l : Lockout) : Lockout := { l with penalty := l.penalty - 1 }

/-- PENALTY_DECREMENT (R88). -/
def execPenaltyDecrement (s : State) : Result :=
  inMain .penaltyDecrement
    (fun s => { s with code :=
      { s.code with lockout := ⟨s.code.lockout.meter.countDown, s.code.lockout.network.countDown⟩ } }) s

/-- PENALTY_EXPIRY (R88). -/
def execPenaltyExpiry (p : Port) (s : State) : Result :=
  inMain (.penaltyExpiry p)
    (fun s => { s with code := { s.code with lockout := s.code.lockout.set p (s.code.lockout.get p).expire } }) s

/-- The place of a ticket of a port in the queue, the head being 1 (R86). -/
def queuePosition (p : Port) (ticket : Byte) : Nat → List CodeEntry → Option Nat
  | _, [] => none
  | n, e :: rest => if e.port = p ∧ e.ticket = ticket then some n else queuePosition p ticket (n + 1) rest

/-- The data of a result (R85, R86; log entry 19). -/
def resultBytes (r : CodeResult) : List Byte :=
  r.ticket :: beNat 1 (outcomeCode r.outcome) ++
  (match r.code with
    | some c => 1#8 :: beNat 1 c.kind ++ beNat 3 c.issue ++ beNat 4 c.payload
    | none => 0#8 :: beNat 1 0 ++ beNat 3 0 ++ beNat 4 0) ++
  beOption 8 r.share

/-- The answer to CODE_RESULT (R86). -/
def lookUpTicket (p : Port) (ticket : Byte) (s : State) : Reply :=
  match queuePosition p ticket 1 s.code.queue with
  | some n => ⟨.pending, beNat 1 queuedCode ++ beNat 1 n⟩
  | none =>
    if s.code.flight.any (fun fl => fl.entry.port == p && fl.entry.ticket == ticket) then
      ⟨.pending, beNat 1 (flightCode s.code.flight)⟩
    else
      match (s.code.results.get p).find? (fun r => r.ticket == ticket) with
      | some r => ⟨.ok, resultBytes r⟩
      | none => .bare .unknownTicket

/-- CODE_RESULT (R86), on both ports. -/
def execCodeResult (p : Port) (ticket : Byte) (s : State) : Result :=
  runCommand (.codeResult p ticket) p true (fun s => (s, lookUpTicket p ticket s)) s

/-- The effect of SET_CODE_FLOOR (R84; log entry 22). -/
def setFloor (m : BitVec 32) (s : State) : State × Reply :=
  if s.tariff.commissioned then (s, .bare .wrongState)
  else if 16777215 < m.toNat then (s, .bare .badArgument)
  else
    (requestCheckpoint { s with code := { s.code with accepted := [], lowMark := m.toNat } }, .bare .ok)

/-- SET_CODE_FLOOR (R84), on the network port. -/
def execSetCodeFloor (p : Port) (m : BitVec 32) (s : State) : Result :=
  runCommand (.setCodeFloor p m) p (onNetwork p) (setFloor m) s

end Sys2Proof.Machine
end

