-- ==== Sys2Proof/Machine/EvidenceLogs.lean ====
section
/-! DEFINITION. LOG's commands (07_evidence_log.md). -/

namespace Sys2Proof.Machine

/-! ## Offers -/

/-- An evidence record is offered by the block its kind comes from (R139), which keeps it when it is refused for room
(R101, R128, R141, R159). -/
def stageEvidence (r : Record) (s : State) : State :=
  match r.kind with
  | .tamper | .tamperCleared => stageTamper r s
  | .relayFault => stageSwitch r s
  | .clockSet => stageCalendar r s
  | _ => stageSupmon r s

/-- RECORD_OFFER (R140, R141, R149): taken in every supply state. The holds of waiting evidence are in the main domain, so
they keep a record only while it runs. -/
def execRecordOffer (r : Record) (s : State) : Result :=
  .next
    (if isEvidence r.kind then (if mainGood s then stageEvidence r (s.take (.recordOffer r)) else stageSupmon r s)
     else stageRoutine r (s.take (.recordOffer r)))

/-- An origin's oldest waiting record is offered again (R141). -/
def reofferFrom (o : Origin) (s : State) : State :=
  match o with
  | .tamper =>
    let out := s.log.reoffer s.tamper.hold
    { s with tamper := { s.tamper with hold := out.1 }, log := out.2 }
  | .switch =>
    let out := s.log.reoffer s.sw.waiting
    { s with sw := { s.sw with waiting := out.1 }, log := out.2 }
  | .calendar =>
    let out := s.log.reoffer s.cal.hold
    { s with cal := { s.cal with hold := out.1 }, log := out.2 }

/-- WAITING_EVIDENCE_OFFER (R141). -/
def execWaitingEvidenceOffer (o : Origin) (s : State) : Result :=
  inMain (.waitingEvidenceOffer o) (reofferFrom o) s

/-! ## The writer -/

/-- The cap test from the head of the staging queue on (R142, R144): evidence is removed and counted while the uncollected
count is 64. Answers the queue and the overflow count. -/
def capTest (uncollected : Nat) : List LogRecord → Nat → List LogRecord × Nat
  | [], overflow => ([], overflow)
  | r :: rest, overflow =>
    if isEvidence r.body.kind && decide (uncollectedMax ≤ uncollected) then
      capTest uncollected rest (bump max16 overflow)
    else (r :: rest, overflow)

/-- A record that may give way in a full log (R142). -/
def givesWay (mark : Nat) (r : LogRecord) : Bool := !isEvidence r.body.kind || decide (r.number ≤ mark)

/-- The log when a record write starts: a full one loses its oldest record that may give way (R142). -/
def makePlace (mark : Nat) (records : List LogRecord) : List LogRecord :=
  if records.length < logMax then records else records.eraseP (givesWay mark)

/-- The idle writer takes the head of the staging queue (R142, R144). -/
def EvidenceLog.startRecord (l : EvidenceLog) : EvidenceLog :=
  let tested := capTest l.uncollected l.staging l.overflow
  let l1 := { l with staging := tested.1, overflow := tested.2 }
  if tested.1.isEmpty then l1 else { l1 with records := makePlace l.heldMark l.records, writer := .record 0 }

/-- LOG_WRITE_START (R142, R144): a mark write that is asked for comes first (R146). -/
def execLogWriteStart (s : State) : Result :=
  inMain .logWriteStart
    (fun s =>
      if s.log.writer = .idle ∧ s.log.markRequest = false then { s with log := s.log.startRecord } else s) s

/-- A record write completes (R142, R143, R148). -/
def completeRecord (s : State) : State :=
  match s.log.writer, s.log.staging with
  | .record ms, r :: rest =>
    if logWriteMs ≤ ms then
      let s1 := { s with log := { s.log with records := s.log.records ++ [r], staging := rest, writer := .idle } }
      if isEvidence r.body.kind then evaluateThreshold s1 else s1
    else s
  | _, _ => s

/-- LOG_WRITE_COMPLETE (R142, R143): after the 10 ms of a record write. -/
def execLogWriteComplete (s : State) : Result := inMain .logWriteComplete completeRecord s

/-- A place of the log copy of the mark is set. -/
def EvidenceLog.putMark (l : EvidenceLog) (p : Place) (x : Option MarkCopy) : EvidenceLog :=
  match p with
  | .a => { l with markA := x }
  | .b => { l with markB := x }

def EvidenceLog.countA (l : EvidenceLog) : Option Nat := l.markA.map (·.count)
def EvidenceLog.countB (l : EvidenceLog) : Option Nat := l.markB.map (·.count)

/-- A mark write starts: into the older place, with the held mark (R146). -/
def EvidenceLog.startMark (l : EvidenceLog) : EvidenceLog :=
  let p := olderPlace l.countA l.countB
  { l.putMark p none with
    writer := .mark p ⟨l.heldMark, nextCount l.countA l.countB p⟩ 0, markRequest := false }

/-- MARK_WRITE_START (R146). -/
def execMarkWriteStart (s : State) : Result :=
  inMain .markWriteStart
    (fun s =>
      if s.log.writer = .idle ∧ s.log.markRequest = true then { s with log := s.log.startMark } else s) s

/-- A mark write completes (R146). -/
def EvidenceLog.completeMark (l : EvidenceLog) : EvidenceLog :=
  match l.writer with
  | .mark p copy ms => if logWriteMs ≤ ms then { l.putMark p (some copy) with writer := .idle } else l
  | .idle | .record _ => l

/-- MARK_WRITE_COMPLETE (R146): after the 10 ms of a mark write. -/
def execMarkWriteComplete (s : State) : Result :=
  inMain .markWriteComplete (fun s => { s with log := s.log.completeMark }) s

/-! ## Collecting and reading -/

/-- The lowest and the highest number of the log (R145, R147). -/
def EvidenceLog.lowest (l : EvidenceLog) : Option Nat := l.records.head?.map (·.number)
def EvidenceLog.highest (l : EvidenceLog) : Option Nat := l.records.getLast?.map (·.number)

/-- The held mark that a collect naming n gives (R145). -/
def EvidenceLog.markAfter (l : EvidenceLog) (n : Nat) : Nat :=
  match l.highest with
  | some h => max l.heldMark (min n h)
  | none => l.heldMark

/-- EVIDENCE_COLLECT's effect on LOG (R145, R146). -/
def EvidenceLog.collect (l : EvidenceLog) (n : Nat) : EvidenceLog :=
  { l with heldMark := l.markAfter n, overflow := 0,
           markRequest := l.markRequest || decide (l.heldMark < l.markAfter n) }

/-- The collect and its answer (R145, R148). -/
def collectEvidence (n : Nat) (s : State) : State × Reply :=
  let l := s.log.collect n
  (evaluateThreshold { s with log := l },
   ⟨.ok, beNat 4 l.heldMark ++ beNat 1 l.uncollected ++ beNat 2 s.log.overflow⟩)

/-- EVIDENCE_COLLECT (R145), on the network port. -/
def execEvidenceCollect (p : Port) (n : BitVec 32) (s : State) : Result :=
  runCommand (.evidenceCollect p n) p (onNetwork p) (collectEvidence n.toNat) s

/-- The optional parts of a record as 12.7 sends them. -/
def partBytes (r : Record) : List Byte :=
  (match r.tamper with
    | some t => beNat 4 t.number ++ beNat 1 (match t.kind with | some k => tamperKindCode k | none => 0)
    | none => []) ++
  (match r.code with | some c => beNat 1 c.kind ++ beNat 3 c.issue ++ beNat 4 c.payload | none => []) ++
  (match r.relay with
    | some x => beNat 1 (positionCode x.before) ++ beNat 1 (positionCode x.after) ++ beNat 1 (demandCode x.set) ++
        beNat 1 x.attempts
    | none => []) ++
  (match r.gap with | some g => beNat 1 g | none => []) ++
  (match r.energy with | some e => beNat 6 e | none => []) ++
  (match r.clock with
    | some c => beNat 4 c.oldTime ++ beNat 4 c.newTime ++ beInt 2 c.oldOffset ++ beInt 2 c.newOffset
    | none => [])

/-- One record as READ_LOG returns it (12.7). -/
def recordBytes (mark : Nat) (r : LogRecord) : List Byte :=
  beNat 4 r.number ++ beNat 4 r.body.time ++
  flagByte [r.body.valid, isEvidence r.body.kind, isEvidence r.body.kind && decide (r.number ≤ mark)] ++
  beNat 1 (recordKindCode r.body.kind) ++
  flagByte [r.body.tamper.isSome, r.body.code.isSome, r.body.relay.isSome, r.body.gap.isSome, r.body.energy.isSome,
            r.body.clock.isSome] ++
  partBytes r.body

/-- The data of READ_LOG (R147, 12.7). -/
def logBytes (first count : Nat) (l : EvidenceLog) : List Byte :=
  let found := (l.records.filter (fun r => decide (first ≤ r.number))).take count
  beNat 4 (l.lowest.getD 0) ++ beNat 4 (l.highest.getD 0) ++ beNat 1 l.records.length ++ beNat 4 (l.next.getD 0) ++
  beNat 4 l.heldMark ++ beNat 1 l.uncollected ++ beNat 2 l.overflow ++ beNat 2 l.dropped ++
  beNat 1 l.staging.length ++ beNat 1 found.length ++ found.flatMap (recordBytes l.heldMark)

/-- READ_LOG (R147), on both ports. -/
def execReadLog (p : Port) (first : BitVec 32) (count : Byte) (s : State) : Result :=
  runCommand (.readLog p first count) p true
    (fun s =>
      if 1 ≤ count.toNat ∧ count.toNat ≤ 4 then (s, ⟨.ok, logBytes first.toNat count.toNat s.log⟩)
      else (s, .bare .badArgument)) s

/-- The effect of SET_EVIDENCE_THRESHOLD (R148). -/
def setThreshold (v : Byte) (s : State) : State × Reply :=
  if v.toNat = 16 ∨ v.toNat = 32 ∨ v.toNat = 48 ∨ v.toNat = 64 then
    (evaluateThreshold { s with log := { s.log with threshold := v.toNat } }, ⟨.ok, beNat 1 s.log.uncollected⟩)
  else (s, .bare .badArgument)

/-- SET_EVIDENCE_THRESHOLD (R148), on the network port. -/
def execSetEvidenceThreshold (p : Port) (v : Byte) (s : State) : Result :=
  runCommand (.setEvidenceThreshold p v) p (onNetwork p) (setThreshold v) s

end Sys2Proof.Machine
end

