-- ==== Sys2Proof/Machine/TamperWatch.lean ====
section
/-! DEFINITION. TAMPER's commands (06_tamper_detection.md). -/

namespace Sys2Proof.Machine

/-- TAMPER_EVENT (R116, R125 to R129): the time is that of the moment TAMPER takes the request. -/
def execTamperEvent (k : TamperKind) (s : State) : Result :=
  inMain (.tamperEvent k) (fun s => tamperEvent k s.cal.t s.cal.valid s) s

/-- The kind a cover input raises (6.1). -/
def coverKind : CoverInput → TamperKind
  | .cover => .coverOpen
  | .terminal => .tcoverOpen

/-- The debounce of a cover input after the input has changed (R117). -/
def watchCover (i : CoverInput) (reading : CoverPos) (m : Tamper) : Tamper :=
  let timer : Timer :=
    if reading = m.debounced.get i then .stopped
    else if (m.debounce.get i).running then m.debounce.get i else .started
  { m with debounce := m.debounce.set i timer }

/-- COVER_INPUT_CHANGE (R117). -/
def execCoverInputChange (i : CoverInput) (reading : CoverPos) (s : State) : Result :=
  .next
    (let s1 := { s with pins := { s.pins with covers := s.pins.covers.set i reading } }
     if mainGood s then { s1 with tamper := watchCover i reading s1.tamper } else s1)

/-- The event of a cover latch is formed from it, which clears it (R118, R120). -/
def formLatch (i : CoverInput) (l : LatchTime) (s : State) : State :=
  tamperEvent (coverKind i) l.time l.valid { s with tamper := { s.tamper with latch := s.tamper.latch.set i none } }

/-- The end of a debounce (R117, R118): a latch already set is not overwritten. -/
def endDebounce (i : CoverInput) (s : State) : State :=
  let reading := s.pins.covers.get i
  let s1 := { s with tamper :=
    { s.tamper with debounced := s.tamper.debounced.set i reading, debounce := s.tamper.debounce.set i .stopped } }
  if s.tamper.debounced.get i = .closed ∧ reading = .opened then
    formLatch i ((s.tamper.latch.get i).getD ⟨s.cal.t, s.cal.valid⟩) s1
  else s1

/-- DEBOUNCE_EXPIRY (R117, R118): of a timer that has reached 20 ms. -/
def execDebounceExpiry (i : CoverInput) (s : State) : Result :=
  inMain (.debounceExpiry i)
    (fun s => if (s.tamper.debounce.get i).due debounceMs then endDebounce i s else s) s

/-- One backup sample of a cover input (R119). -/
def sampleCover (i : CoverInput) (reading : CoverPos) (now : LatchTime) (m : Tamper) : Tamper :=
  let latch :=
    if reading = .opened ∧ m.lastSample.get i = .closed ∧ m.latch.get i = none then some now else m.latch.get i
  { m with latch := m.latch.set i latch, lastSample := m.lastSample.set i reading }

/-- BACKUP_COVER_SAMPLE (R119): while the main domain is stopped, 250 ms after the last one. -/
def execBackupCoverSample (s : State) : Result :=
  .next
    (if mainGood s || !s.tamper.sampling.due samplingMs then s
     else
      let now : LatchTime := ⟨s.cal.t, s.cal.valid⟩
      let m := sampleCover .terminal s.pins.covers.terminal now (sampleCover .cover s.pins.covers.cover now s.tamper)
      { s with tamper := { m with sampling := .started } })

/-- MAGS_CHANGE (R122 to R124). -/
def execMagsChange (high : Bool) (s : State) : Result :=
  .next
    (let s1 := { s with pins := { s.pins with mags := high } }
     if mainGood s then watchMagnetic s1 else s1)

/-- MAGNETIC_PRESENCE_EXPIRY (R123): of a timer that has reached 2 s. The spec says that it stops; the count that it then
shows is the model's choice, 0 (log entry 36). -/
def execMagneticPresenceExpiry (s : State) : Result :=
  inMain .magneticPresenceExpiry
    (fun s =>
      if s.tamper.presence.due presenceMs then
        let s1 := tamperEvent .magnetic s.cal.t s.cal.valid s
        { s1 with tamper := { s1.tamper with magnetic := true, presence := .stopped, release := .stopped } }
      else s) s

/-- MAGNETIC_RELEASE_EXPIRY (R124): of a timer that has reached 10 s; its count is then the model's choice, 0 (log entry
36). -/
def execMagneticReleaseExpiry (s : State) : Result :=
  inMain .magneticReleaseExpiry
    (fun s =>
      if s.tamper.release.due releaseMs then
        watchMagnetic { s with tamper := { s.tamper with magnetic := false, release := .stopped } }
      else s) s

/-- The status that goes with a clearance outcome (R133). -/
def clearanceStatus : CodeOutcome → Status
  | .accepted => .ok
  | .invalidField => .badArgument
  | .staleClearance => .stale
  | _ => .conditionPresent

/-- The outcome and the three sequences, as the request left them (R133). -/
def clearanceReply (o : CodeOutcome) (s : State) : Reply :=
  ⟨clearanceStatus o,
   beNat 1 (outcomeCode o) ++ beNat 4 s.tamper.ts ++ beNat 4 s.tamper.tsLock ++ beNat 4 s.tamper.tsClear⟩

/-- The remote clearance (R130, R131, R133). -/
def remoteClear (c : Nat) (s : State) : State × Reply :=
  match judgeClearance c s with
  | .accepted =>
    let s1 := requestCheckpoint (applyClearance c none s)
    (s1, clearanceReply .accepted s1)
  | refusal => (s, clearanceReply refusal s)

/-- REMOTE_TAMPER_CLEAR (R133), on the network port. -/
def execRemoteTamperClear (p : Port) (c : BitVec 32) (s : State) : Result :=
  runCommand (.remoteTamperClear p c) p (onNetwork p) (remoteClear c.toNat) s

/-- The flags of a cover input in READ_TAMPER: debounced position, reading, and the clock-valid flag its latch holds (R135;
log entry 19). -/
def coverFlags (i : CoverInput) (s : State) : List Bool :=
  [s.tamper.debounced.get i == .opened, s.pins.covers.get i == .opened, (s.tamper.latch.get i).any (·.valid)]

/-- The data of READ_TAMPER (R135; log entry 19): its twelve flags stand together, at the place of the first (R197);
a latch that is not set has no time. -/
def tamperBytes (s : State) : List Byte :=
  beNat 4 s.tamper.ts ++ beNat 4 s.tamper.tsLock ++ beNat 4 s.tamper.tsClear ++
  flagByte (s.sw.set.tamper :: coverFlags .cover s ++ coverFlags .terminal s ++ [s.pins.mags]) ++
  flagByte [s.tamper.feFlag, s.tamper.magnetic, s.tamper.presence.running, s.tamper.release.running] ++
  beOption 4 (s.tamper.latch.cover.map (·.time)) ++ beOption 4 (s.tamper.latch.terminal.map (·.time)) ++
  timerMs s.tamper.presence.ms ++ timerMs s.tamper.release.ms ++
  beNat 1 s.active.policy.lockout.toNat ++ beNat 1 s.tamper.hold.length

/-- READ_TAMPER (R135), on both ports. -/
def execReadTamper (p : Port) (s : State) : Result :=
  runCommand (.readTamper p) p true (readOnly tamperBytes) s

end Sys2Proof.Machine
end

