-- ==== Sys2Proof/Machine/Outages.lean ====
section
/-! DEFINITION. SUPMON's commands: supply states, restores and checkpoints (09_outages_and_restoration.md), with what each
block's own chapter gives for a main failure and for the end of a restore. -/

namespace Sys2Proof.Machine

/-! ## Checkpoints (R172 to R174) -/

/-- The contents of a checkpoint (R172). -/
def contents (s : State) : Checkpoint where
  seq := s.supmon.nextSeq
  time := s.cal.t
  b := s.bill.b
  r := s.bill.r
  q := s.bill.q
  h := s.bill.h
  d := s.bill.d
  emergency := s.bill.emergency
  accepted := s.code.accepted
  lowMark := s.code.lowMark
  ts := s.tamper.ts
  tsLock := s.tamper.tsLock
  tsClear := s.tamper.tsClear
  totals := s.totals
  set := s.sw.set
  confirm := s.sw.confirm
  commissioned := s.tariff.commissioned
  counter := s.log.next.getD 0
  active := s.active

/-- How low a slot counts: empty and invalid ones below every valid one (R173). -/
def slotRank : Slot → Nat
  | .empty | .invalid => 0
  | .valid c => c.seq + 1

/-- The slot a write goes into: the lowest rank, and the lowest number among equals (R173). -/
def chooseSlot (ring : List Slot) : Nat :=
  ring.findIdx (fun x => ring.all (fun y => decide (slotRank x ≤ slotRank y)))

/-- The idle writer with the flag set starts a write, which holds the entry in PERSISTING (R71, R173). -/
def startCheckpoint (s : State) : State :=
  if s.supmon.writer = .idle ∧ s.supmon.request = true then
    let slot := chooseSlot s.supmon.ring
    { s with
      code := coverFlight s.code,
      supmon :=
        { s.supmon with request := false, nextSeq := s.supmon.nextSeq + 1, ring := s.supmon.ring.set slot .invalid,
                        writer := .writing slot (contents s) 0 } }
  else s

/-- A write completes: the slot is valid, CODE is told, and a further write starts if one is asked for (R173). -/
def completeCheckpoint (s : State) : State :=
  match s.supmon.writer with
  | .idle => s
  | .writing slot c _ =>
    startCheckpoint
      (completeFlight
        { s with supmon :=
          { s.supmon with ring := s.supmon.ring.set slot (.valid c), writer := .idle, lastDone := some ⟨c.seq, c.time⟩ } })

/-- CHECKPOINT_REQUEST (R172). -/
def execCheckpointRequest (s : State) : Result := .next (requestCheckpoint (s.take .checkpointRequest))

/-- CHECKPOINT_WRITE_START (R173). -/
def execCheckpointWriteStart (s : State) : Result := inMain .checkpointWriteStart startCheckpoint s

/-- CHECKPOINT_WRITE_COMPLETE (R173). -/
def execCheckpointWriteComplete (s : State) : Result := inMain .checkpointWriteComplete completeCheckpoint s

/-! ## Brown-out -/

/-- A brown-out begins (R96, R99, R107): the permit is withheld, a pulse is cut, a running hold-off goes back to 0. -/
def startBrownOut (s : State) : State :=
  let w := s.sw.losePermit true
  let holdOff : Timer := if w.holdOff.running then .started else w.holdOff
  settleSwitch { w with holdOff := holdOff }
    { s with supmon := { s.supmon with brownOut := true }, pins := { s.pins with vmainGood := false } }

/-- BROWN_OUT_START (R164). -/
def execBrownOutStart (s : State) : Result := inMain .brownOutStart startBrownOut s

/-- BROWN_OUT_END (R164). The rise to 3.0 V or above sets the bit that RESETN_RELEASE reads as VMAIN above 3.0 V, so VMAIN at
exactly 3.0 V counts as above it: the model's choice (log entry 8). -/
def execBrownOutEnd (s : State) : Result :=
  inMain .brownOutEnd
    (fun s =>
      settleSwitch s.sw
        { s with supmon := { s.supmon with brownOut := false }, pins := { s.pins with vmainGood := true } }) s

/-! ## The main domain stops (R18, R43, R90, R112, R136, R149, R163, R165, R175, R189) -/

/-- The billed increments MLR has handed over are debited: a report is never taken in part (R18; log entry 16). -/
def drainDebits (s : State) : State :=
  s.handed.foldl
    (fun acc i => match i with
      | .debitRequest e => debit e (acc.take i)
      | _ => acc) (settleGap s)

/-- SWITCH loses its main-domain state; an operation in flight is abandoned (R112). -/
def Switch.stop (w : Switch) : Switch :=
  let kept : Switch :=
    { w with phase := none, attempts := 0, opTimer := .stopped, deadCoil := none, deadMs := 0, holdOff := .stopped,
             overload := .stopped, streak := 0, bypass := .stopped, bypassRaised := false, waiting := [] }
  match w.state with
  | .opening | .closing => { kept with state := .unknown, position := .unknown }
  | .unknown | .closed | .opened | .armed => kept

/-- TAMPER loses its main-domain state (R136). -/
def Tamper.stop (m : Tamper) : Tamper :=
  { m with debounce := ⟨.stopped, .stopped⟩, feFlag := false, presence := .stopped, magnetic := false,
           release := .stopped, hold := [] }

/-- CODE loses its main-domain state (R90). -/
def CodeEngine.stop (c : CodeEngine) : CodeEngine :=
  { c with queue := [], flight := none, tickets := ⟨0, 0⟩, results := ⟨[], []⟩ }

/-- A tariff image write is abandoned, and its request lost (R62). -/
def TariffStore.stop (t : TariffStore) : TariffStore :=
  { t with imageState := if t.imageWriting.isSome then .stale else t.imageState, imageWriting := none,
           imageRequest := false }

/-- A checkpoint write is abandoned: its slot stays invalid and the request flag is set (R175). -/
def Supmon.stop (m : Supmon) : Supmon :=
  match m.writer with
  | .writing _ _ _ => { m with writer := .idle, request := true, brownOut := false }
  | .idle => { m with brownOut := false }

/-- Every block loses what its chapter places in the main domain. What is lost stands from then on at the values of the restore
tables: the model's choice (log entry 45). -/
def loseMain (s : State) : State :=
  { s with
    mlr := { Mlr.restored with silence := .stopped },
    bill := { s.bill with deferral := false, floor := false },
    tariff := s.tariff.stop,
    cal := { s.cal with hold := [] },
    code := s.code.stop,
    sw := s.sw.stop,
    tamper := s.tamper.stop,
    log := { s.log with writer := .idle, markRequest := false },
    supmon := s.supmon.stop,
    ports := { s.ports with line := ⟨Line.fresh, Line.fresh⟩, interByte := .stopped, txTenths := 0, msdo := none,
                            deaf := false },
    identity := { s.identity with writing := none, again := false },
    handed := [] }

/-- The backup domain takes over the cover inputs (R119). The 250 ms count starts as the main domain stops, so the first
sample comes 250 ms after the stop: the model's choice (log entry 38). -/
def startSampling (m : Tamper) : Tamper := { m with lastSample := m.debounced, sampling := .started }

/-- The main domain stops (R165). -/
def stopMain (s : State) : State :=
  let s1 := loseMain s
  { s1 with tamper := startSampling s1.tamper }

/-- The main-fail time is stored and POWER_FAIL is staged (R165). -/
def storeFailure (s : State) : State :=
  stageRoutine (recordNow .powerFail s) { s with supmon := { s.supmon with failTime := some s.cal.t } }

/-- SUPMON's supply state, origin and restore timer are set. -/
def setSupply (st : SupplyState) (origin : Option RestoreOrigin) (timer : Timer) (s : State) : State :=
  { s with supmon := { s.supmon with supply := st, origin := origin, restoreTimer := timer } }

def setVmain (good : Bool) (s : State) : State := { s with pins := { s.pins with vmainGood := good } }
def setResetn (high : Bool) (s : State) : State := { s with pins := { s.pins with resetn := high } }

/-- A main failure in each supply state (R164, R165). Requests held for the end of the restore are lost (log entry 28). -/
def mainFailure (s : State) : State :=
  match s.supmon.supply with
  | .mainGood => setSupply .mainFailed (some .outage) .stopped (stopMain (storeFailure (drainDebits (setVmain false s))))
  | .restoring =>
    let s1 := setVmain false { s with handed := [] }
    setSupply .mainFailed (some .outage) .stopped (if s.supmon.origin = some .pin then storeFailure s1 else s1)
  | .mainFailed => s

/-- MAIN_FAILURE (R164, R165). -/
def execMainFailure (s : State) : Result := .next (mainFailure s)

/-- The restore timer runs from 0 if RESETN is high. -/
def timerIf (ok : Bool) : Timer := if ok then .started else .stopped

/-- VMAIN rises above 3.0 V (R164). -/
def vmainRise (s : State) : State :=
  match s.supmon.supply with
  | .mainFailed | .restoring => setSupply .restoring s.supmon.origin (timerIf s.pins.resetn) (setVmain true s)
  | .mainGood => s

/-- VMAIN_RISE (R164). -/
def execVmainRise (s : State) : Result := .next (vmainRise s)

/-- VMAIN falls to 3.0 V or below while RESTORING (R164). -/
def vmainDrop (s : State) : State :=
  match s.supmon.supply with
  | .restoring => setSupply .restoring s.supmon.origin .stopped (setVmain false s)
  | .mainGood | .mainFailed => s

/-- VMAIN_DROP_RESTORING (R164). -/
def execVmainDropRestoring (s : State) : Result := .next (vmainDrop s)

/-- RESETN goes low (R164, R165). -/
def resetAssert (s : State) : State :=
  match s.supmon.supply with
  | .mainGood => setSupply .restoring (some .pin) .stopped (stopMain (drainDebits (setResetn false s)))
  | .restoring => setSupply .restoring s.supmon.origin .stopped (setResetn false s)
  | .mainFailed => setResetn false s

/-- RESETN_ASSERT (R164, R165). -/
def execResetnAssert (s : State) : Result := .next (resetAssert s)

/-- RESETN is released (R164). -/
def resetRelease (s : State) : State :=
  match s.supmon.supply with
  | .restoring =>
    if s.pins.vmainGood then setSupply .restoring s.supmon.origin .started (setResetn true s) else setResetn true s
  | .mainGood | .mainFailed => setResetn true s

/-- RESETN_RELEASE (R164). -/
def execResetnRelease (s : State) : Result := .next (resetRelease s)

/-- The retention check is marked invalid (R166). -/
def failRetention (s : State) : State := { s with supmon := { s.supmon with retention := false } }

/-- VCELL_LOW (R166): while VMAIN is absent (log entry 10). -/
def execVcellLow (s : State) : Result :=
  .next (if s.supmon.supply = .mainFailed then failRetention s else s)

/-- BACKUP_POWER_UP (R164): the backup domain cannot first receive power while the main domain runs (log entry 10). -/
def execBackupPowerUp (s : State) : Result :=
  .next
    (if mainGood s then s
     else failRetention (setSupply .mainFailed (some .outage) .stopped (setVmain false { s with handed := [] })))

/-! ## The end of a restore: the retained or loaded state (R167 to R171) -/

/-- The kind of a restore (R167). -/
def restoreKind (s : State) : ResetCause :=
  if s.supmon.retention then (if s.supmon.origin = some .pin then .pin else .warm) else .cold

/-- The governing checkpoint (R169). -/
def governing (ring : List Slot) : Option Checkpoint :=
  ring.foldl
    (fun best x => match x with
      | .valid c =>
        (match best with
          | some b => if b.seq < c.seq then some c else best
          | none => some c)
      | .empty | .invalid => best) none

/-- The log copy of the mark that a restore finds (R146, R151). -/
def governingMark (l : EvidenceLog) : Option Nat :=
  match l.markA, l.markB with
  | some x, some y => if x.count < y.count then some y.mark else some x.mark
  | some x, none => some x.mark
  | none, some y => some y.mark
  | none, none => none

/-- The next record number after a cold restore; counter is the governing checkpoint's, 0 when exhausted (R151). -/
def coldNext (counter : Option Nat) (l : EvidenceLog) : Option Nat :=
  let above := (match l.records.getLast? with | some r => r.number | none => 0) + 1
  match counter with
  | some 0 => none
  | some c => if max c above ≤ max32 then some (max c above) else none
  | none => if above ≤ max32 then some above else none

/-- LOG at a cold restore (R151). The table gives a held mark of 0, where neither place of the log copy passes its check, only
for a cold restore without a valid checkpoint; that one with a valid checkpoint takes 0 too is the model's choice (log entry
41). -/
def coldLog (counter : Option Nat) (l : EvidenceLog) : EvidenceLog :=
  { l with heldMark := (governingMark l).getD 0, staging := [], next := coldNext counter l, overflow := 0, dropped := 0,
           threshold := 32 }

/-- The identity image place that passes its check and has the higher write count (R185). -/
def Identity.image (i : Identity) : Option IdentityCopy :=
  match i.placeA, i.placeB with
  | some x, some y => if x.count < y.count then some y else some x
  | some x, none => some x
  | none, y => y

/-- The working record at a cold restore (R185). -/
def coldIdentity (i : Identity) : Identity :=
  { i with working := match i.image with | some c => c.data | none => IdentityRecord.none }

/-- Whether a place of the identity image fails its check. -/
def Identity.placeFails (i : Identity) : Bool := i.placeA.isNone || i.placeB.isNone

/-- The identity write at the end of a restore (R185). -/
def Identity.resume (i : Identity) (kind : ResetCause) : Identity :=
  match kind with
  | .cold => if i.placeFails && i.image.isSome then i.startWrite else i
  | .warm | .pin =>
    if i.placeFails || !(i.image.any (fun c => decide (c.data = i.working))) then i.startWrite else i

/-- The durable state that a cold restore finds: the governing checkpoint's, or the empty values of R171. -/
def emptyCheckpoint (active : Tariff) : Checkpoint where
  seq := 0
  time := 0
  b := 0
  r := 0
  q := 0
  h := 0
  d := 0
  emergency := .unavailable
  accepted := []
  lowMark := 0
  ts := 0
  tsLock := 0
  tsClear := 0
  totals := Totals.zero
  set := { DemandSet.none with uncommissioned := true }
  confirm := false
  commissioned := false
  counter := 0
  active := active

/-- The tariff of a part with no valid checkpoint (R61). -/
def fallbackTariff (i : TariffImage) : Tariff :=
  match i with
  | .holds t => t
  | .failing => Tariff.default

/-- A checkpoint's values are loaded, and every other retained value takes its cold default (R170, R171). -/
def loadDurable (c : Checkpoint) (counter : Option Nat) (s : State) : State :=
  { s with
    totals := c.totals,
    bill := { b := c.b, r := c.r, q := c.q, h := c.h, d := c.d, emergency := c.emergency, deferral := false,
              floor := false },
    tariff := { s.tariff with active := c.active, slot := .empty, commissioned := c.commissioned },
    cal := { s.cal with t := c.time, phase := 0, offset := 0, valid := false },
    code := { s.code with accepted := c.accepted, lowMark := c.lowMark, lockout := ⟨Lockout.clear, Lockout.clear⟩ },
    sw := { s.sw with set := c.set, confirm := c.confirm, state := .unknown, position := .unknown, fault := false },
    tamper := { s.tamper with ts := c.ts, tsLock := c.tsLock, tsClear := c.tsClear, latch := ⟨none, none⟩,
                              lastSample := ⟨.closed, .closed⟩ },
    log := coldLog counter s.log,
    alert := Alert.default,
    identity := coldIdentity s.identity,
    supmon := { s.supmon with nextSeq := c.seq + 1, request := true, failTime := none } }

/-- SUPMON's records of a cold restore (R170, R171): lost says that no slot was valid. -/
def coldRecords (lost : Bool) (s : State) : State :=
  let s1 := stageSupmon { recordNow .coldStart s with energy := some s.totals.imported } s
  let s2 := if lost then stageSupmon (recordNow .checkpointLost s) s1 else s1
  stageRoutine (recordNow .powerRestore s) s2

/-- The state that a restore of each kind starts the blocks from (R168, R170, R171). -/
def selectState (kind : ResetCause) (s : State) : State :=
  match kind with
  | .warm | .pin => stageRoutine (recordNow .powerRestore s) s
  | .cold =>
    match governing s.supmon.ring with
    | some c => coldRecords false (loadDurable c (some c.counter) s)
    | none => coldRecords true (loadDurable (emptyCheckpoint (fallbackTariff s.tariff.image)) none s)

/-! ## The end of a restore: the blocks resume -/

/-- The network port's rate (R180). -/
def baudOf (baud1 baud0 : Bool) : Baud :=
  match baud1, baud0 with
  | false, false => .b9600
  | false, true => .b19200
  | true, false => .b38400
  | true, true => .b115200

/-- SUPMON, the ports and MLR resume (R19, R167, R189). A meter port that is selected has no byte boundary before MCSN next
falls, and a byte in progress on the network port's line stays one to ignore (R189; log entry 35). -/
def resumeSupply (kind : ResetCause) (baud1 baud0 : Bool) (s : State) : State :=
  present .metrologyLost false
    { s with
      mlr := Mlr.restored,
      supmon := { s.supmon with supply := .mainGood, origin := none, restoreTimer := .stopped, cause := kind,
                                retention := true, lastDone := none },
      ports := { s.ports with baud := baudOf baud1 baud0, deaf := !s.pins.mcsn },
      pins := { s.pins with baud1 := baud1, baud0 := baud0 } }

/-- SWITCH's values at the end of a restore (R115). -/
def Switch.resume (w : Switch) : Switch :=
  { w with holdOff := .started, overload := if w.set.overload then .started else .stopped }

/-- The bypass watch starts from zero in OPEN and ARMED (R114). -/
def startBypass (s : State) : State :=
  if restsOpen s.sw && s.pins.lsense then { s with sw := { s.sw with bypass := .started } } else s

/-- SWITCH resolves its position (R114). -/
def resolvePosition (s : State) : State :=
  match s.sw.state with
  | .unknown =>
    if s.sw.set.isEmpty then
      let s1 := believe (sensed s) 0 s
      applyRules false { s1 with sw := { s1.sw with state := if s.pins.lsense then .closed else .opened } }
    else settleSwitch s.sw.startOpening s
  | .closed | .opened | .armed | .opening | .closing => applyRules false s

/-- SWITCH resumes (R114, R115). -/
def resumeSwitch (s : State) : State := startBypass (resolvePosition { s with sw := s.sw.resume })

/-- The demand-set requests that were held during the restore, oldest first (R113). -/
def takeHeld (held : List Instr) (s : State) : State :=
  held.foldl
    (fun acc i => match i with
      | .demandSetRequest m add => demand m add acc
      | _ => acc) s

/-- TAMPER's watches start (R119 to R121, R137): the debounced positions are the last backup samples, CLOSED after a cold
restore; an input that reads otherwise starts its timer. -/
def Tamper.resume (m : Tamper) (pins : Pins) : Tamper :=
  watchCover .terminal pins.covers.terminal
    (watchCover .cover pins.covers.cover
      { m with debounced := m.lastSample, presence := timerIf pins.mags, sampling := .stopped })

/-- A cover latch set during the outage becomes an event (R120). -/
def formHeldLatch (i : CoverInput) (s : State) : State :=
  match s.tamper.latch.get i with
  | some l => formLatch i l s
  | none => s

/-- TAMPER resumes: the member agrees, then the latches are formed (R120, R137). -/
def resumeTamper (s : State) : State :=
  let s1 := { s with tamper := s.tamper.resume s.pins }
  formHeldLatch .terminal
    (formHeldLatch .cover (demand .tamper (decide (s1.tamper.tsClear < s1.tamper.tsLock)) s1))

/-- BILL resumes: the gap accrual is asked for after a warm or pin restore; after a cold one BILL evaluates (R24, R45). -/
def resumeBill (kind : ResetCause) (s : State) : State :=
  match kind with
  | .warm | .pin => State.hand [.gapAccrual (BitVec.ofNat 32 s.cal.t)] s
  | .cold => evaluate s

/-- LOG resumes: a mark write first when the log copy differs from the held mark or fails its check (R148, R150). The
copy is the mark of the place that governs, and fails its check when no place passes; that one failing place beside a place
that holds the held mark asks for no write is the model's choice (log entry 42). -/
def resumeLog (kind : ResetCause) (s : State) : State :=
  let owed := match kind with
    | .warm | .pin => decide (governingMark s.log ≠ some s.log.heldMark)
    | .cold => false
  evaluateThreshold { s with log := { s.log with markRequest := owed } }

/-- TARIFF resumes: an image that does not hold the active tariff is written (R62, R63). -/
def resumeTariff (t : TariffStore) : TariffStore :=
  if t.image = .holds t.active then { t with imageState := .current } else t.startImageWrite

/-- The end of a restore (R167). R140 and R167 leave the order of the blocks' offers open: that SWITCH's record of a resolved
position (R114) is offered before TAMPER's records of cover events (R120), and so takes the lower number and the last free
place, is the model's choice (log entry 44). -/
def finishRestore (baud1 baud0 : Bool) (s : State) : State :=
  let kind := restoreKind s
  let s1 := resumeSupply kind baud1 baud0 (selectState kind (loseMain s))
  let s2 := { s1 with tariff := resumeTariff s1.tariff, identity := s1.identity.resume kind }
  occurrence .powerRestored true true
    (resumeLog kind (resumeBill kind (resumeTamper (takeHeld s.handed (resumeSwitch s2)))))

/-- RESTORE_END (R164, R167): of a restore timer that has reached 64 ms. -/
def execRestoreEnd (baud1 baud0 : Bool) (s : State) : Result :=
  .next
    (if s.supmon.supply = .restoring ∧ s.supmon.restoreTimer.due restoreMs = true then finishRestore baud1 baud0 s else s)

end Sys2Proof.Machine
end

