-- ==== Sys2Proof/Machine/Supply.lean ====
section
/-! DEFINITION. SWITCH's commands (05_supply_switch.md). -/

namespace Sys2Proof.Machine

/-- A pin changes: its level changes in every supply state, and the main domain acts on it while it runs. -/
def pinChange (setPin f : State → State) (s : State) : Result :=
  .next (if mainGood s then f (setPin s) else setPin s)

/-- DEMAND_SET_REQUEST (R92). A request made while RESTORING is held until SWITCH has resolved its position (R113; log entry
28). -/
def execDemandSetRequest (m : Member) (add : Bool) (s : State) : Result :=
  match s.supmon.supply with
  | .mainGood => inMain (.demandSetRequest m add) (demand m add) s
  | .restoring => .next (State.hand [.demandSetRequest m add] s)
  | .mainFailed => .next s

/-- A coil permit is granted or withheld; a loss that cuts also cuts a pulse (R96, R99). -/
def permitChange (granted cuts : Bool) (s : State) : State :=
  settleSwitch (if granted then s.sw else s.sw.losePermit cuts) s

/-- CRDY_CHANGE (R96): the fall of CRDY does not cut a pulse (R98). -/
def execCrdyChange (high : Bool) (s : State) : Result :=
  pinChange (fun s => { s with pins := { s.pins with crdy := high } }) (permitChange high false) s

/-- CINHN_CHANGE (R96, R99). -/
def execCinhnChange (high : Bool) (s : State) : Result :=
  pinChange (fun s => { s with pins := { s.pins with cinhn := high } }) (permitChange high true) s

/-- Whether the operation in flight has every permit for its coil (R96). -/
def hasPermits (s : State) : Bool :=
  match s.sw.coil with
  | some c => permits s c
  | none => false

/-- Whether DEAD_TIME is over: the dead time has passed and every permit holds (R97). -/
def deadTimeOver (s : State) : Bool :=
  decide (s.sw.phase = some .deadTime) && hasPermits s && s.sw.coil.any s.sw.deadTimeMet

/-- DEAD_TIME_END (R97); before the dead time is over it does nothing (log entries 4 and 18). -/
def execDeadTimeEnd (s : State) : Result :=
  inMain .deadTimeEnd (fun s => if deadTimeOver s then settleSwitch s.sw s else s) s

/-- A pulse ends after its full 60 ms (R98). -/
def Switch.endPulse (w : Switch) : Switch :=
  { w with phase := some .settle, attempts := w.attempts + 1, deadCoil := w.coil, deadMs := 0, opTimer := .started }

/-- Whether the operation is in a phase that has lasted its time (R98, R100). -/
def Switch.phaseOver (w : Switch) (ph : OpPhase) (limit : Nat) : Bool := decide (w.phase = some ph) && w.opTimer.due limit

/-- PULSE_END (R98). -/
def execPulseEnd (s : State) : Result :=
  inMain .pulseEnd (fun s => if s.sw.phaseOver .pulse pulseMs then { s with sw := s.sw.endPulse } else s) s

/-- The position an operation is to establish (5.4). -/
def Switch.target (w : Switch) : Position :=
  match w.state with
  | .closing => .closed
  | .opening | .unknown | .closed | .opened | .armed => .opened

/-- An operation leaves its phase for a resting state (R100, R101). -/
def Switch.rest (w : Switch) (st : SwitchState) : Switch :=
  { w with state := st, phase := none, attempts := 0, opTimer := .stopped }

/-- A verified operation (R100); the watches start from zero (R109, R110). -/
def verified (s : State) : State :=
  let target := s.sw.target
  let s1 := believe target s.sw.attempts s
  let w := s1.sw.rest (if target = .closed then .closed else .opened)
  applyRules false
    { s1 with sw := { w with fault := false, streak := 0, bypass := .stopped, bypassRaised := false } }

/-- A third failed check (R101). -/
def operationFailed (s : State) : State :=
  let closing := s.sw.state == .closing
  let s1 := relayFault s.sw.attempts s
  settleSwitch
    (if closing then { s1.sw.rest .armed with confirm := true } else s1.sw.rest .closed) s1

/-- The check at the end of SETTLE (R100, R101). -/
def checkOperation (s : State) : State :=
  if sensed s = s.sw.target then verified s
  else if s.sw.attempts < 3 then settleSwitch { s.sw with phase := some .waitPermit, opTimer := .stopped } s
  else operationFailed s

/-- SETTLE_END (R100, R101). -/
def execSettleEnd (s : State) : Result :=
  inMain .settleEnd (fun s => if s.sw.phaseOver .settle settleMs then checkOperation s else s) s

/-- The customer's confirmation (R104). -/
def confirmReconnect (s : State) : State × Reply :=
  match s.sw.state with
  | .armed => (settleSwitch { s.sw.startClosing with confirm := false } s, .bare .ok)
  | .unknown | .closed | .opened | .opening | .closing => (s, .bare .notArmed)

/-- CONFIRM_RECONNECT (R104), on the meter port. -/
def execConfirmReconnect (p : Port) (s : State) : Result :=
  runCommand (.confirmReconnect p) p (onMeterPort p) confirmReconnect s

/-- REMOTE_OPEN (R105), on the network port. -/
def execRemoteOpen (p : Port) (s : State) : Result :=
  runCommand (.remoteOpen p) p (onNetwork p) (fun s => (demand .remote true s, .bare .ok)) s

/-- REMOTE leaves the set and, in mode CLOSE, the flag is cleared; the rules are applied once (R106). -/
def remoteRelease (close : Bool) (s : State) : State :=
  applyRules false
    { s with sw := { s.sw with set := s.sw.set.put .remote false, confirm := s.sw.confirm && !close } }

/-- REMOTE_RELEASE (R106), on the network port. -/
def execRemoteRelease (p : Port) (mode : Byte) (s : State) : Result :=
  runCommand (.remoteRelease p mode) p (onNetwork p)
    (fun s =>
      match mode.toNat with
      | 0 => (remoteRelease false s, .bare .ok)
      | 1 => (remoteRelease true s, .bare .ok)
      | _ => (s, .bare .badArgument)) s

/-- HOLD_OFF_END (R107): the timer does not count in a brown-out. The count it rests at is the model's choice (log entry
36). -/
def execHoldOffEnd (s : State) : Result :=
  inMain .holdOffEnd
    (fun s =>
      if s.sw.holdOff.due holdOffMs = true ∧ s.supmon.brownOut = false then
        settleSwitch { s.sw with holdOff := .expired holdOffMs } s
      else s) s

/-- OVERLOAD_SIGNAL (R108). -/
def execOverloadSignal (s : State) : Result :=
  inMain .overloadSignal (fun s => demand .overload true { s with sw := { s.sw with overload := .started } }) s

/-- The comparison of a powered second: the count of seconds at or above the restore delay of the active tariff (R108). -/
def overloadDue (s : State) : Bool :=
  s.sw.overload.running && decide (s.sw.overload.ms % secondMs = 0) &&
    decide (s.active.policy.restoreDelay ≤ s.sw.overload.ms / secondMs)

/-- OVERLOAD_RESTORE_EXPIRY (R108): a comparison that does not find the count at or above the delay changes nothing, so one
that comes behind an overload signal leaves OVERLOAD present. -/
def execOverloadRestoreExpiry (s : State) : Result :=
  inMain .overloadRestoreExpiry
    (fun s =>
      if overloadDue s then
        demand .overload false { s with sw := { s.sw with overload := { s.sw.overload with running := false } } }
      else s) s

/-- ENERGY_WHILE_OPEN_DETECT (R109). -/
def execEnergyWhileOpenDetect (s : State) : Result := inMain .energyWhileOpenDetect detectEnergy s

/-- The bypass watch after LSENSE has changed (R110). -/
def Switch.sense (w : Switch) (present : Bool) : Switch :=
  if present then
    (if restsOpen w && !w.bypass.running && !w.bypassRaised then { w with bypass := .started } else w)
  else { w with bypass := .stopped, bypassRaised := false }

/-- LSENSE_CHANGE (R110). -/
def execLsenseChange (present : Bool) (s : State) : Result :=
  pinChange (fun s => { s with pins := { s.pins with lsense := present } })
    (fun s => { s with sw := s.sw.sense present }) s

/-- BYPASS_TIMER_EXPIRY (R110): the timer then rests at 2 s. -/
def execBypassTimerExpiry (s : State) : Result :=
  inMain .bypassTimerExpiry
    (fun s =>
      if s.sw.bypass.due bypassMs = true ∧ s.sw.bypassRaised = false then
        State.hand [.tamperEvent .bypass]
          { s with sw := { s.sw with bypass := .expired bypassMs, bypassRaised := true } }
      else s) s

/-- The hold-off time remaining (R107, R111). -/
def holdOffLeft (t : Timer) : Nat := if t.running then holdOffMs - t.ms else 0

/-- The data of READ_SWITCH (R111; log entry 19): the phase and the attempt count are absent at rest (R100), and the seven
flags stand in one byte at the place of the first (R197). -/
def switchBytes (s : State) : List Byte :=
  beNat 1 (switchStateCode s.sw.state) ++ beOption 1 (s.sw.phase.map (fun ph => opPhaseCode (some ph))) ++
  beOption 1 (s.sw.phase.map (fun _ => s.sw.attempts)) ++ beNat 1 (positionCode s.sw.position) ++
  beNat 1 (demandCode s.sw.set) ++
  flagByte [s.sw.confirm, s.sw.fault, s.sw.overload.running, s.pins.lsense, s.pins.cinhn, s.pins.crdy,
            s.sw.bypassRaised] ++
  timerMs (holdOffLeft s.sw.holdOff) ++ timerSeconds s.sw.overload.ms

/-- READ_SWITCH (R111), on both ports. -/
def execReadSwitch (p : Port) (s : State) : Result := runCommand (.readSwitch p) p true (readOnly switchBytes) s

end Sys2Proof.Machine
end

