-- ==== Sys2Proof/Machine/PortLines.lean ====
section
/-! DEFINITION. The command ports' receivers and senders, the tests of a complete frame, and READ_STATUS
(10_command_ports.md). -/

namespace Sys2Proof.Machine

/-! ## READ_STATUS -/

/-- SUPMON's items and the flags of the other blocks (12.8, offsets 0 to 28; R177). -/
def statusSupmon (s : State) : List Byte :=
  beNat 1 (causeCode s.supmon.cause) ++
  flagByte [s.supmon.failTime.isSome, s.supmon.brownOut, s.supmon.request, s.supmon.lastDone.isSome, s.cal.valid,
            s.sw.set.credit, s.tariff.commissioned, s.sw.fault] ++
  flagByte [s.tamper.magnetic, s.identity.working.provisioned, s.identity.working.locked, s.supmon.writer != .idle] ++
  beNat 4 (s.supmon.failTime.getD 0) ++
  beNat 6 (match s.supmon.writer with | .writing _ c _ => c.seq | .idle => 0) ++
  beNat 6 (match s.supmon.lastDone with | some d => d.seq | none => 0) ++
  beNat 4 (match s.supmon.lastDone with | some d => d.time | none => 0) ++
  beNat 6 s.supmon.nextSeq

/-- A lockout record as READ_STATUS sends it (12.8). -/
def lockoutBytes (l : Lockout) : List Byte := beNat 1 l.failures ++ beNat 1 l.k ++ beNat 2 l.penalty

/-- CAL to CODE (12.8, offsets 29 to 51). -/
def statusMoney (s : State) : List Byte :=
  beNat 4 s.cal.t ++ beNat 1 s.cal.hold.length ++ beNat 1 (linkCode s.mlr.link) ++
  beNat 1 (emergencyCode s.bill.emergency) ++ beNat 1 (slotCode s.tariff.slot) ++
  beNat 1 (imageCode s.tariff.imageState) ++ beNat 1 s.code.queue.length ++ beNat 1 (flightCode s.code.flight) ++
  beNat 3 s.code.lowMark ++ beNat 1 s.code.accepted.length ++ lockoutBytes s.code.lockout.meter ++
  lockoutBytes s.code.lockout.network

/-- SWITCH to the ports (12.8, offsets 52 to 78). -/
def statusSupply (s : State) : List Byte :=
  beNat 1 (switchStateCode s.sw.state) ++ beNat 1 (positionCode s.sw.position) ++ beNat 1 (demandCode s.sw.set) ++
  beNat 4 s.tamper.ts ++ beNat 4 s.tamper.tsLock ++ beNat 4 s.tamper.tsClear ++
  beNat 1 s.log.records.length ++ beNat 1 s.log.uncollected ++ beNat 2 s.log.overflow ++ beNat 2 s.log.dropped ++
  beNat 1 s.log.staging.length ++ beNat 2 s.ports.line.meter.discarded ++ beNat 2 s.ports.line.network.discarded ++
  beNat 1 (baudCode s.ports.baud)

/-- The 79 data bytes of READ_STATUS (R188, 12.8). -/
def statusBytes (s : State) : List Byte := statusSupmon s ++ statusMoney s ++ statusSupply s

/-- READ_STATUS (R177, R188), on both ports. -/
def execReadStatus (p : Port) (s : State) : Result :=
  runCommand (.readStatus p) p true (readOnly statusBytes) s

/-! ## Complete frames (R181 to R183) -/

/-- The state of an outcome; a meaning always answers one. -/
def stateOf (s : State) (r : Result) : State :=
  match r with
  | .next t => t
  | .fault _ => s
  | .refused _ => s

/-- A command that comes in a frame is executed by the block that owns it (R183, 10.4). -/
def runFrame (i : Instr) (s : State) : State :=
  match i with
  | .readStatus p => stateOf s (execReadStatus p s)
  | .readCredit p => stateOf s (execReadCredit p s)
  | .readTotals p => stateOf s (execReadTotals p s)
  | .readTariff p sel g => stateOf s (execReadTariff p sel g s)
  | .readClock p => stateOf s (execReadClock p s)
  | .readSwitch p => stateOf s (execReadSwitch p s)
  | .readTamper p => stateOf s (execReadTamper p s)
  | .readLog p first n => stateOf s (execReadLog p first n s)
  | .readIdentity p => stateOf s (execReadIdentity p s)
  | .alertQuery p => stateOf s (execAlertQuery p s)
  | .alertAck p c n => stateOf s (execAlertAck p c n s)
  | .setAlertLevels p levels t => stateOf s (execSetAlertLevels p levels t s)
  | .submitCode p chars => stateOf s (execSubmitCode p chars s)
  | .codeResult p t => stateOf s (execCodeResult p t s)
  | .requestEmergency p => stateOf s (execRequestEmergency p s)
  | .confirmReconnect p => stateOf s (execConfirmReconnect p s)
  | .tariffOpen p id => stateOf s (execTariffOpen p id s)
  | .tariffPut p g data => stateOf s (execTariffPut p g data s)
  | .tariffCommit p t => stateOf s (execTariffCommit p t s)
  | .tariffCancel p => stateOf s (execTariffCancel p s)
  | .clockSet p t o => stateOf s (execClockSet p t o s)
  | .remoteOpen p => stateOf s (execRemoteOpen p s)
  | .remoteRelease p m => stateOf s (execRemoteRelease p m s)
  | .remoteTamperClear p c => stateOf s (execRemoteTamperClear p c s)
  | .evidenceCollect p n => stateOf s (execEvidenceCollect p n s)
  | .setEvidenceThreshold p v => stateOf s (execSetEvidenceThreshold p v s)
  | .provisionIdentity p n k => stateOf s (execProvisionIdentity p n k s)
  | .lockIdentity p => stateOf s (execLockIdentity p s)
  | .setCodeFloor p m => stateOf s (execSetCodeFloor p m s)
  | _ => s

/-- A refusal of a frame: an owed response, or a frame discarded when two are owed (R181, R182). -/
def refuseFrame (p : Port) (st : Status) (s : State) : State :=
  if (s.ports.line.get p).owed.length < 2 then respond p (.bare st) s else discardFrame p s

/-- The tests of a complete frame in their order (R181, R182), and its execution when it passes (R183). -/
def testFrame (p : Port) (frame : List Byte) (s : State) : State :=
  let parts := frameParts frame
  if !sumsToZero frame then refuseFrame p .frameError s
  else if !(s.ports.line.get p).owed.isEmpty then refuseFrame p .busy s
  else
    match permission parts.1 p with
    | none => refuseFrame p .unknownCommand s
    | some false => refuseFrame p .notPermitted s
    | some true =>
      match readArguments p parts.1 parts.2 with
      | none => refuseFrame p .badArgument s
      | some i => runFrame i s

/-- BAD_FRAME (R181, R182). A frame that passes every test is executed like any other (log entry 24). -/
def execBadFrame (p : Port) (frame : List Byte) (s : State) : Result :=
  inMain (.badFrame p frame) (testFrame p frame) s

/-- The command that a complete frame is handed on as: the one it carries, or the frame itself for its refusal. -/
def frameCommand (p : Port) (frame : List Byte) : Instr := (readFrame p frame).getD (.badFrame p frame)

/-- Whether a request is a complete frame of a port. -/
def isFrameOf (p : Port) (i : Instr) : Bool :=
  match i with
  | .badFrame q _ => q == p
  | _ =>
    match commandParts i with
    | some (q, _, _) => q == p
    | none => false

/-- A handed-over frame is taken: tested and executed or refused. -/
def takeFrame (i : Instr) (s : State) : State :=
  match i with
  | .badFrame p frame => testFrame p frame (s.take i)
  | _ => runFrame i s

/-- The frames of a port that are complete are taken before its next byte: their responses are formed at once (R183; log
entry 2). -/
def settleFrames (p : Port) (s : State) : State :=
  s.handed.foldl (fun acc i => if isFrameOf p i then takeFrame i acc else acc) s

/-! ## Lines (R178 to R180) -/

def setLine (p : Port) (l : Line) (s : State) : State :=
  { s with ports := { s.ports with line := s.ports.line.set p l } }

/-- A partial frame is discarded and counted (R178). -/
def Line.discard (l : Line) : Line := { l with receiver := .hunting, received := [], discarded := bump max16 l.discarded }

/-- The first owed response has been sent (R182). -/
def Line.sentFirst (l : Line) : Line := { l with owed := l.owed.tail, sent := 0 }

/-- Whether every byte of the first owed response has been sent. -/
def Line.firstDone (l : Line) : Bool :=
  match l.owed with
  | r :: _ => decide (r.length ≤ l.sent)
  | [] => false

/-- A byte of the meter port, whole or only begun, shows that MCSN is low (R179; log entry 35). -/
def selectMeter (s : State) : State := { s with pins := { s.pins with mcsn := false } }

/-- The line with the response that stands first to be clocked out: one that is wholly sent is owed no more (R182). -/
def Line.current (l : Line) : Line := if l.firstDone then l.sentFirst else l

/-- The next byte that the meter port clocks out: of the first owed response, or 0x00 (R179). -/
def Line.nextOut (l : Line) : Byte :=
  match l.current.owed with
  | r :: _ => r.getD l.current.sent 0#8
  | [] => 0#8

/-- The line after a byte was wholly clocked out (R179). -/
def Line.clocked (l : Line) : Line :=
  match l.current.owed with
  | _ :: _ => { l.current with sent := l.current.sent + 1 }
  | [] => l.current

/-- MSDO carries the next byte to be clocked out (R179). -/
def driveMsdo (s : State) : State := { s with ports := { s.ports with msdo := some s.ports.line.meter.nextOut } }

/-- The meter port clocks out the next byte of the first owed response, or 0x00 (R179). -/
def clockOut (s : State) : State := setLine .meter s.ports.line.meter.clocked (driveMsdo s)

/-- The inter-byte timer runs on the network port inside a frame, from each byte (R180). -/
def timeBytes (p : Port) (s : State) : State :=
  match p with
  | .meter => s
  | .network =>
    let timer : Timer := if s.ports.line.network.receiver = .hunting then .stopped else .started
    { s with ports := { s.ports with interByte := timer } }

/-- The receiver takes a byte (R178): the line after it, and the frame it completes. -/
def Line.byte (l : Line) (b : Byte) : Line × Option (List Byte) :=
  match l.receiver with
  | .hunting => if b = 0xC3#8 then ({ l with receiver := .length, received := [] }, none) else (l, none)
  | .length =>
    if 1 ≤ b.toNat ∧ b.toNat ≤ 60 then ({ l with receiver := .body b.toNat, received := [b] }, none)
    else (l.discard, none)
  | .body n =>
    let received := l.received ++ [b]
    if n + 2 ≤ received.length then ({ l with receiver := .hunting, received := [] }, some received)
    else ({ l with received := received }, none)

/-- A byte is given to the receiver, and a frame it completes is handed on (R178, R181). -/
def hear (p : Port) (b : Byte) (s : State) : State :=
  let out := (s.ports.line.get p).byte b
  let s1 := timeBytes p (setLine p out.1 s)
  match out.2 with
  | some frame => State.hand [frameCommand p frame] s1
  | none => s1

/-- Whether the byte on the network port's line began while the main domain was stopped (R189; log entry 35). -/
def setStale (stale : Bool) (s : State) : State := { s with ports := { s.ports with stale := stale } }

/-- While the main domain is stopped the network port keeps of its line only whether a byte is in progress (R189). -/
def watchStopped (begun : Bool) (s : State) : State := if mainGood s then s else setStale begun s

/-- A byte arrives at a port; on the meter port a byte goes out with it, and none is heard after a restore before MCSN has
fallen; the network port ignores the one byte that was partly received at the end of the restore (R178 to R180, R189). -/
def arrive (p : Port) (b : Byte) (s : State) : State :=
  match p with
  | .network => if s.ports.stale then setStale false s else hear .network b s
  | .meter => if s.ports.deaf then clockOut s else hear .meter b (clockOut s)

/-- The inter-byte timer runs to the start bit of the next byte (R180). -/
def stopInterByte (s : State) : State := { s with ports := { s.ports with interByte := .stopped } }

/-- A byte begins on a port's line. The meter port drives MSDO with the byte that goes out beside it, which counts as sent
only when it is whole (R179); on the network port the start bit ends the gap that the inter-byte timer measures (R180), and
the port's wait for it after a restore (R189). -/
def beginByte (p : Port) (s : State) : State :=
  match p with
  | .meter => driveMsdo s
  | .network => stopInterByte (setStale false s)

/-- RECEIVER_BYTE (R178 to R181): a byte of the meter port, whole or begun, shows in every supply state that it is selected,
so a byte that is only partly received at the end of a restore leaves the port deaf; the network port ignores such a byte
(R189; log entry 35). -/
def execReceiverByte (p : Port) (b : Option Byte) (s : State) : Result :=
  inMain (.receiverByte p b)
    (fun s =>
      match b with
      | some b => arrive p b (settleFrames p s)
      | none => beginByte p (settleFrames p s))
    (match p with | .meter => selectMeter s | .network => watchStopped b.isNone s)

/-- LENGTH_BYTE_REJECT (R178): a byte that cannot be a length, in LENGTH. -/
def execLengthByteReject (p : Port) (b : Byte) (s : State) : Result :=
  inMain (.lengthByteReject p b)
    (fun s =>
      if (s.ports.line.get p).receiver = .length ∧ ¬(1 ≤ b.toNat ∧ b.toNat ≤ 60) then arrive p b (settleFrames p s)
      else s) s

/-- A frame in progress is cut short (R178). -/
def cutFrame (p : Port) (s : State) : State :=
  if (s.ports.line.get p).receiver = .hunting then s
  else timeBytes p (setLine p (s.ports.line.get p).discard s)

/-- MSDO is high impedance, and the next selection starts at a byte boundary (R179, R189). -/
def releaseMsdo (s : State) : State := { s with ports := { s.ports with msdo := none, deaf := false } }

/-- MCSN_RELEASE (R179): the level changes in every supply state; response bytes not yet sent stay owed. -/
def execMcsnRelease (s : State) : Result :=
  inMain .mcsnRelease (fun s => releaseMsdo (cutFrame .meter s)) { s with pins := { s.pins with mcsn := true } }

/-- INTER_BYTE_TIMEOUT (R180). -/
def execInterByteTimeout (s : State) : Result :=
  inMain .interByteTimeout (fun s => if s.ports.interByte.due interByteMs then cutFrame .network s else s) s

/-- UART_FRAMING_ERROR (R180): the end of a byte, which cuts no frame if the byte is one to ignore (R189). -/
def execUartFramingError (s : State) : Result :=
  inMain .uartFramingError (fun s => if s.ports.stale then setStale false s else cutFrame .network s) (watchStopped false s)

/-! ## The network transmitter (R180; log entry 35) -/

/-- Tenths of a bit that pass in a millisecond. -/
def bitTenths : Baud → Nat
  | .b9600 => 96
  | .b19200 => 192
  | .b38400 => 384
  | .b115200 => 1152

/-- A byte on the line is 10 bits: start, eight of data, stop. -/
def byteTenths : Nat := 100

/-- One millisecond of the first owed response, whose bytes go out back to back. -/
def Ports.transmit (x : Ports) : Ports :=
  match x.line.network.owed with
  | [] => x
  | r :: _ =>
    let passed := x.txTenths + bitTenths x.baud
    let sent := min r.length (x.line.network.sent + passed / byteTenths)
    { x with line := { x.line with network := { x.line.network with sent := sent } },
             txTenths := if r.length ≤ sent then 0 else passed % byteTenths }

/-- The level of a byte's bit on the line: the start bit low, the data bits from the least significant, the stop bit high. -/
def uartBit (b : Byte) (k : Nat) : Bool := if k = 0 then false else if k ≤ 8 then b.getLsbD (k - 1) else true

/-- NTXD: undriven (none) while the main domain is stopped, high when nothing is being sent (R180, R189). -/
def ntxd (s : State) : Option Bool :=
  if mainGood s then
    match s.ports.line.network.owed with
    | r :: _ =>
      if s.ports.line.network.sent < r.length then
        some (uartBit (r.getD s.ports.line.network.sent 0#8) (s.ports.txTenths / 10))
      else some true
    | [] => some true
  else none

/-- RESPONSE_SENT (R182). -/
def execResponseSent (p : Port) (s : State) : Result :=
  inMain (.responseSent p)
    (fun s =>
      let s1 := setLine p (s.ports.line.get p).sentFirst s
      match p with
      | .meter => s1
      | .network => { s1 with ports := { s1.ports with txTenths := 0 } }) s

end Sys2Proof.Machine
end

