-- ==== Sys2Proof/Machine/Autonomy.lean ====
section
/-! DEFINITION. What the part does of itself while no command waits (log entry 3): the first piece of work that is due, in
a fixed order, and where nothing is due the passing of one millisecond on every timer that counts. -/

namespace Sys2Proof.Machine

/-- The first command whose moment has come. -/
def firstDue (xs : List (Bool × Instr)) : Option Instr := (xs.find? (fun x => x.1)).map (fun x => x.2)

/-- Work that waits for no time: detections, codes, writers, checkpoints, waiting evidence. An origin offers its waiting
evidence again when the staging queue has room (R141), and at once while the record numbers are exhausted, room or not: the
latter is the model's choice (log entry 39). -/
def dueWork (s : State) : List (Bool × Instr) :=
  [(imbalanceFound s, .imbalanceDetect), (balanceFound s, .imbalanceEpisodeEnd), (reverseFound s, .reverseFlowDetect),
   (rearmFound s, .reverseFlowRearm), (overloadFound s, .overloadDetect), (energyFound s, .energyWhileOpenDetect),
   (decide (s.code.lockout.meter.failures = 5) && decide (s.code.lockout.meter.penalty = 0), .penaltyExpiry .meter),
   (decide (s.code.lockout.network.failures = 5) && decide (s.code.lockout.network.penalty = 0), .penaltyExpiry .network),
   (match s.code.flight with
     | some fl => (match fl.phase with | .judging _ => true | .deciphering _ | .persisting _ _ _ => false)
     | none => false, .codeJudging),
   (s.code.flight.isNone && !s.code.queue.isEmpty && s.identity.working.key.isSome, .engineTake),
   (s.log.writer == .idle && s.log.markRequest, .markWriteStart),
   (s.log.writer == .idle && !s.log.markRequest && !s.log.staging.isEmpty, .logWriteStart),
   (!s.tamper.hold.isEmpty && (s.log.room || s.log.next.isNone), .waitingEvidenceOffer .tamper),
   (!s.sw.waiting.isEmpty && (s.log.room || s.log.next.isNone), .waitingEvidenceOffer .switch),
   (!s.cal.hold.isEmpty && (s.log.room || s.log.next.isNone), .waitingEvidenceOffer .calendar),
   (s.supmon.writer == .idle && s.supmon.request, .checkpointWriteStart)]

/-- Timers of MAIN_GOOD that have reached their limits. -/
def dueTimers (s : State) : List (Bool × Instr) :=
  [(s.mlr.silence.due silenceMs, .silenceExpiry), (s.mlr.linkCut.due linkCutMs, .linkCutExpiry),
   (match s.code.flight with
     | some fl =>
       (match fl.phase with | .deciphering ms => decide (decipherMs ≤ ms) | .judging _ | .persisting _ _ _ => false)
     | none => false, .decipherEnd),
   (deadTimeOver s, .deadTimeEnd),
   (s.sw.phaseOver .pulse pulseMs, .pulseEnd),
   (s.sw.phaseOver .settle settleMs, .settleEnd),
   (s.sw.holdOff.due holdOffMs && !s.supmon.brownOut, .holdOffEnd), (overloadDue s, .overloadRestoreExpiry),
   (s.sw.bypass.due bypassMs, .bypassTimerExpiry), (s.tamper.debounce.cover.due debounceMs, .debounceExpiry .cover),
   (s.tamper.debounce.terminal.due debounceMs, .debounceExpiry .terminal),
   (s.tamper.presence.due presenceMs, .magneticPresenceExpiry),
   (s.tamper.release.due releaseMs, .magneticReleaseExpiry),
   (match s.log.writer with | .record ms => decide (logWriteMs ≤ ms) | .idle | .mark _ _ _ => false, .logWriteComplete),
   (match s.log.writer with | .mark _ _ ms => decide (logWriteMs ≤ ms) | .idle | .record _ => false, .markWriteComplete),
   (s.tariff.imageWriting.any (fun w => decide (longWriteMs ≤ w.ms)), .imageWriteComplete),
   (match s.supmon.writer with | .writing _ _ ms => decide (longWriteMs ≤ ms) | .idle => false,
     .checkpointWriteComplete),
   (s.identity.writing.any (fun w => decide (longWriteMs ≤ w.ms)), .identityWriteComplete),
   (s.ports.interByte.due interByteMs, .interByteTimeout)]

/-- What is due in MAIN_GOOD: an owed response that is wholly sent, the requests handed over, work, timers, and the clock. -/
def dueMain (s : State) : Option Instr :=
  if s.ports.line.meter.firstDone then some (.responseSent .meter)
  else if s.ports.line.network.firstDone then some (.responseSent .network)
  else
    match s.handed.head? with
    | some i => some i
    | none =>
      firstDue
        (dueWork s ++ dueTimers s ++ [(decide (secondMs ≤ s.cal.phase), .clockTick)])

/-- What is due while the main domain is stopped: the clock, the backup samples, the end of the restore. -/
def dueBackup (s : State) : Option Instr :=
  firstDue
    [(decide (secondMs ≤ s.cal.phase), .clockTick), (s.tamper.sampling.due samplingMs, .backupCoverSample),
     (decide (s.supmon.supply = .restoring) && s.supmon.restoreTimer.due restoreMs,
       .restoreEnd s.pins.baud1 s.pins.baud0)]

/-- What the part does next of itself. -/
def due (s : State) : Option Instr := if mainGood s then dueMain s else dueBackup s

/-! ## One millisecond -/

def tickMlr (m : Mlr) : Mlr := { m with silence := m.silence.tick silenceMs, linkCut := m.linkCut.tick linkCutMs }

def tickCode (c : CodeEngine) : CodeEngine :=
  match c.flight with
  | some fl =>
    match fl.phase with
    | .deciphering ms => { c with flight := some { fl with phase := .deciphering (min (ms + 1) decipherMs) } }
    | .judging _ | .persisting _ _ _ => c
  | none => c

/-- SWITCH's timers; the hold-off does not count in a brown-out (R107). R97 gives the time since the last pulse no upper end:
that it counts up to 100 ms, far above the 20 ms that are asked of it, and rests there is the model's choice (log entry 40). -/
def tickSwitch (brownOut : Bool) (w : Switch) : Switch :=
  { w with opTimer := w.opTimer.tick settleMs, deadMs := min (w.deadMs + 1) settleMs,
           holdOff := if brownOut then w.holdOff else w.holdOff.tick holdOffMs,
           overload := w.overload.tick overloadMs, bypass := w.bypass.tick bypassMs }

def tickTamper (m : Tamper) : Tamper :=
  { m with debounce := ⟨m.debounce.cover.tick debounceMs, m.debounce.terminal.tick debounceMs⟩,
           presence := m.presence.tick presenceMs, release := m.release.tick releaseMs }

def tickLog (l : EvidenceLog) : EvidenceLog :=
  match l.writer with
  | .idle => l
  | .record ms => { l with writer := .record (min (ms + 1) logWriteMs) }
  | .mark p c ms => { l with writer := .mark p c (min (ms + 1) logWriteMs) }

def tickImage (t : TariffStore) : TariffStore :=
  { t with imageWriting := t.imageWriting.map (fun w => { w with ms := min (w.ms + 1) longWriteMs }) }

def tickIdentity (i : Identity) : Identity :=
  { i with writing := i.writing.map (fun w => { w with ms := min (w.ms + 1) longWriteMs }) }

def tickSupmon (m : Supmon) : Supmon :=
  match m.writer with
  | .idle => m
  | .writing slot c ms => { m with writer := .writing slot c (min (ms + 1) longWriteMs) }

/-- The inter-byte timer, and what the network port sends (R180). -/
def tickPorts (x : Ports) : Ports := { x.transmit with interByte := x.interByte.tick interByteMs }

/-- The second phase (R152). -/
def tickPhase (c : Calendar) : Calendar := { c with phase := min (c.phase + 1) secondMs }

/-- One millisecond in MAIN_GOOD (R161). -/
def elapseMain (s : State) : State :=
  { s with
    mlr := tickMlr s.mlr, tariff := tickImage s.tariff, cal := tickPhase s.cal, code := tickCode s.code,
    sw := tickSwitch s.supmon.brownOut s.sw, tamper := tickTamper s.tamper, log := tickLog s.log,
    supmon := tickSupmon s.supmon, ports := tickPorts s.ports,
    identity := tickIdentity s.identity }

/-- One millisecond while the main domain is stopped (R119, R152, R164). -/
def elapseBackup (s : State) : State :=
  { s with
    cal := tickPhase s.cal, tamper := { s.tamper with sampling := s.tamper.sampling.tick samplingMs },
    supmon := { s.supmon with restoreTimer := s.supmon.restoreTimer.tick restoreMs } }

/-- One millisecond passes. -/
def elapse (s : State) : State := if mainGood s then elapseMain s else elapseBackup s

end Sys2Proof.Machine
end

