-- ==== Sys2Proof/Machine/Dispatch.lean ====
section
/-! DEFINITION. The meaning of every command, one arm per row of spec/opcode_table.json. -/

namespace Sys2Proof.Machine

def exec (i : Instr) (s : State) : Host.Outcome State Fault Refusal :=
  match i with
  | .metrologyFrame bytes extraBits => Sys2Proof.Machine.execMetrologyFrame bytes extraBits s
  | .silenceExpiry => Sys2Proof.Machine.execSilenceExpiry s
  | .linkCutExpiry => Sys2Proof.Machine.execLinkCutExpiry s
  | .imbalanceDetect => Sys2Proof.Machine.execImbalanceDetect s
  | .imbalanceEpisodeEnd => Sys2Proof.Machine.execImbalanceEpisodeEnd s
  | .reverseFlowDetect => Sys2Proof.Machine.execReverseFlowDetect s
  | .reverseFlowRearm => Sys2Proof.Machine.execReverseFlowRearm s
  | .overloadDetect => Sys2Proof.Machine.execOverloadDetect s
  | .debitRequest e => Sys2Proof.Machine.execDebitRequest e s
  | .standingAccrual t => Sys2Proof.Machine.execStandingAccrual t s
  | .gapAccrual t => Sys2Proof.Machine.execGapAccrual t s
  | .clockMinute => Sys2Proof.Machine.execClockMinute s
  | .requestEmergency p => Sys2Proof.Machine.execRequestEmergency p s
  | .readCredit p => Sys2Proof.Machine.execReadCredit p s
  | .readTotals p => Sys2Proof.Machine.execReadTotals p s
  | .tariffOpen p id => Sys2Proof.Machine.execTariffOpen p id s
  | .tariffPut p group data => Sys2Proof.Machine.execTariffPut p group data s
  | .tariffCommit p time => Sys2Proof.Machine.execTariffCommit p time s
  | .tariffCancel p => Sys2Proof.Machine.execTariffCancel p s
  | .readTariff p selector group => Sys2Proof.Machine.execReadTariff p selector group s
  | .tariffActivation => Sys2Proof.Machine.execTariffActivation s
  | .imageWriteComplete => Sys2Proof.Machine.execImageWriteComplete s
  | .submitCode p chars => Sys2Proof.Machine.execSubmitCode p chars s
  | .engineTake => Sys2Proof.Machine.execEngineTake s
  | .decipherEnd => Sys2Proof.Machine.execDecipherEnd s
  | .codeJudging => Sys2Proof.Machine.execCodeJudging s
  | .penaltyDecrement => Sys2Proof.Machine.execPenaltyDecrement s
  | .penaltyExpiry p => Sys2Proof.Machine.execPenaltyExpiry p s
  | .codeResult p ticket => Sys2Proof.Machine.execCodeResult p ticket s
  | .setCodeFloor p m => Sys2Proof.Machine.execSetCodeFloor p m s
  | .demandSetRequest m add => Sys2Proof.Machine.execDemandSetRequest m add s
  | .crdyChange high => Sys2Proof.Machine.execCrdyChange high s
  | .cinhnChange high => Sys2Proof.Machine.execCinhnChange high s
  | .deadTimeEnd => Sys2Proof.Machine.execDeadTimeEnd s
  | .pulseEnd => Sys2Proof.Machine.execPulseEnd s
  | .settleEnd => Sys2Proof.Machine.execSettleEnd s
  | .confirmReconnect p => Sys2Proof.Machine.execConfirmReconnect p s
  | .remoteOpen p => Sys2Proof.Machine.execRemoteOpen p s
  | .remoteRelease p mode => Sys2Proof.Machine.execRemoteRelease p mode s
  | .holdOffEnd => Sys2Proof.Machine.execHoldOffEnd s
  | .overloadSignal => Sys2Proof.Machine.execOverloadSignal s
  | .overloadRestoreExpiry => Sys2Proof.Machine.execOverloadRestoreExpiry s
  | .energyWhileOpenDetect => Sys2Proof.Machine.execEnergyWhileOpenDetect s
  | .lsenseChange present => Sys2Proof.Machine.execLsenseChange present s
  | .bypassTimerExpiry => Sys2Proof.Machine.execBypassTimerExpiry s
  | .readSwitch p => Sys2Proof.Machine.execReadSwitch p s
  | .tamperEvent k => Sys2Proof.Machine.execTamperEvent k s
  | .coverInputChange c reading => Sys2Proof.Machine.execCoverInputChange c reading s
  | .debounceExpiry c => Sys2Proof.Machine.execDebounceExpiry c s
  | .backupCoverSample => Sys2Proof.Machine.execBackupCoverSample s
  | .magsChange high => Sys2Proof.Machine.execMagsChange high s
  | .magneticPresenceExpiry => Sys2Proof.Machine.execMagneticPresenceExpiry s
  | .magneticReleaseExpiry => Sys2Proof.Machine.execMagneticReleaseExpiry s
  | .remoteTamperClear p c => Sys2Proof.Machine.execRemoteTamperClear p c s
  | .readTamper p => Sys2Proof.Machine.execReadTamper p s
  | .recordOffer r => Sys2Proof.Machine.execRecordOffer r s
  | .waitingEvidenceOffer o => Sys2Proof.Machine.execWaitingEvidenceOffer o s
  | .logWriteStart => Sys2Proof.Machine.execLogWriteStart s
  | .logWriteComplete => Sys2Proof.Machine.execLogWriteComplete s
  | .markWriteStart => Sys2Proof.Machine.execMarkWriteStart s
  | .markWriteComplete => Sys2Proof.Machine.execMarkWriteComplete s
  | .evidenceCollect p n => Sys2Proof.Machine.execEvidenceCollect p n s
  | .readLog p first count => Sys2Proof.Machine.execReadLog p first count s
  | .setEvidenceThreshold p v => Sys2Proof.Machine.execSetEvidenceThreshold p v s
  | .clockTick => Sys2Proof.Machine.execClockTick s
  | .clockHourMark => Sys2Proof.Machine.execClockHourMark s
  | .clockSet p t offset => Sys2Proof.Machine.execClockSet p t offset s
  | .readClock p => Sys2Proof.Machine.execReadClock p s
  | .brownOutStart => Sys2Proof.Machine.execBrownOutStart s
  | .brownOutEnd => Sys2Proof.Machine.execBrownOutEnd s
  | .mainFailure => Sys2Proof.Machine.execMainFailure s
  | .vmainRise => Sys2Proof.Machine.execVmainRise s
  | .vmainDropRestoring => Sys2Proof.Machine.execVmainDropRestoring s
  | .resetnAssert => Sys2Proof.Machine.execResetnAssert s
  | .resetnRelease => Sys2Proof.Machine.execResetnRelease s
  | .vcellLow => Sys2Proof.Machine.execVcellLow s
  | .backupPowerUp => Sys2Proof.Machine.execBackupPowerUp s
  | .restoreEnd baud1 baud0 => Sys2Proof.Machine.execRestoreEnd baud1 baud0 s
  | .checkpointRequest => Sys2Proof.Machine.execCheckpointRequest s
  | .checkpointWriteStart => Sys2Proof.Machine.execCheckpointWriteStart s
  | .checkpointWriteComplete => Sys2Proof.Machine.execCheckpointWriteComplete s
  | .badFrame p frame => Sys2Proof.Machine.execBadFrame p frame s
  | .lengthByteReject p b => Sys2Proof.Machine.execLengthByteReject p b s
  | .mcsnRelease => Sys2Proof.Machine.execMcsnRelease s
  | .interByteTimeout => Sys2Proof.Machine.execInterByteTimeout s
  | .responseSent p => Sys2Proof.Machine.execResponseSent p s
  | .readStatus p => Sys2Proof.Machine.execReadStatus p s
  | .readIdentity p => Sys2Proof.Machine.execReadIdentity p s
  | .provisionIdentity p number key => Sys2Proof.Machine.execProvisionIdentity p number key s
  | .lockIdentity p => Sys2Proof.Machine.execLockIdentity p s
  | .identityWriteComplete => Sys2Proof.Machine.execIdentityWriteComplete s
  | .alertOccurrence c toMeter toNetwork => Sys2Proof.Machine.execAlertOccurrence c toMeter toNetwork s
  | .conditionPresentation c present => Sys2Proof.Machine.execConditionPresentation c present s
  | .alertQuery p => Sys2Proof.Machine.execAlertQuery p s
  | .alertAck p cls count => Sys2Proof.Machine.execAlertAck p cls count s
  | .setAlertLevels p levels threshold => Sys2Proof.Machine.execSetAlertLevels p levels threshold s
  | .receiverByte p b => Sys2Proof.Machine.execReceiverByte p b s
  | .uartFramingError => Sys2Proof.Machine.execUartFramingError s

end Sys2Proof.Machine
end

