-- ==== Sys2Proof/Safety.lean ====
section
/-! DEFINITION. The terms in which claims about the part are made: when a port or a block is ready, and the properties that
every step keeps. -/

namespace Sys2Proof.Machine

/-! ## Hypotheses -/

/-- A port that may execute a command: MAIN_GOOD, and nothing owed (R181, R182). -/
def Ready (p : Port) (s : State) : Prop := mainGood s = true ∧ (s.ports.line.get p).owed = []

/-- No gap accrual waits at BILL (R45). -/
def NoGapWaits (s : State) : Prop := ∀ t, Instr.gapAccrual t ∉ s.handed

/-- No billed increment waits at BILL (R11). -/
def NoDebitWaits (s : State) : Prop := ∀ e, Instr.debitRequest e ∉ s.handed

/-- No standing accrual waits at BILL (R153). -/
def NoAccrualWaits (s : State) : Prop := ∀ t, Instr.standingAccrual t ∉ s.handed

/-- No complete frame of a port waits (R181). -/
def NoFrameWaits (p : Port) (s : State) : Prop := ∀ i ∈ s.handed, isFrameOf p i = false

/-- No streak of a detector stands at its limit (R13, R14, R16, R109). -/
def NoDetection (s : State) : Prop :=
  imbalanceFound s = false ∧ balanceFound s = false ∧ reverseFound s = false ∧ rearmFound s = false ∧
    overloadFound s = false ∧ energyFound s = false

/-- The part idles: MAIN_GOOD, no command waits, and nothing is due of itself, so that a step is one millisecond (log
entry 3). -/
def Idle (s : State) : Prop := mainGood s = true ∧ s.pending = [] ∧ due s = none

/-- A timer that runs is below its limit and counts one millisecond. -/
def Counts (limit : Nat) (a b : Timer) : Prop :=
  a.running = true → a.ms < limit ∧ b = { running := true, ms := a.ms + 1 }

/-- The magnetic timers after a source was seen to be present or absent (R123, R124). -/
def MagneticTimed (source : Bool) (a b : Tamper) : Prop :=
  (a.magnetic = false →
    b.release = a.release ∧
      b.presence = if source = true then (if a.presence.running = true then a.presence else .started) else .stopped) ∧
  (a.magnetic = true →
    b.presence = a.presence ∧
      b.release = if source = true then .stopped else if a.release.running = true then a.release else .started)

/-- A day profile that starts at minute 0 and rises strictly (R53). -/
def ProfileRises (ps : List SwitchPoint) : Prop :=
  ps.head?.map (·.minute) = some 0 ∧ (ps.map (·.minute)).Pairwise (· < ·)

/-- The whole-record test of one group of a tariff (R53). -/
def GroupPasses (t : Tariff) (g : Nat) : Prop :=
  match g with
  | 3 => ProfileRises t.workday
  | 4 => ProfileRises t.restday
  | 5 => t.restDays.dates.Pairwise (· < ·)
  | 6 => t.charges.lowCredit ≤ t.charges.maxCredit
  | 7 => ∀ w ∈ t.friendly.windows, w.start < w.stop
  | _ => True

/-- A tariff with one group taken from another (R51). -/
def copyGroup (g : Nat) (u t : Tariff) : Tariff :=
  match g with
  | 1 => { t with id := u.id }
  | 2 => { t with prices := u.prices }
  | 3 => { t with workday := u.workday }
  | 4 => { t with restday := u.restday }
  | 5 => { t with restDays := u.restDays }
  | 6 => { t with charges := u.charges }
  | 7 => { t with friendly := u.friendly }
  | 8 => { t with policy := u.policy }
  | _ => t

/-- How often a class has occurred on a port, and that it is pending there (R190): one more, and pending. -/
def Signalled (c : AlertClass) (a b : PortAlert) : Prop := b.classes.get c = ⟨true, (a.classes.get c).count + 1⟩

/-- A class has occurred once more on a port, and the port's other classes, its levels and its threshold are as they were
(R190, R191). -/
def OnlySignalled (c : AlertClass) (a b : PortAlert) : Prop :=
  Signalled c a b ∧ (∀ j, j ≠ c → b.classes.get j = a.classes.get j) ∧ b.levels = a.levels ∧ b.threshold = a.threshold

/-- How a state stands after an evaluation of BILL (R31, R37, R40), from the emergency state before it and from whether
CREDIT was in the set before it. -/
def CreditEvaluated (before : Emergency) (wasIn : Bool) (t : State) : Prop :=
  let l := exhaustion t
  let low := t.active.charges.lowCredit
  t.bill.emergency =
      (if before = .inUse then .inUse
       else if 0 < t.active.charges.emergency ∧ t.bill.b < low then .available else .unavailable) ∧
    (l ≤ t.bill.b → t.sw.set.credit = false ∧ t.bill.deferral = false) ∧
    (t.bill.b < l → wasIn = true → t.sw.set.credit = true ∧ t.bill.deferral = false) ∧
    (t.bill.b < l → wasIn = false →
      t.bill.deferral = (friendlyNow t && decide (l - t.active.friendly.allowance ≤ t.bill.b)) ∧
      t.sw.set.credit = !t.bill.deferral) ∧
    t.alert.conditions.emergencyAvailable = decide (t.bill.emergency = .available) ∧
    t.alert.conditions.lowCredit = decide (t.bill.b < low) ∧
    t.alert.conditions.creditExhausted = t.sw.set.credit

/-- A request for an identity write (R184): one more write after a write in progress, and otherwise a write of the working
record into the older place of i, which fails its check meanwhile. -/
def IdentityWriteAsked (i j : Identity) : Prop :=
  let place := olderPlace i.countA i.countB
  (i.writing ≠ none →
    j.writing = i.writing ∧ j.again = true ∧ j.placeA = i.placeA ∧ j.placeB = i.placeB) ∧
  (i.writing = none →
    j.writing = some ⟨place, ⟨j.working, nextCount i.countA i.countB place⟩, 0⟩ ∧ j.again = false ∧
      j.placeA = (if place = .a then none else i.placeA) ∧ j.placeB = if place = .b then none else i.placeB)

/-- A restore whose timer has reached 64 ms (R164, R167). -/
def RestoreDue (s : State) : Prop :=
  s.supmon.supply = .restoring ∧ s.supmon.restoreTimer.running = true ∧ 64 ≤ s.supmon.restoreTimer.ms

/-- Whether deciphered fields pass the tests of CODE itself (R76, steps 2, 4 and 5). -/
def PassesTests (f : Deciphered) (s : State) : Prop :=
  f.check = (7 * f.kind + 3 * f.issue + f.payload) % 4093 ∧ s.code.lowMark < f.issue ∧ f.issue ∉ s.code.accepted

/-- What the acceptance of a code that touches the money changes (R80, R81): BILL, SWITCH and the alerts, CODE, one routine
CODE_ACCEPTED record, and the checkpoint request; c is the command that judges it. -/
def AcceptedFrame (c : Instr) (code : CodePart) (s t : State) : Prop :=
  t.sw.set = { s.sw.set with credit := t.sw.set.credit } ∧
    t.log =
      s.log.offerRoutine (evidenceWaiting s)
        { time := s.cal.t, valid := s.cal.valid, kind := .codeAccepted, code := some code } ∧
    t = { s.take c with bill := t.bill, sw := t.sw, alert := t.alert, code := t.code, log := t.log,
                        supmon := { s.supmon with request := true } }

/-- The commands that only the main domain takes: all but the tick, the pins, the supply events, the backup samples, the
end of a restore, the bytes of the port lines, and the offers and requests that are taken or held in other supply states
(R113, R149, R152, R164, R172, R189). -/
def mainDomain : Instr → Bool
  | .crdyChange _ | .cinhnChange _ | .lsenseChange _ | .coverInputChange _ _ | .magsChange _ | .backupCoverSample
  | .recordOffer _ | .clockTick | .mainFailure | .vmainRise | .vmainDropRestoring | .resetnAssert | .resetnRelease
  | .vcellLow | .backupPowerUp | .restoreEnd _ _ | .checkpointRequest | .demandSetRequest _ _ | .receiverByte _ _
  | .uartFramingError | .mcsnRelease => false
  | _ => true

/-- Bytes taken one after another by a receiver (R178): the line after them, and the frames they complete. -/
def receiveAll : Line → List Byte → Line × List (List Byte)
  | l, [] => (l, [])
  | l, b :: bs =>
    let one := l.byte b
    let rest := receiveAll one.1 bs
    (rest.1, one.2.toList ++ rest.2)

/-! ## Properties that every step keeps -/

/-- The valid checkpoints of the ring, and the contents of a write in progress. -/
def slotContents : Slot → List Checkpoint
  | .valid c => [c]
  | .empty | .invalid => []

def checkpoints (s : State) : List Checkpoint :=
  s.supmon.ring.flatMap slotContents ++ (match s.supmon.writer with | .writing _ c _ => [c] | .idle => [])

/-- TS_lock and TS_clear are at or below TS, which is a 32-bit value (R126, R127). -/
def SequencesOrdered (ts tsLock tsClear : Nat) : Prop := tsLock ≤ ts ∧ tsClear ≤ ts ∧ ts ≤ max32

def TamperOrdered (s : State) : Prop :=
  SequencesOrdered s.tamper.ts s.tamper.tsLock s.tamper.tsClear ∧
    ∀ c ∈ checkpoints s, SequencesOrdered c.ts c.tsLock c.tsClear

/-- At most 32 issue numbers, ascending, all above the low mark (R83). -/
def ListSound (lowMark : Nat) (l : List Nat) : Prop :=
  l.length ≤ acceptedMax ∧ l.Pairwise (· < ·) ∧ ∀ n ∈ l, lowMark < n

/-- The bounds of CODE: the accepted-code list, here and in every checkpoint, the queue and the result lists (R68, R83). -/
def CodesBounded (s : State) : Prop :=
  ListSound s.code.lowMark s.code.accepted ∧ (∀ c ∈ checkpoints s, ListSound c.lowMark c.accepted) ∧
    s.code.queue.length ≤ codeQueueMax ∧ s.code.results.meter.length ≤ resultsMax ∧
    s.code.results.network.length ≤ resultsMax

/-- A phase exists exactly in an operation (5.2); a pulse needs good main power and the inhibit released; closing and ARMED
need an empty set, and so does CLOSED without the fault flag (R102); a close pulse needs the hold-off ended (R94 to R99); and a
pulse runs 20 ms or more after the end of the last
pulse on the other coil (R97). -/
def SwitchSafe (s : State) : Prop :=
  (s.sw.phase.isSome = true ↔ s.sw.state = .opening ∨ s.sw.state = .closing) ∧
    (s.sw.state = .closing ∨ s.sw.state = .armed → s.sw.set.isEmpty = true) ∧
    (s.sw.phase = some .pulse → mainGood s = true ∧ s.supmon.brownOut = false ∧ s.pins.cinhn = true) ∧
    (s.sw.phase = some .pulse → s.sw.state = .closing → s.sw.holdOff.running = false) ∧
    (s.sw.state = .closed → s.sw.set.isEmpty = true ∨ s.sw.fault = true) ∧
    (s.sw.phase = some .pulse → ∀ c, s.sw.deadCoil = some c → s.sw.coil ≠ some c → 20 ≤ s.sw.deadMs)

/-- The ranges of B, R, Q and D (02). -/
def MoneyInRange (b : Int) (r q d : Nat) : Prop :=
  balanceMin ≤ b ∧ b ≤ (moneyMax : Int) ∧ r < 10000 ∧ q < daySeconds ∧ d ≤ moneyMax

/-- The pending slot holds a tariff in range, and a valid one when it is ARMED (03, 3.1). -/
def SlotSound : PendingSlot → Prop
  | .empty => True
  | .assembling t => t.inRange = true
  | .armed t _ => t.valid = true

/-- The image and a write in progress hold valid tariffs. -/
def ImageSound : TariffImage → Prop
  | .failing => True
  | .holds t => t.valid = true

/-- Every tariff the part holds for use is a valid record (03, 3.1), and the money of BILL and of every checkpoint is in
range (02). -/
def MoneyAndTariffsSound (s : State) : Prop :=
  MoneyInRange s.bill.b s.bill.r s.bill.q s.bill.d ∧ s.active.valid = true ∧ SlotSound s.tariff.slot ∧
    ImageSound s.tariff.image ∧ (∀ w, s.tariff.imageWriting = some w → w.copy.valid = true) ∧
    ∀ c ∈ checkpoints s, MoneyInRange c.b c.r c.q c.d ∧ c.active.valid = true

/-- The mark a cold restore would find: 0 when neither copy passes its check (R151). -/
def copiedMark (l : EvidenceLog) : Nat := (governingMark l).getD 0

/-- The write count of the place a mark write does not use. -/
def otherCount (l : EvidenceLog) : Place → Option Nat
  | .a => l.markB.map (·.count)
  | .b => l.markA.map (·.count)

def placeOf (l : EvidenceLog) : Place → Option MarkCopy
  | .a => l.markA
  | .b => l.markB

/-- What a write in progress rests on: a record that passed the cap test, with a place for it; or a mark between the log
copy and the held mark, for a place that fails its check (R142, R144, R146). -/
def WriterSound (l : EvidenceLog) : Prop :=
  match l.writer with
  | .idle => True
  | .record _ =>
    l.records.length < logMax ∧
      match l.staging with
      | [] => False
      | r :: _ => isEvidence r.body.kind = true → l.uncollectedUnder (copiedMark l) < uncollectedMax
  | .mark p c _ =>
    placeOf l p = none ∧ (∀ n, otherCount l p = some n → n < c.count) ∧ copiedMark l ≤ c.mark ∧ c.mark ≤ l.heldMark ∧
      (l.markRequest = false → c.mark = l.heldMark)

/-- The log copy of the mark is the held mark unless a mark write is asked for or in progress (R146). -/
def MarkAgrees (l : EvidenceLog) : Prop :=
  match l.writer with
  | .idle | .record _ => l.markRequest = false → copiedMark l = l.heldMark
  | .mark _ _ _ => True

/-- The bounds and the number order of the log (R140, R142, R144, R146): at most 128 records and 8 staged ones, strictly
increasing numbers below the next one, and at most 64 uncollected, whichever copy of the mark counts them. -/
def LogSound (s : State) : Prop :=
  s.log.records.length ≤ logMax ∧ s.log.staging.length ≤ stagingMax ∧
    ((s.log.records ++ s.log.staging).map (·.number)).Pairwise (· < ·) ∧
    (∀ n, s.log.next = some n → n ≤ max32 ∧ ∀ r ∈ s.log.records ++ s.log.staging, r.number < n) ∧
    copiedMark s.log ≤ s.log.heldMark ∧ s.log.uncollectedUnder (copiedMark s.log) ≤ uncollectedMax ∧
    WriterSound s.log ∧ (mainGood s = true → MarkAgrees s.log)

/-- The bounds of the holds of waiting evidence and of the owed responses (R101, R128, R159, R182). -/
def QueuesBounded (s : State) : Prop :=
  s.tamper.hold.length ≤ tamperHoldMax ∧ s.sw.waiting.length ≤ switchHoldMax ∧ s.cal.hold.length ≤ clockHoldMax ∧
    s.ports.line.meter.owed.length ≤ 2 ∧ s.ports.line.network.owed.length ≤ 2

/-- An invariant of the part: every step from a state that has it ends in a state that has it. -/
def KeptByEveryStep (inv : State → Prop) : Prop := ∀ s t, inv s → step s = .next t → inv t

end Sys2Proof.Machine
end

