-- ==== Sys2Proof/WellFormed.lean ====
section
/-! DEFINITION. When a command's operands lie in the ranges the spec gives them. The operands that come as bytes of a
command frame are not limited here: the owning block judges them and refuses what it does not take (R51, R64, R157). -/

namespace Sys2Proof

/-- The optional parts a record of each kind carries, as R139 lists them: tamper, code, relay, gap, energy, clock. A
TAMPER_CLEARED record carries a code part when a code cleared it. -/
def Record.partsFit (r : Record) : Bool :=
  match r.kind with
  | .tamper =>
    (match r.tamper with | some p => p.kind.isSome | none => false) && r.code.isNone && r.relay.isNone &&
      r.gap.isNone && r.energy.isSome && r.clock.isNone
  | .tamperCleared =>
    (match r.tamper with | some p => p.kind.isNone | none => false) && r.relay.isNone && r.gap.isNone &&
      r.energy.isNone && r.clock.isNone
  | .relayFault =>
    r.tamper.isNone && r.code.isNone && r.relay.isSome && r.gap.isNone && r.energy.isSome && r.clock.isNone
  | .coldStart | .balanceFloor =>
    r.tamper.isNone && r.code.isNone && r.relay.isNone && r.gap.isNone && r.energy.isSome && r.clock.isNone
  | .clockSet =>
    r.tamper.isNone && r.code.isNone && r.relay.isNone && r.gap.isNone && r.energy.isNone && r.clock.isSome
  | .codeAccepted =>
    r.tamper.isNone && r.code.isSome && r.relay.isNone && r.gap.isNone && r.energy.isNone && r.clock.isNone
  | .relayOpened | .relayClosed =>
    r.tamper.isNone && r.code.isNone && r.relay.isSome && r.gap.isNone && r.energy.isNone && r.clock.isNone
  | .metrologyGap =>
    r.tamper.isNone && r.code.isNone && r.relay.isNone && r.gap.isSome && r.energy.isNone && r.clock.isNone
  | .checkpointLost | .codeRefused | .powerFail | .powerRestore | .tariffActivated =>
    r.tamper.isNone && r.code.isNone && r.relay.isNone && r.gap.isNone && r.energy.isNone && r.clock.isNone

/-- The ranges of a record's fields (R138). -/
def Record.inRange (r : Record) : Bool :=
  decide (r.time < 2 ^ 32) &&
  (match r.tamper with | some p => decide (p.number < 2 ^ 32) | none => true) &&
  (match r.code with
    | some p => decide (p.kind < 16) && decide (p.issue < 2 ^ 24) && decide (p.payload < 2 ^ 32)
    | none => true) &&
  (match r.relay with | some p => decide (p.attempts ≤ 3) | none => true) &&
  (match r.gap with | some g => decide (9 ≤ g) && decide (g ≤ 254) | none => true) &&
  (match r.energy with | some e => decide (e < 2 ^ 48) | none => true) &&
  (match r.clock with
    | some p => decide (p.oldTime < 2 ^ 32) && decide (p.newTime < 2 ^ 32) &&
        decide (-720 ≤ p.oldOffset) && decide (p.oldOffset ≤ 840) &&
        decide (-720 ≤ p.newOffset) && decide (p.newOffset ≤ 840)
    | none => true)

/-- Whether a command is one the part can meet. -/
def Instr.wellFormed : Instr → Bool
  | .metrologyFrame _ extraBits => extraBits.all (fun n => decide (n < 8))
  | .debitRequest e => decide (e ≤ 131070)
  | .tariffPut _ _ data => decide (data.length ≤ 58)
  | .submitCode _ chars => decide (chars.length ≤ 59)
  | .recordOffer r => r.partsFit && r.inRange
  | .badFrame _ frame => decide (3 ≤ frame.length) && decide (frame.length ≤ 62)
      && decide ((frame.headD 0#8).toNat + 2 = frame.length)
  | .lengthByteReject _ b => decide (b.toNat = 0) || decide (60 < b.toNat)
  | .setAlertLevels _ levels _ => decide (levels.length = 12)
  | _ => true

end Sys2Proof
end

