-- ==== Sys2Proof/Certificates/Slice0/Obligations.lean ====
section
/-! DEFINITION. The statements for the provers, from the numbered rules of spec/. A frame is written as t = { s with … }:
the fields not named there are those of s. -/

open Sys2Proof Sys2Proof.Machine

/-! ## The step, and every command -/

/-- Step takes the command at the front of the queue and answers what its meaning answers on the state with the rest. -/
def Obligations.StepRunsFrontCommand : Prop :=
  ∀ (c : Instr) (rest : List Instr) (s : State), step (s.withPending (c :: rest)) = exec c (s.withPending rest)

/-- No command stops the part, and none touches the queue of commands that wait. While the main domain is stopped, a command
that only it takes leaves the part as it is (R164, R165; what a command that cannot occur does is the model's choice, log
entry 1). -/
def Obligations.EveryCommandAnswers : Prop :=
  (∀ (c : Instr) (s : State), ∃ t, exec c s = .next t ∧ t.pending = s.pending) ∧
  (∀ (c : Instr) (s : State), mainDomain c = true → s.supmon.supply ≠ .mainGood → exec c s = .next s)

/-! ## 01: energy from the metrology link -/

/-- The layout of an energy report, and what becomes of every frame that is none: one more bad report, and no other change.
A frame that was already in progress at the end of the restore is ignored, whatever it holds (R1, R2; that the frame says so
itself is the model's form, log entry 25). -/
def Obligations.UnusableFramesDiscarded : Prop :=
  (∀ seq flags ep1 ep0 en1 en0 ex1 ex0 ip1 ip0 chk : Byte,
    byteSum [0xA5#8, seq, flags, ep1, ep0, en1, en0, ex1, ex0, ip1, ip0, chk] = 0#8 →
    readReport [0xA5#8, seq, flags, ep1, ep0, en1, en0, ex1, ex0, ip1, ip0, chk] 0 =
      some
        { seq := seq, magnetic := flags.getLsbD 0, ep := ep1.toNat * 256 + ep0.toNat,
          en := en1.toNat * 256 + en0.toNat, ex := ex1.toNat * 256 + ex0.toNat,
          ip := min (ip1.toNat * 256 + ip0.toNat) 12000 }) ∧
  (∀ (bytes : List Byte) (extraBits : Nat) (s : State), mainGood s = true →
    (bytes.length ≠ 12 ∨ extraBits ≠ 0 ∨ bytes.head? ≠ some 0xA5#8 ∨ byteSum bytes ≠ 0#8) →
    exec (.metrologyFrame bytes (some extraBits)) s =
      .next
        { s.take (.metrologyFrame bytes (some extraBits)) with
          mlr := { s.mlr with badReports := min (s.mlr.badReports + 1) 65535 } }) ∧
  (∀ (bytes : List Byte) (s : State), mainGood s = true →
    exec (.metrologyFrame bytes none) s = .next (s.take (.metrologyFrame bytes none)))

/-- A report accepted with no gap: the link, the increment of R10, the totals of R12, the debit request and the reading for
TAMPER (R3, R4, R9 to R12, R15; the count 0 of the link-cut timer that it stops, and of the magnetic timers, is log entry 36); how it moves the streaks of the detectors and of the energy-while-open watch (R13, R14,
R16, R109), and the magnetic timers once its flag is handed over (R122 to R124). -/
def Obligations.RealReportsTaken : Prop :=
  (∀ (bytes : List Byte) (r : Report) (s : State),
    readReport bytes 0 = some r → mainGood s = true → NoDetection s →
    (s.mlr.link = .synced → s.mlr.lastSeq = some (r.seq - 1#8)) →
    let c := Instr.metrologyFrame bytes (some 0)
    let m := max r.ep r.en
    let x := m + (if s.active.policy.reverseMode = .chargeAsImport then r.ex else 0)
    let e := if s.tamper.magnetic = true then max x s.active.policy.mfix else x
    ∃ t, exec c s = .next t ∧
      t.mlr.link = .synced ∧ t.mlr.lastSeq = some r.seq ∧ t.mlr.eLast = some e ∧ t.mlr.silence = .started ∧
      t.mlr.linkCut = .stopped ∧ t.mlr.linkCutRaised = false ∧ t.mlr.badReports = s.mlr.badReports ∧
      t.totals =
        { s.totals with
          imported := min (s.totals.imported + m) max48, neutral := min (s.totals.neutral + r.en) max48,
          exported := min (s.totals.exported + r.ex) max48, billed := min (s.totals.billed + e) max48 } ∧
      t.handed = (s.take c).handed ++ [.debitRequest e] ∧
      t.alert = s.alert.present .metrologyLost false ∧
      t.tamper = { s.tamper with feFlag := r.magnetic, presence := t.tamper.presence, release := t.tamper.release } ∧
      t.sw = { s.sw with streak := t.sw.streak } ∧
      t = { s with mlr := t.mlr, totals := t.totals, sw := t.sw, tamper := t.tamper, alert := t.alert,
                   handed := t.handed }) ∧
  (∀ (bytes : List Byte) (r : Report) (s : State),
    readReport bytes 0 = some r → mainGood s = true → NoDetection s →
    (s.mlr.link = .synced → s.mlr.lastSeq = some (r.seq - 1#8)) →
    let m := max r.ep r.en
    let unbalanced := m < 8 * (max r.ep r.en - min r.ep r.en)
    let reverse := r.ep < r.ex ∧ 10 ≤ r.ex
    ∃ t, exec (.metrologyFrame bytes (some 0)) s = .next t ∧
      MagneticTimed (s.pins.mags || r.magnetic) s.tamper t.tamper ∧
      t.mlr.episode = s.mlr.episode ∧ t.mlr.reverseRaised = s.mlr.reverseRaised ∧
      t.mlr.unbalanced =
        (if m < 10 ∨ s.mlr.episode = true then s.mlr.unbalanced
         else if unbalanced then min (s.mlr.unbalanced + 1) 30 else 0) ∧
      t.mlr.balanced =
        (if m < 10 ∨ s.mlr.episode = false then s.mlr.balanced
         else if unbalanced then 0 else min (s.mlr.balanced + 1) 30) ∧
      t.mlr.reverse =
        (if s.mlr.reverseRaised = true then s.mlr.reverse else if reverse then min (s.mlr.reverse + 1) 10 else 0) ∧
      t.mlr.rearm =
        (if s.mlr.reverseRaised = false then s.mlr.rearm else if reverse then 0 else min (s.mlr.rearm + 1) 10) ∧
      t.mlr.overload =
        (if s.active.policy.ilim ≠ 0 ∧ s.active.policy.ilim < r.ip then min (s.mlr.overload + 1) 5 else 0) ∧
      t.sw.streak =
        (if r.ep < 10 then 0
         else if (s.sw.state = .opened ∨ s.sw.state = .armed) ∧ s.sw.fault = false then min (s.sw.streak + 1) 3
         else s.sw.streak))

/-- A report in SYNCED against the last accepted sequence number: a duplicate is nothing; a gap of g brings min(g, 8) fill
reports at E_last before the real report, and from 9 on a METROLOGY_GAP record. The fills move no streak, timer or condition:
but for the totals, the debits and the record, the part is as after the same report with no gap before it (R4, R5, R6). -/
def Obligations.GapReportsFilled : Prop :=
  ∀ (bytes : List Byte) (r : Report) (last : Byte) (eLast : Nat) (s : State),
    readReport bytes 0 = some r → mainGood s = true → NoDetection s →
    s.mlr.link = .synced → s.mlr.lastSeq = some last → s.mlr.eLast = some eLast →
    let c := Instr.metrologyFrame bytes (some 0)
    let g := (r.seq - last - 1#8).toNat
    let e := increment r s
    (g = 255 → exec c s = .next (s.take c)) ∧
    (g ≠ 255 → ∃ t, exec c s = .next t ∧
      t.mlr.link = .synced ∧ t.mlr.lastSeq = some r.seq ∧ t.mlr.eLast = some e ∧ t.mlr.silence = .started ∧
      t.handed = (s.take c).handed ++ List.replicate (min g 8) (.debitRequest eLast) ++ [.debitRequest e] ∧
      t.totals =
        { s.totals with
          imported := min (s.totals.imported + max r.ep r.en) max48, neutral := min (s.totals.neutral + r.en) max48,
          exported := min (s.totals.exported + r.ex) max48,
          billed := min (s.totals.billed + min g 8 * eLast + e) max48 } ∧
      t.log =
        (if 9 ≤ g then
          s.log.offerRoutine (evidenceWaiting s)
            { time := s.cal.t, valid := s.cal.valid, kind := .metrologyGap, gap := some g }
         else s.log) ∧
      (∃ u, exec c { s with mlr := { s.mlr with lastSeq := some (r.seq - 1#8) } } = .next u ∧
        t.mlr = u.mlr ∧ t.sw = u.sw ∧ t.tamper = u.tamper ∧ t.alert = u.alert) ∧
      t = { s with mlr := t.mlr, totals := t.totals, sw := t.sw, tamper := t.tamper, alert := t.alert, log := t.log,
                   handed := t.handed })

/-- The silence timer at 5 s takes the link to LOST, and the link-cut timer at 60 s raises LINK_CUT once; a timer that has not
reached its limit does not expire, and an idle part takes each expiry at its limit (R7 to R9; that an expiry before its time
does nothing is log entry 4, the counts that the stopped timers keep, 0 and 60 s, are log entry 36, and the idle millisecond
is log entry 3). The five detections of MLR: CURRENT_IMBALANCE and the end of its episode, REVERSE_FLOW and its re-arming,
and the overload signal (R13, R14, R16). -/
def Obligations.TimersAndDetections : Prop :=
  ((∀ s : State, mainGood s = true → s.mlr.silence.running = true → 5000 ≤ s.mlr.silence.ms →
    ∃ t, exec .silenceExpiry s = .next t ∧
      t.mlr = { s.mlr with link := .lost, silence := .stopped, linkCut := .started, linkCutRaised := false } ∧
      t.alert = s.alert.present .metrologyLost true ∧
      t.tamper = { s.tamper with feFlag := false, presence := t.tamper.presence, release := t.tamper.release } ∧
      MagneticTimed s.pins.mags s.tamper t.tamper ∧
      t = { s.take .silenceExpiry with mlr := t.mlr, alert := t.alert, tamper := t.tamper }) ∧
  (∀ s : State, mainGood s = true →
    (s.mlr.silence.running = false ∨ s.mlr.silence.ms < 5000 → exec .silenceExpiry s = .next (s.take .silenceExpiry)) ∧
    (s.mlr.linkCut.running = false ∨ s.mlr.linkCut.ms < 60000 →
      exec .linkCutExpiry s = .next (s.take .linkCutExpiry))) ∧
  (∀ s : State, Idle s →
    ∃ t, step s = .next t ∧ Counts 5000 s.mlr.silence t.mlr.silence ∧ Counts 60000 s.mlr.linkCut t.mlr.linkCut) ∧
  (∀ s : State, mainGood s = true → s.mlr.linkCut.running = true → 60000 ≤ s.mlr.linkCut.ms →
    exec .linkCutExpiry s =
      .next
        { s with
          mlr := { s.mlr with linkCut := { running := false, ms := 60000 }, linkCutRaised := true },
          handed := (s.take .linkCutExpiry).handed ++ [.tamperEvent .linkCut] })) ∧
  ((∀ s : State, mainGood s = true → s.mlr.episode = false → 30 ≤ s.mlr.unbalanced →
    exec .imbalanceDetect s =
      .next
        { s with
          mlr := { s.mlr with episode := true, unbalanced := 0, balanced := 0 },
          handed := (s.take .imbalanceDetect).handed ++ [.tamperEvent .currentImbalance] }) ∧
  (∀ s : State, mainGood s = true → s.mlr.episode = true → 30 ≤ s.mlr.balanced →
    exec .imbalanceEpisodeEnd s =
      .next
        { s.take .imbalanceEpisodeEnd with mlr := { s.mlr with episode := false, unbalanced := 0, balanced := 0 } }) ∧
  (∀ s : State, mainGood s = true → s.mlr.reverseRaised = false → 10 ≤ s.mlr.reverse →
    exec .reverseFlowDetect s =
      .next
        { s with
          mlr := { s.mlr with reverseRaised := true, reverse := 0, rearm := 0 },
          handed := (s.take .reverseFlowDetect).handed ++ [.tamperEvent .reverseFlow] }) ∧
  (∀ s : State, mainGood s = true → s.mlr.reverseRaised = true → 10 ≤ s.mlr.rearm →
    exec .reverseFlowRearm s =
      .next { s.take .reverseFlowRearm with mlr := { s.mlr with reverseRaised := false, reverse := 0, rearm := 0 } }) ∧
  (∀ s : State, mainGood s = true → 5 ≤ s.mlr.overload →
    exec .overloadDetect s =
      .next
        { s with
          mlr := { s.mlr with overload := 0 },
          handed := (s.take .overloadDetect).handed ++ [.overloadSignal] }))

/-! ## 02: credit -/

/-- The exhaustion level L at every moment, its range under a valid tariff, and the test that compares B with it: with L, or
with L - FA in a friendly period (R35). -/
def Obligations.ExhaustionLevel : Prop :=
  (∀ s : State,
    (s.bill.emergency = .inUse → exhaustion s = -(s.active.charges.emergency : Int)) ∧
    (s.bill.emergency ≠ .inUse → exhaustion s = 0) ∧
    (s.active.valid = true →
      -100000000 ≤ exhaustion s ∧ exhaustion s ≤ 0 ∧
      -200000000 ≤ exhaustion s - s.active.friendly.allowance ∧ exhaustion s - s.active.friendly.allowance ≤ 0)) ∧
  (∀ s : State, mainGood s = true → NoGapWaits s → s.sw.set.credit = false →
    ∃ t, exec .clockMinute s = .next t ∧ exhaustion t = exhaustion s ∧
      (t.sw.set.credit = true ↔
        s.bill.b < (if friendlyNow s = true then exhaustion s - s.active.friendly.allowance else exhaustion s)))

/-- A debit of E cWh at the price in force: R, B with its floor and its BALANCE_FLOOR record, the band total, and the
evaluation (R12, R20, R21). -/
def Obligations.DebitPricesEnergy : Prop :=
  ∀ (e : Nat) (s : State), mainGood s = true → NoGapWaits s →
    let c := Instr.debitRequest e
    let sum := s.bill.r + e * s.active.prices.get (bandInForce s)
    let w := sum / 10000
    let atFloor := w ≠ 0 ∧ s.bill.b - (w : Int) ≤ balanceMin
    ∃ t, exec c s = .next t ∧
      t.bill.r = sum % 10000 ∧ t.bill.b = max balanceMin (s.bill.b - w) ∧
      t.bill.q = s.bill.q ∧ t.bill.h = s.bill.h ∧ t.bill.d = s.bill.d ∧
      (atFloor → t.bill.floor = true) ∧ (¬atFloor → t.bill.floor = s.bill.floor) ∧
      (atFloor → s.bill.floor = false →
        t.log =
          s.log.offerRoutine (evidenceWaiting s)
            { time := s.cal.t, valid := s.cal.valid, kind := .balanceFloor, energy := some s.totals.imported }) ∧
      (¬(atFloor ∧ s.bill.floor = false) → t.log = s.log) ∧
      t.totals =
        { s.totals with
          band := s.totals.band.set (bandInForce s) (min (s.totals.band.get (bandInForce s) + e) max48) } ∧
      CreditEvaluated s.bill.emergency s.sw.set.credit t ∧ t.sw.set = { s.sw.set with credit := t.sw.set.credit } ∧
      t = { s.take c with bill := t.bill, totals := t.totals, log := t.log, sw := t.sw, alert := t.alert }

/-- A standing accrual and the gap accrual at a clock second t above H charge min(t - H, 31 days) seconds at S, with the
remainder in Q, down to the floor with its flag and its BALANCE_FLOOR record, and end with an evaluation (R20, R23, R24). At or
below H neither charges anything: the gap accrual still ends with its evaluation (R45), and the clock second makes none, which
is the model's reading of R23 beside R38 (log entry 37). A clock minute makes the evaluation of R37, and changes nothing of
the money (R39). -/
def Obligations.AccrualsAndMinutes : Prop :=
  ((∀ (x : BitVec 32) (c : Instr) (s : State), mainGood s = true → (c = .standingAccrual x ∨ c = .gapAccrual x) →
    NoGapWaits (s.take c) → s.bill.h < x.toNat →
    let sum := s.bill.q + min (x.toNat - s.bill.h) 2678400 * s.active.charges.standing
    let atFloor := sum / 86400 ≠ 0 ∧ s.bill.b - (sum / 86400 : Nat) ≤ balanceMin
    ∃ t, exec c s = .next t ∧
      (atFloor → t.bill.floor = true) ∧ (¬atFloor → t.bill.floor = s.bill.floor) ∧
      (atFloor → s.bill.floor = false →
        t.log =
          s.log.offerRoutine (evidenceWaiting s)
            { time := s.cal.t, valid := s.cal.valid, kind := .balanceFloor, energy := some s.totals.imported }) ∧
      (¬(atFloor ∧ s.bill.floor = false) → t.log = s.log) ∧
      t.bill.q = sum % 86400 ∧ t.bill.b = max balanceMin (s.bill.b - (sum / 86400 : Nat)) ∧ t.bill.h = x.toNat ∧
      t.bill.r = s.bill.r ∧ t.bill.d = s.bill.d ∧
      CreditEvaluated s.bill.emergency s.sw.set.credit t ∧ t.sw.set = { s.sw.set with credit := t.sw.set.credit } ∧
      t = { s.take c with bill := t.bill, log := t.log, sw := t.sw, alert := t.alert }) ∧
  (∀ (x : BitVec 32) (s : State), mainGood s = true → NoGapWaits s → x.toNat ≤ s.bill.h →
    exec (.standingAccrual x) s = .next (s.take (.standingAccrual x))) ∧
  (∀ (x : BitVec 32) (s : State), mainGood s = true → x.toNat ≤ s.bill.h →
    ∃ t, exec (.gapAccrual x) s = .next t ∧
      CreditEvaluated s.bill.emergency s.sw.set.credit t ∧ t.sw.set = { s.sw.set with credit := t.sw.set.credit } ∧
      t.bill = { s.bill with emergency := t.bill.emergency, deferral := t.bill.deferral } ∧
      t = { s.take (.gapAccrual x) with bill := t.bill, sw := t.sw, alert := t.alert })) ∧
  (∀ s : State, mainGood s = true → NoGapWaits s →
    ∃ t, exec .clockMinute s = .next t ∧
      CreditEvaluated s.bill.emergency s.sw.set.credit t ∧ t.sw.set = { s.sw.set with credit := t.sw.set.credit } ∧
      t.bill = { s.bill with emergency := t.bill.emergency, deferral := t.bill.deferral } ∧
      t = { s.take .clockMinute with bill := t.bill, sw := t.sw, alert := t.alert })

/-- REQUEST_EMERGENCY: in AVAILABLE the state becomes IN_USE and an evaluation follows; otherwise it is refused and nothing
changes (R32). -/
def Obligations.EmergencyTaken : Prop :=
  ∀ s : State, Ready .meter s → NoGapWaits s →
    let c := Instr.requestEmergency .meter
    (s.bill.emergency = .available →
      ∃ t, exec c s = .next (respond .meter (.bare .ok) t) ∧
        t.bill = { s.bill with emergency := .inUse, deferral := t.bill.deferral } ∧
        CreditEvaluated .inUse s.sw.set.credit t ∧ t.sw.set = { s.sw.set with credit := t.sw.set.credit } ∧
        t = { s.take c with bill := t.bill, sw := t.sw, alert := t.alert }) ∧
    (s.bill.emergency ≠ .available → exec c s = .next (respond .meter (.bare .notAvailable) (s.take c)))

/-! ## Reads and responses -/

/-- A response frame is its start byte, its length byte, its status and data, and a check byte that makes the sum 0; it
becomes owed behind the responses owed already, and nothing else changes (R182, R197). -/
def Obligations.ResponsesFramed : Prop :=
  ∀ (p : Port) (r : Reply) (s : State), r.data.length ≤ 254 →
    (responseFrame r).take 3 = [0x3C#8, BitVec.ofNat 8 (r.data.length + 1), r.status.code] ∧
    ((responseFrame r).drop 3).dropLast = r.data ∧
    (responseFrame r).length = r.data.length + 4 ∧ byteSum (responseFrame r) = 0#8 ∧
    ((respond p r s).ports.line.get p).owed = (s.ports.line.get p).owed ++ [responseFrame r] ∧
    respond p r s =
      setLine p { s.ports.line.get p with owed := (s.ports.line.get p).owed ++ [responseFrame r] } s

/-- The tests of R181 in their order: those that a command meets which comes on a port (one response owed, two owed, the
permission of 10.4), and those of a complete frame, with the refusal that each gives (R181, R182); and which command codes the
catalogue of 10.4 permits on both ports, on the meter port only (0x20, 0x21) and on the network port only (0x30 to 0x3C). -/
def Obligations.PortTestsInOrder : Prop :=
  (∀ (i : Instr) (p : Port) (code : Byte) (args : List Byte) (s : State),
    commandParts i = some (p, code, args) → mainGood s = true →
    ((s.ports.line.get p).owed.length = 1 → exec i s = .next (respond p (.bare .busy) (s.take i))) ∧
    (2 ≤ (s.ports.line.get p).owed.length → exec i s = .next (discardFrame p (s.take i))) ∧
    (discardFrame p (s.take i) =
      setLine p { s.ports.line.get p with discarded := min ((s.ports.line.get p).discarded + 1) 65535 } (s.take i)) ∧
    ((s.ports.line.get p).owed = [] → permission code p = some false →
      exec i s = .next (respond p (.bare .notPermitted) (s.take i)))) ∧
  (∀ (p : Port) (frame : List Byte) (s : State), mainGood s = true →
    let c := Instr.badFrame p frame
    let owed := (s.ports.line.get p).owed.length
    let code := frame.getD 1 0#8
    let good := byteSum (0xC3#8 :: frame) = 0#8
    (2 ≤ owed → exec c s = .next (discardFrame p (s.take c))) ∧
    (owed < 2 → ¬good → exec c s = .next (respond p (.bare .frameError) (s.take c))) ∧
    (owed = 1 → good → exec c s = .next (respond p (.bare .busy) (s.take c))) ∧
    (owed = 0 → good → permission code p = none →
      exec c s = .next (respond p (.bare .unknownCommand) (s.take c))) ∧
    (owed = 0 → good → permission code p = some false →
      exec c s = .next (respond p (.bare .notPermitted) (s.take c))) ∧
    (owed = 0 → good → permission code p = some true → readArguments p code ((frame.drop 2).dropLast) = none →
      exec c s = .next (respond p (.bare .badArgument) (s.take c)))) ∧
  (∀ (code : Byte) (p : Port),
    permission code p =
      if code.toNat ∈ [0x01, 0x02, 0x03, 0x04, 0x05, 0x06, 0x07, 0x08, 0x09, 0x10, 0x11, 0x12, 0x18, 0x19] then some true
      else if code.toNat = 0x20 ∨ code.toNat = 0x21 then some (decide (p = .meter))
      else if 0x30 ≤ code.toNat ∧ code.toNat ≤ 0x3C then some (decide (p = .network))
      else none)

/-- Every read command, on either port, is answered and changes nothing but the owed response (R17, R42, R56, R86, R111,
R135, R147, R162, R177, R188, R193); and what READ_TOTALS, READ_CREDIT, READ_IDENTITY, READ_SWITCH, READ_TAMPER and ALERT_QUERY
send (R17, R42, R111, R135, R188, R193, R197, 12.8; the layouts that 12.8 does not give are the model's reading of R197, log
entry 19). -/
def Obligations.ReadsAnswered : Prop :=
  (∀ (p : Port) (c : Instr) (s : State), Ready p s →
    (c ∈ [Instr.readTotals p, .readCredit p, .readSwitch p, .readTamper p, .readClock p, .readIdentity p, .readStatus p,
          .alertQuery p] →
      ∃ d, exec c s = .next (respond p ⟨.ok, d⟩ (s.take c))) ∧
    ((∃ sel g, c = .readTariff p sel g) ∨ (∃ first n, c = .readLog p first n) ∨ (∃ k, c = .codeResult p k) →
      ∃ r, exec c s = .next (respond p r (s.take c)))) ∧
  (∀ (p : Port) (s : State), Ready p s →
    exec (.readTotals p) s =
      .next
        (respond p
          ⟨.ok,
           beNat 6 s.totals.imported ++ beNat 6 s.totals.neutral ++ beNat 6 s.totals.exported ++
           beNat 6 s.totals.billed ++ beNat 6 s.totals.band.b0 ++ beNat 6 s.totals.band.b1 ++ beNat 6 s.totals.band.b2 ++
           beNat 6 s.totals.band.b3 ++ beNat 2 s.mlr.badReports ++
           [match s.mlr.link with | .never => 0#8 | .synced => 1#8 | .lost => 2#8]⟩
          (s.take (.readTotals p))) ∧
    (∃ d, exec (.readCredit p) s = .next (respond p ⟨.ok, d⟩ (s.take (.readCredit p))) ∧ d.length = 44 ∧
      d.take 8 = beInt 8 s.bill.b ∧ (d.drop 8).take 8 = beInt 8 s.bill.d ∧ (d.drop 16).take 2 = beNat 2 s.bill.r ∧
      (d.drop 18).take 4 = beNat 4 s.bill.q ∧ (d.drop 22).take 4 = beNat 4 s.bill.h ∧
      (d.drop 26).take 1 = [match s.bill.emergency with | .unavailable => 0#8 | .available => 1#8 | .inUse => 2#8] ∧
      (d.drop 27).take 8 = beInt 8 (exhaustion s) ∧ (d.drop 35).take 8 = beInt 8 s.active.charges.emergency ∧
      (d.drop 43 = flagByte [decide (s.bill.b < s.active.charges.lowCredit), s.sw.set.credit, s.bill.deferral,
        s.bill.floor])) ∧
    exec (.readIdentity p) s =
      .next
        (respond p
          ⟨.ok,
           beOption 6 s.identity.working.number ++
           flagByte [s.identity.working.provisioned, s.identity.working.locked, s.identity.writing.isSome]⟩
          (s.take (.readIdentity p)))) ∧
  (∀ (p : Port) (s : State), Ready p s →
    exec (.readSwitch p) s =
      .next
        (respond p
          ⟨.ok,
           [match s.sw.state with
             | .unknown => 0#8 | .closed => 1#8 | .opened => 2#8 | .armed => 3#8 | .opening => 4#8 | .closing => 5#8] ++
           (match s.sw.phase with
             | none => [0#8, 0#8, 0#8, 0#8]
             | some ph =>
               [1#8, match ph with | .waitPermit => 1#8 | .deadTime => 2#8 | .pulse => 3#8 | .settle => 4#8, 1#8] ++
                 beNat 1 s.sw.attempts) ++
           [match s.sw.position with | .unknown => 0#8 | .opened => 1#8 | .closed => 2#8] ++
           flagByte [s.sw.set.credit, s.sw.set.overload, s.sw.set.tamper, s.sw.set.remote, s.sw.set.uncommissioned] ++
           flagByte [s.sw.confirm, s.sw.fault, s.sw.overload.running, s.pins.lsense, s.pins.cinhn, s.pins.crdy,
                     s.sw.bypassRaised] ++
           beNat 2 (if s.sw.holdOff.running = true then 10000 - s.sw.holdOff.ms else 0) ++
           beNat 2 (s.sw.overload.ms / 1000)⟩ (s.take (.readSwitch p))) ∧
    exec (.readTamper p) s =
      .next
        (respond p
          ⟨.ok,
           beNat 4 s.tamper.ts ++ beNat 4 s.tamper.tsLock ++ beNat 4 s.tamper.tsClear ++
           flagByte [s.sw.set.tamper, decide (s.tamper.debounced.cover = .opened), decide (s.pins.covers.cover = .opened),
                     (s.tamper.latch.cover.map (·.valid)).getD false, decide (s.tamper.debounced.terminal = .opened),
                     decide (s.pins.covers.terminal = .opened), (s.tamper.latch.terminal.map (·.valid)).getD false,
                     s.pins.mags] ++
           flagByte [s.tamper.feFlag, s.tamper.magnetic, s.tamper.presence.running, s.tamper.release.running] ++
           (match s.tamper.latch.cover with | some l => 1#8 :: beNat 4 l.time | none => [0#8, 0#8, 0#8, 0#8, 0#8]) ++
           (match s.tamper.latch.terminal with | some l => 1#8 :: beNat 4 l.time | none => [0#8, 0#8, 0#8, 0#8, 0#8]) ++
           beNat 2 s.tamper.presence.ms ++ beNat 2 s.tamper.release.ms ++ beNat 1 s.active.policy.lockout.toNat ++
           beNat 1 s.tamper.hold.length⟩ (s.take (.readTamper p)))) ∧
  (∀ (p : Port) (s : State), Ready p s →
    let a := s.alert.ports.get p
    let pending := allClasses.filter (fun k => (a.classes.get k).pending)
    (a.selected = none →
      exec (.alertQuery p) s =
        .next (respond p ⟨.ok, [0#8, 0#8, 0#8, 0#8, 0#8]⟩ (s.take (.alertQuery p)))) ∧
    (∀ k, a.selected = some k →
      exec (.alertQuery p) s =
        .next
          (respond p
            ⟨.ok,
             [BitVec.ofNat 8 (alertClassNumber k), BitVec.ofNat 8 (a.levels.get k), (a.classes.get k).count,
              BitVec.ofNat 8 pending.length] ++
             pending.flatMap (fun j => [BitVec.ofNat 8 (alertClassNumber j), (a.classes.get j).count]) ++
             flagByte [alertLine p s]⟩ (s.take (.alertQuery p)))))

/-- All 79 bytes of READ_STATUS, in the order of 12.8 (R89, R177, R188). -/
def Obligations.StatusAnswered : Prop :=
  ∀ (p : Port) (s : State), Ready p s →
    ∃ d, exec (.readStatus p) s = .next (respond p ⟨.ok, d⟩ (s.take (.readStatus p))) ∧ d.length = 79 ∧
      d.take 3 =
        [match s.supmon.cause with | .cold => 0#8 | .warm => 1#8 | .pin => 2#8] ++
        flagByte [s.supmon.failTime.isSome, s.supmon.brownOut, s.supmon.request, s.supmon.lastDone.isSome, s.cal.valid,
                  s.sw.set.credit, s.tariff.commissioned, s.sw.fault] ++
        flagByte [s.tamper.magnetic, s.identity.working.provisioned, s.identity.working.locked,
                  decide (s.supmon.writer ≠ .idle)] ∧
      (d.drop 3).take 26 =
        beNat 4 (s.supmon.failTime.getD 0) ++
        beNat 6 (match s.supmon.writer with | .idle => 0 | .writing _ k _ => k.seq) ++
        beNat 6 ((s.supmon.lastDone.map (·.seq)).getD 0) ++ beNat 4 ((s.supmon.lastDone.map (·.time)).getD 0) ++
        beNat 6 s.supmon.nextSeq ∧
      (d.drop 29).take 11 =
        beNat 4 s.cal.t ++ beNat 1 s.cal.hold.length ++
        [match s.mlr.link with | .never => 0#8 | .synced => 1#8 | .lost => 2#8] ++
        [match s.bill.emergency with | .unavailable => 0#8 | .available => 1#8 | .inUse => 2#8] ++
        [match s.tariff.slot with | .empty => 0#8 | .assembling _ => 1#8 | .armed _ _ => 2#8] ++
        [match s.tariff.imageState with | .current => 0#8 | .writing => 1#8 | .stale => 2#8] ++
        beNat 1 s.code.queue.length ++
        [match s.code.flight.map (·.phase) with
          | none => 0#8
          | some (.deciphering _) => 1#8
          | some (.judging _) => 2#8
          | some (.persisting _ _ _) => 3#8] ∧
      (d.drop 40).take 12 =
        beNat 3 s.code.lowMark ++ beNat 1 s.code.accepted.length ++
        beNat 1 s.code.lockout.meter.failures ++ beNat 1 s.code.lockout.meter.k ++
        beNat 2 s.code.lockout.meter.penalty ++
        beNat 1 s.code.lockout.network.failures ++ beNat 1 s.code.lockout.network.k ++
        beNat 2 s.code.lockout.network.penalty ∧
      (d.drop 52).take 3 =
        [match s.sw.state with
          | .unknown => 0#8 | .closed => 1#8 | .opened => 2#8 | .armed => 3#8 | .opening => 4#8 | .closing => 5#8] ++
        [match s.sw.position with | .unknown => 0#8 | .opened => 1#8 | .closed => 2#8] ++
        flagByte [s.sw.set.credit, s.sw.set.overload, s.sw.set.tamper, s.sw.set.remote, s.sw.set.uncommissioned] ∧
      (d.drop 55).take 12 = beNat 4 s.tamper.ts ++ beNat 4 s.tamper.tsLock ++ beNat 4 s.tamper.tsClear ∧
      (d.drop 67).take 7 =
        beNat 1 s.log.records.length ++ beNat 1 s.log.uncollected ++ beNat 2 s.log.overflow ++ beNat 2 s.log.dropped ++
        beNat 1 s.log.staging.length ∧
      d.drop 74 =
        beNat 2 s.ports.line.meter.discarded ++ beNat 2 s.ports.line.network.discarded ++
        [match s.ports.baud with | .b9600 => 0#8 | .b19200 => 1#8 | .b38400 => 2#8 | .b115200 => 3#8]

/-! ## 03: tariffs -/

/-- TARIFF_OPEN copies the active tariff into the pending slot under the new id, in every pending state (R50). TARIFF_COMMIT
in ASSEMBLING arms a tariff whose groups pass every whole-record test, and otherwise names the first group that fails and
leaves the slot as it was; in EMPTY and ARMED it is refused (R53). -/
def Obligations.OpenAndCommit : Prop :=
  (∀ (id : BitVec 16) (s : State), Ready .network s →
    exec (.tariffOpen .network id) s =
      .next
        (respond .network (.bare .ok)
          { s.take (.tariffOpen .network id) with
            tariff := { s.tariff with slot := .assembling { s.tariff.active with id := id.toNat } } })) ∧
  (∀ (time : BitVec 32) (s : State), Ready .network s →
    let c := Instr.tariffCommit .network time
    (∀ t, s.tariff.slot = .assembling t → (∀ g, GroupPasses t g) →
      exec c s =
        .next
          (respond .network (.bare .ok) { s.take c with tariff := { s.tariff with slot := .armed t time.toNat } })) ∧
    (∀ t g, s.tariff.slot = .assembling t → ¬GroupPasses t g → (∀ f, f < g → GroupPasses t f) →
      exec c s = .next (respond .network ⟨.invalidTariff, [BitVec.ofNat 8 g]⟩ (s.take c))) ∧
    ((∀ t, s.tariff.slot ≠ .assembling t) → exec c s = .next (respond .network (.bare .wrongState) (s.take c))))

/-- TARIFF_CANCEL empties the pending slot and changes nothing else; in EMPTY it changes nothing (R54). -/
def Obligations.CancelEmptiesSlot : Prop :=
  ∀ s : State, Ready .network s →
    ∃ t, exec (.tariffCancel .network) s = .next (respond .network (.bare .ok) t) ∧
      t = { s.take (.tariffCancel .network) with tariff := t.tariff } ∧ t.tariff.slot = .empty ∧
      t.tariff = { s.tariff with slot := .empty } ∧
      (s.tariff.slot = .empty → t = s.take (.tariffCancel .network))

/-- TARIFF_PUT in ASSEMBLING: data that passes the checks of R51 and R52 replaces exactly its group and leaves every field in
range; other data, another group number and another pending state are refused with nothing changed (R51, R52). -/
def Obligations.PutReplacesGroup : Prop :=
  ∀ (g : Byte) (data : List Byte) (s : State), Ready .network s →
    let c := Instr.tariffPut .network g data
    (∀ t t', s.tariff.slot = .assembling t → putGroup g data t = some t' →
      exec c s =
          .next
            (respond .network (.bare .ok) { s.take c with tariff := { s.tariff with slot := .assembling t' } }) ∧
        1 ≤ g.toNat ∧ g.toNat ≤ 8 ∧ t' = copyGroup g.toNat t' t ∧ (t.inRange = true → t'.inRange = true)) ∧
    (∀ t, s.tariff.slot = .assembling t → putGroup g data t = none →
      exec c s = .next (respond .network (.bare .badArgument) (s.take c))) ∧
    ((∀ t, s.tariff.slot ≠ .assembling t) → exec c s = .next (respond .network (.bare .wrongState) (s.take c)))

/-- The layouts of 12.4, both ways: what a tariff in range sends for a group is taken by TARIFF_PUT as that group, and what
TARIFF_PUT took is what READ_TARIFF sends; what READ_TARIFF sends after the group, with either selector and in every pending
state, and what it refuses (R51, R52, R56, R197; the layout behind the group and the id 0 sent for the pending tariff in EMPTY
are the model's reading, log entry 19; that a group number outside 1 to 8 is refused with the pending selector in EMPTY too is
the model's choice, log entry 46). -/
def Obligations.GroupLayoutsAgree : Prop :=
  (∀ (g : Byte) (u t : Tariff), u.inRange = true → 1 ≤ g.toNat → g.toNat ≤ 8 →
    putGroup g (groupBytes g u) t = some (copyGroup g.toNat u t)) ∧
  (∀ (g : Byte) (data : List Byte) (t t' : Tariff), putGroup g data t = some t' → groupBytes g t' = data) ∧
  (∀ (p : Port) (sel g : Byte) (s : State), Ready p s →
    let c := Instr.readTariff p sel g
    let tail := fun id : Nat =>
      (match s.tariff.slot with | .empty => [0#8] | .assembling _ => [1#8] | .armed _ _ => [2#8]) ++ beNat 2 id ++
      (match s.tariff.slot with
        | .armed _ time => 1#8 :: beNat 4 time
        | .empty | .assembling _ => [0#8, 0#8, 0#8, 0#8, 0#8]) ++
      [if s.tariff.commissioned = true then 1#8 else 0#8]
    (1 ≤ g.toNat → g.toNat ≤ 8 →
      (sel = 0#8 → exec c s = .next (respond p ⟨.ok, groupBytes g s.active ++ tail s.active.id⟩ (s.take c))) ∧
      (sel = 1#8 → s.tariff.slot = .empty → exec c s = .next (respond p ⟨.ok, tail 0⟩ (s.take c))) ∧
      (∀ t, sel = 1#8 → (s.tariff.slot = .assembling t ∨ ∃ time, s.tariff.slot = .armed t time) →
        exec c s = .next (respond p ⟨.ok, groupBytes g t ++ tail t.id⟩ (s.take c)))) ∧
    (g.toNat = 0 ∨ 8 < g.toNat ∨ 1 < sel.toNat → exec c s = .next (respond p (.bare .badArgument) (s.take c))))

/-- The activation test of a clock second: an armed tariff that is due replaces the active one, commissions the part, and is
recorded, signalled and requested as R58 lists; one that is not due, and the pending states EMPTY and ASSEMBLING, are left
(R57 to R59, R41). The image fails its check from the start of the write that this asks for. A tariff image write that completes holds its copy; a request made during it starts the next one at once,
from the active tariff of that moment (R62; a write may complete at any moment after its start, log entry 5). -/
def Obligations.ActivationAndImage : Prop :=
  (∀ (n : Tariff) (time : Nat) (s : State), mainGood s = true → NoGapWaits s → s.tariff.slot = .armed n time →
    let c := Instr.tariffActivation
    (s.cal.valid = true → time ≤ s.cal.t → s.mlr.overload < 5 →
      ∃ t, exec c s = .next t ∧
        t.tariff.active = n ∧ t.tariff.slot = .empty ∧ t.tariff.commissioned = true ∧
        t.sw.set.uncommissioned = (s.sw.set.uncommissioned && s.tariff.commissioned) ∧
        t.sw.set =
          { s.sw.set with credit := t.sw.set.credit, uncommissioned := t.sw.set.uncommissioned } ∧
        t.log =
          s.log.offerRoutine (evidenceWaiting s) { time := s.cal.t, valid := s.cal.valid, kind := .tariffActivated } ∧
        Signalled (.latched .tariffActivated) s.alert.ports.meter t.alert.ports.meter ∧
        Signalled (.latched .tariffActivated) s.alert.ports.network t.alert.ports.network ∧
        t.supmon = { s.supmon with request := true } ∧
        t.tariff.imageState = .writing ∧
        (s.tariff.imageState = .writing →
          t.tariff.imageRequest = true ∧ t.tariff.imageWriting = s.tariff.imageWriting ∧
            t.tariff.image = s.tariff.image) ∧
        (s.tariff.imageState ≠ .writing →
          t.tariff.imageRequest = false ∧ t.tariff.imageWriting = some ⟨n, 0⟩ ∧ t.tariff.image = .failing) ∧
        t.bill = { s.bill with emergency := t.bill.emergency, deferral := t.bill.deferral } ∧
        CreditEvaluated s.bill.emergency s.sw.set.credit t ∧
        t.mlr = { s.mlr with overload := if n.policy.ilim = 0 then 0 else s.mlr.overload } ∧
        t = { s.take c with tariff := t.tariff, sw := t.sw, log := t.log, alert := t.alert, supmon := t.supmon,
                            bill := t.bill, mlr := t.mlr }) ∧
    (s.cal.valid = false ∨ s.cal.t < time → exec c s = .next (s.take c))) ∧
  (∀ s : State, mainGood s = true → NoGapWaits s → (∀ n time, s.tariff.slot ≠ .armed n time) →
    exec .tariffActivation s = .next (s.take .tariffActivation)) ∧
  (∀ (w : ImageWrite) (s : State), mainGood s = true → s.tariff.imageWriting = some w →
    let c := Instr.imageWriteComplete
    (s.tariff.imageRequest = false →
      exec c s =
        .next
          { s.take c with
            tariff := { s.tariff with image := .holds w.copy, imageState := .current, imageWriting := none } }) ∧
    (s.tariff.imageRequest = true →
      exec c s =
        .next
          { s.take c with
            tariff :=
              { s.tariff with
                image := .failing, imageState := .writing, imageWriting := some ⟨s.tariff.active, 0⟩,
                imageRequest := false } }))

/-! ## 04: top-up codes -/

/-- SUBMIT_CODE: the form of its argument, then the intake tests in their order, then the queue and the ticket (R64 to R66,
R68). -/
def Obligations.CodeIntake : Prop :=
  ∀ (p : Port) (chars : List Byte) (s : State), Ready p s →
    let c := Instr.submitCode p chars
    let l := s.code.lockout.get p
    (chars.length ≠ 22 ∨ (∃ b ∈ chars, b.toNat < 0x30 ∨ 0x39 < b.toNat) →
      exec c s = .next (respond p (.bare .badArgument) (s.take c))) ∧
    (chars.length = 22 → (∀ b ∈ chars, 0x30 ≤ b.toNat ∧ b.toNat ≤ 0x39) →
      (s.identity.working.provisioned = false ∨ s.identity.working.key = none →
        exec c s = .next (respond p (.bare .notProvisioned) (s.take c))) ∧
      (s.identity.working.provisioned = true → s.identity.working.key ≠ none →
        (s.tariff.commissioned = false → exec c s = .next (respond p (.bare .notCommissioned) (s.take c))) ∧
        (s.tariff.commissioned = true → l.penalty ≠ 0 →
          exec c s = .next (respond p ⟨.lockedOut, beNat 2 l.penalty⟩ (s.take c))) ∧
        (s.tariff.commissioned = true → l.penalty = 0 → 4 ≤ s.code.queue.length →
          exec c s = .next (respond p (.bare .busy) (s.take c))) ∧
        (s.tariff.commissioned = true → l.penalty = 0 → s.code.queue.length < 4 →
          exec c s =
            .next
              (respond p ⟨.queued, [s.code.tickets.get p]⟩
                { s.take c with
                  code :=
                    { s.code with
                      queue :=
                        s.code.queue ++ [⟨p, s.code.tickets.get p, chars.map (fun b => b.toNat - 0x30)⟩],
                      tickets := s.code.tickets.set p (s.code.tickets.get p + 1#8) } }))))

/-- The engine takes the head of the queue with the key of that moment; at the end of DECIPHERING, after its 5 ms, the entry is
malformed when its number is 2^72 or more, and otherwise carries the fields of the deciphered value (R69, R73, R75; that an
end before 5 ms does nothing is log entry 4). -/
def Obligations.EngineDeciphers : Prop :=
  (∀ (e : CodeEntry) (rest : List CodeEntry) (key : BitVec 144) (s : State), mainGood s = true →
    s.code.flight = none → s.code.queue = e :: rest → s.identity.working.key = some key →
    exec .engineTake s =
      .next
        { s.take .engineTake with
          code := { s.code with queue := rest, flight := some ⟨e, key, .deciphering 0⟩ } }) ∧
  (∀ (e : CodeEntry) (key : BitVec 144) (ms : Nat) (s : State), mainGood s = true →
    s.code.flight = some ⟨e, key, .deciphering ms⟩ →
    (ms < 5 → exec .decipherEnd s = .next (s.take .decipherEnd)) ∧
    (5 ≤ ms → ∃ f, exec .decipherEnd s =
        .next { s.take .decipherEnd with code := { s.code with flight := some ⟨e, key, .judging f⟩ } } ∧
      (2 ^ 72 ≤ codeValue e.digits → f = none) ∧
      (codeValue e.digits < 2 ^ 72 →
        ∃ x, f = some x ∧ x.issue < 2 ^ 24 ∧ x.payload < 2 ^ 32 ∧ x.check < 2 ^ 12 ∧
          ((x.kind * 2 ^ 24 + x.issue) * 2 ^ 32 + x.payload) * 2 ^ 12 + x.check =
            (decipher key (codeValue e.digits)).toNat)))

/-- The four rounds undo what the vending system's rounds do, under every key, and every number it writes is below 2^72. The
keyed function: the sum modulo 2^36, times 40,503 modulo 2^36, rotated left by 7 places. The rounds with K_1 to K_4, the slices
of the token key from the most significant end, from the two halves of V on (R73, R74). -/
def Obligations.CipherInverse : Prop :=
  (∀ (key : BitVec 144) (w : BitVec 72),
    encipher key w < 2 ^ 72 ∧ decipher key (encipher key w) = w) ∧
  (∀ x k : BitVec 36,
    let m := (x.toNat + k.toNat) % 2 ^ 36 * 40503 % 2 ^ 36
    (roundF x k).toNat = m % 2 ^ 29 * 2 ^ 7 + m / 2 ^ 29) ∧
  (∀ (key : BitVec 144) (k1 k2 k3 k4 l0 r0 : BitVec 36),
    key.toNat = ((k1.toNat * 2 ^ 36 + k2.toNat) * 2 ^ 36 + k3.toNat) * 2 ^ 36 + k4.toNat →
    let r1 := l0 ^^^ roundF r0 k1
    let r2 := r0 ^^^ roundF r1 k2
    let r3 := r1 ^^^ roundF r2 k3
    let r4 := r2 ^^^ roundF r3 k4
    (decipher key (l0.toNat * 2 ^ 36 + r0.toNat)).toNat = r3.toNat * 2 ^ 36 + r4.toNat)

/-- The judging tests that CODE makes, in their order, with the result entry each failure leaves (R72, R76, R85). A judged
code either is refused, and then leaves the engine, is listed and signalled, and consumes nothing; or is accepted, and then
waits in PERSISTING with its issue number consumed, every number consumed before still consumed, and its lockout cleared (R70,
R72, R76, R80, R83). MALFORMED and CHECK_FAILED alone count against the port's lockout record (R87). -/
def Obligations.JudgingRefuses : Prop :=
  (∀ (e : CodeEntry) (key : BitVec 144) (fields : Option Deciphered) (s : State), mainGood s = true →
    s.code.flight = some ⟨e, key, .judging fields⟩ →
    ∃ t, exec .codeJudging s = .next t ∧
      (fields = none →
        (t.code.results.get e.port).getLast? = some ⟨e.ticket, .malformed, none, none⟩) ∧
      ∀ f, fields = some f →
        (f.check ≠ (7 * f.kind + 3 * f.issue + f.payload) % 4093 →
          (t.code.results.get e.port).getLast? = some ⟨e.ticket, .checkFailed, none, none⟩) ∧
        (f.check = (7 * f.kind + 3 * f.issue + f.payload) % 4093 →
          (f.kind = 0 ∨ 4 < f.kind →
            (t.code.results.get e.port).getLast? =
              some ⟨e.ticket, .unknownKind, some ⟨f.kind, f.issue, f.payload⟩, none⟩) ∧
          (1 ≤ f.kind → f.kind ≤ 4 →
            (f.issue ≤ s.code.lowMark →
              (t.code.results.get e.port).getLast? =
                some ⟨e.ticket, .old, some ⟨f.kind, f.issue, f.payload⟩, none⟩) ∧
            (s.code.lowMark < f.issue → f.issue ∈ s.code.accepted →
              (t.code.results.get e.port).getLast? =
                some ⟨e.ticket, .used, some ⟨f.kind, f.issue, f.payload⟩, none⟩) ∧
            (s.code.lowMark < f.issue → f.issue ∉ s.code.accepted → f.kind = 1 → f.payload = 0 →
              (t.code.results.get e.port).getLast? =
                some ⟨e.ticket, .invalidField, some ⟨f.kind, f.issue, f.payload⟩, none⟩)))) ∧
  (∀ (e : CodeEntry) (key : BitVec 144) (fields : Option Deciphered) (s : State), mainGood s = true → NoGapWaits s →
    s.code.flight = some ⟨e, key, .judging fields⟩ →
    ∃ t, exec .codeJudging s = .next t ∧
      (t.code.flight = none ∨ ∃ code share, t.code.flight = some ⟨e, key, .persisting code share false⟩) ∧
      (t.code.flight = none →
        t.code.accepted = s.code.accepted ∧ t.code.lowMark = s.code.lowMark ∧ t.code.queue = s.code.queue ∧
        t.bill = { s.bill with emergency := t.bill.emergency, deferral := t.bill.deferral } ∧
        t.tamper = s.tamper ∧ t.supmon = s.supmon ∧ t.totals = s.totals ∧ t.tariff = s.tariff ∧
        ((s.code.lockout.get e.port).failures < 5 → (s.code.lockout.get e.port).penalty = 0 →
          t.code.lockout.get e.port =
            if fields.all (fun f => decide (f.check ≠ (7 * f.kind + 3 * f.issue + f.payload) % 4093)) = true then
              (s.code.lockout.get e.port).fail
            else s.code.lockout.get e.port) ∧
        ((s.code.lockout.get e.port).penalty ≠ 0 → t.code.lockout = s.code.lockout) ∧
        ((s.code.results.get e.port).length ≤ 4 →
          (t.code.results.get e.port).length = min (s.code.results.get e.port).length 3 + 1) ∧
        ((t.code.results.get e.port).getLast?.map (fun r => (r.ticket, decide (r.outcome = .accepted)))) =
          some (e.ticket, false) ∧
        (t.alert.ports.get e.port).classes.get (.latched .codeDone) =
          ⟨true, ((s.alert.ports.get e.port).classes.get (.latched .codeDone)).count + 1#8⟩) ∧
      (∀ code share, t.code.flight = some ⟨e, key, .persisting code share false⟩ →
        (∃ f, fields = some f ∧ code = ⟨f.kind, f.issue, f.payload⟩) ∧
        s.code.lowMark < code.issue ∧ code.issue ∉ s.code.accepted ∧
        (code.issue ∈ t.code.accepted ∨ code.issue ≤ t.code.lowMark) ∧
        (ListSound s.code.lowMark s.code.accepted → ∀ n, n ∈ s.code.accepted ∨ n ≤ s.code.lowMark →
          n ∈ t.code.accepted ∨ n ≤ t.code.lowMark) ∧
        t.code.lockout.get e.port = Lockout.clear ∧ t.supmon = { s.supmon with request := true } ∧
        t.code.results = s.code.results))

/-- A CREDIT code that fits: the recovery share, the balance, the debt, the floor flag, the end of emergency use, the record
and the evaluation; one that does not fit is OVER_LIMIT and leaves the money (R28, R33, R77, R80, R81). -/
def Obligations.CreditCodeApplied : Prop :=
  ∀ (e : CodeEntry) (key : BitVec 144) (f : Deciphered) (s : State), mainGood s = true → NoGapWaits s →
    s.code.flight = some ⟨e, key, .judging (some f)⟩ → f.kind = 1 → f.payload ≠ 0 → PassesTests f s →
    let a := f.payload * 1000
    let d := min s.bill.d (a * s.active.charges.share / 1000)
    let b' : Int := s.bill.b + (a - d : Nat)
    let ends := s.bill.emergency = .inUse ∧ 0 ≤ b'
    (b' ≤ s.active.charges.maxCredit →
      ∃ t, exec .codeJudging s = .next t ∧
        t.bill.b = b' ∧ t.bill.d = s.bill.d - d ∧ t.bill.r = s.bill.r ∧ t.bill.q = s.bill.q ∧ t.bill.h = s.bill.h ∧
        (balanceMin < b' → t.bill.floor = false) ∧
        CreditEvaluated (if ends then .unavailable else s.bill.emergency) s.sw.set.credit t ∧
        t.sw.set = { s.sw.set with credit := t.sw.set.credit } ∧
        t.code.flight = some ⟨e, key, .persisting ⟨1, f.issue, f.payload⟩ (some d) false⟩ ∧
        t.log =
          s.log.offerRoutine (evidenceWaiting s)
            { time := s.cal.t, valid := s.cal.valid, kind := .codeAccepted, code := some ⟨1, f.issue, f.payload⟩ } ∧
        t = { s.take .codeJudging with bill := t.bill, sw := t.sw, alert := t.alert, code := t.code, log := t.log,
                                       supmon := { s.supmon with request := true } }) ∧
    ((s.active.charges.maxCredit : Int) < b' →
      ∃ t, exec .codeJudging s = .next t ∧
        (t.code.results.get e.port).getLast? =
          some ⟨e.ticket, .overLimit, some ⟨1, f.issue, f.payload⟩, none⟩ ∧
        t.bill = { s.bill with emergency := t.bill.emergency, deferral := t.bill.deferral } ∧
        t.code.accepted = s.code.accepted ∧ t.log = s.log)

/-- DEBT and TENANCY codes: what they set, the CODE_ACCEPTED record and the checkpoint request of an accepted one, with nothing
else of the part changed, and DEBT_LIMIT (R27, R29, R33, R78, R80, R81). -/
def Obligations.DebtAndTenancyApplied : Prop :=
  ∀ (e : CodeEntry) (key : BitVec 144) (f : Deciphered) (s : State), mainGood s = true → NoGapWaits s →
    s.code.flight = some ⟨e, key, .judging (some f)⟩ → PassesTests f s →
    ∃ t, exec .codeJudging s = .next t ∧
      t.bill.r = s.bill.r ∧ t.bill.q = s.bill.q ∧ t.bill.h = s.bill.h ∧
      (f.kind = 2 → s.bill.d + f.payload * 1000 ≤ 1000000000000 →
        t.bill.d = s.bill.d + f.payload * 1000 ∧ t.bill.b = s.bill.b ∧
        t.bill.floor = s.bill.floor ∧
        t.code.flight = some ⟨e, key, .persisting ⟨2, f.issue, f.payload⟩ none false⟩ ∧
        CreditEvaluated s.bill.emergency s.sw.set.credit t ∧ AcceptedFrame .codeJudging ⟨2, f.issue, f.payload⟩ s t) ∧
      (f.kind = 4 → f.payload * 1000 ≤ 1000000000000 →
        t.bill.b = 0 ∧ t.bill.d = f.payload * 1000 ∧ t.bill.floor = false ∧
        t.code.flight = some ⟨e, key, .persisting ⟨4, f.issue, f.payload⟩ none false⟩ ∧
        CreditEvaluated .unavailable s.sw.set.credit t ∧ AcceptedFrame .codeJudging ⟨4, f.issue, f.payload⟩ s t) ∧
      ((f.kind = 2 ∧ 1000000000000 < s.bill.d + f.payload * 1000) ∨
          (f.kind = 4 ∧ 1000000000000 < f.payload * 1000) →
        (t.code.results.get e.port).getLast? =
            some ⟨e.ticket, .debtLimit, some ⟨f.kind, f.issue, f.payload⟩, none⟩ ∧
          t.bill.b = s.bill.b ∧ t.bill.d = s.bill.d ∧ t.code.accepted = s.code.accepted)

/-- A failure, MALFORMED or CHECK_FAILED, against a port's lockout record: the count, the fifth failure's penalty of 60 × 2^k
seconds, and no change while a penalty runs; any other refusal leaves the record, and the other port's record stays in every
case. A penalty of the port that has reached 0 ends before the judging (log entry 13). The penalty goes down by one at each
clock second, and at 0 the count becomes 4 (R81, R87, R88). -/
def Obligations.PenaltiesCount : Prop :=
  (∀ (e : CodeEntry) (key : BitVec 144) (fields : Option Deciphered) (s : State), mainGood s = true →
    s.code.flight = some ⟨e, key, .judging fields⟩ →
    (∀ f, fields = some f → f.check ≠ (7 * f.kind + 3 * f.issue + f.payload) % 4093) →
    let l := s.code.lockout.get e.port
    let other := match e.port with | .meter => Port.network | .network => .meter
    ∃ t, exec .codeJudging s = .next t ∧ t.code.lockout.get other = s.code.lockout.get other ∧
      (l.penalty ≠ 0 → t.code.lockout.get e.port = l) ∧
      (l.penalty = 0 → l.failures < 4 → t.code.lockout.get e.port = { l with failures := l.failures + 1 }) ∧
      (l.penalty = 0 → l.failures = 4 →
        t.code.lockout.get e.port = { failures := 5, k := min (l.k + 1) 6, penalty := 60 * 2 ^ l.k }) ∧
      (l.penalty = 0 → l.failures = 5 →
        t.code.lockout.get e.port = { failures := 5, k := min (l.k + 1) 6, penalty := 60 * 2 ^ l.k }) ∧
      t.log =
        s.log.offerRoutine (evidenceWaiting s) { time := s.cal.t, valid := s.cal.valid, kind := .codeRefused }) ∧
  (∀ (e : CodeEntry) (key : BitVec 144) (f : Deciphered) (s : State), mainGood s = true →
    s.code.flight = some ⟨e, key, .judging (some f)⟩ → f.check = (7 * f.kind + 3 * f.issue + f.payload) % 4093 →
    let l := s.code.lockout.get e.port
    let other := match e.port with | .meter => Port.network | .network => .meter
    ∃ t, exec .codeJudging s = .next t ∧ t.code.lockout.get other = s.code.lockout.get other ∧
      (t.code.flight = none →
        t.code.lockout.get e.port = if l.failures = 5 ∧ l.penalty = 0 then { l with failures := 4 } else l)) ∧
  (∀ s : State, mainGood s = true →
    exec .penaltyDecrement s =
      .next
        { s.take .penaltyDecrement with
          code :=
            { s.code with
              lockout :=
                ⟨{ s.code.lockout.meter with penalty := s.code.lockout.meter.penalty - 1 },
                 { s.code.lockout.network with penalty := s.code.lockout.network.penalty - 1 }⟩ } }) ∧
  (∀ (p : Port) (s : State), mainGood s = true → (s.code.lockout.get p).failures = 5 →
    (s.code.lockout.get p).penalty = 0 →
    exec (.penaltyExpiry p) s =
      .next
        { s.take (.penaltyExpiry p) with
          code :=
            { s.code with lockout := s.code.lockout.set p { s.code.lockout.get p with failures := 4 } } })

/-- CODE_RESULT: where a ticket is found, and what is answered; a finished ticket is answered with its number, the outcome
code of 12.3, the code part and the share, each absent one as a presence byte of 0 and zeros (R85, R86; the order and widths of
the phase, the position and the result are the model's reading of R197, log entry 19). SET_CODE_FLOOR (R84; which of its two refusals comes first is the
model's choice, log entry 22). -/
def Obligations.TicketsAndFloor : Prop :=
  (∀ (p : Port) (k : Byte) (s : State), Ready p s →
    let c := Instr.codeResult p k
    let inQueue := fun e : CodeEntry => e.port = p ∧ e.ticket = k
    (∀ (before after : List CodeEntry) (e : CodeEntry), s.code.queue = before ++ e :: after → inQueue e →
      (∀ x ∈ before, ¬inQueue x) →
      exec c s = .next (respond p ⟨.pending, [4#8, BitVec.ofNat 8 (before.length + 1)]⟩ (s.take c))) ∧
    ((∀ x ∈ s.code.queue, ¬inQueue x) →
      (∀ fl, s.code.flight = some fl → inQueue fl.entry →
        exec c s =
          .next
            (respond p
              ⟨.pending,
               [match fl.phase with
                | .deciphering _ => 1#8
                | .judging _ => 2#8
                | .persisting _ _ _ => 3#8]⟩ (s.take c))) ∧
      ((∀ fl, s.code.flight = some fl → ¬inQueue fl.entry) →
        (∀ r, (s.code.results.get p).find? (fun x => x.ticket == k) = some r →
          let outcome : Byte :=
            match r.outcome with
            | .accepted => 0#8 | .malformed => 1#8 | .checkFailed => 2#8 | .unknownKind => 3#8 | .old => 4#8
            | .used => 5#8 | .invalidField => 6#8 | .overLimit => 7#8 | .debtLimit => 8#8 | .staleClearance => 9#8
            | .conditionPresent => 10#8
          let code :=
            match r.code with
            | some x => [1#8] ++ beNat 1 x.kind ++ beNat 3 x.issue ++ beNat 4 x.payload
            | none => List.replicate 9 0#8
          let share :=
            match r.share with
            | some d => [1#8] ++ beNat 8 d
            | none => List.replicate 9 0#8
          exec c s = .next (respond p ⟨.ok, [r.ticket, outcome] ++ code ++ share⟩ (s.take c))) ∧
        ((∀ r ∈ s.code.results.get p, r.ticket ≠ k) →
          exec c s = .next (respond p (.bare .unknownTicket) (s.take c)))))) ∧
  (∀ (m : BitVec 32) (s : State), Ready .network s →
    let c := Instr.setCodeFloor .network m
    (s.tariff.commissioned = true → exec c s = .next (respond .network (.bare .wrongState) (s.take c))) ∧
    (s.tariff.commissioned = false → 16777215 < m.toNat →
      exec c s = .next (respond .network (.bare .badArgument) (s.take c))) ∧
    (s.tariff.commissioned = false → m.toNat ≤ 16777215 →
      exec c s =
        .next
          (respond .network (.bare .ok)
            { s.take c with
              code := { s.code with accepted := [], lowMark := m.toNat },
              supmon := { s.supmon with request := true } })))

/-! ## 05: the supply switch -/

/-- A request on the demand set: no change of a member is no change; a change applies the rules of 5.3 to the state, and
touches nothing but SWITCH and its conditions: an opening starts from CLOSED, or abandons a closing, whose pulse in progress is
cut and recorded; under the fault flag a set that stays non-empty starts none (R92 to R97, R102). A request made while RESTORING is held, and one made in
MAIN_FAILED is not taken (R112, R113; log entry 28). -/
def Obligations.DemandRules : Prop :=
  (∀ (m : Member) (add : Bool) (s : State),
    let c := Instr.demandSetRequest m add
    (s.supmon.supply = .restoring → exec c s = .next { s with handed := s.handed ++ [c] }) ∧
    (s.supmon.supply = .mainFailed → exec c s = .next s)) ∧
  ∀ (m : Member) (add : Bool) (s : State), mainGood s = true →
    let c := Instr.demandSetRequest m add
    let ready := s.pins.crdy = true ∧ s.pins.cinhn = true ∧ s.supmon.brownOut = false
    let met := s.sw.deadCoil ≠ some .closeCoil ∨ 20 ≤ s.sw.deadMs
    (s.sw.set.has m = add → exec c s = .next (s.take c)) ∧
    (s.sw.set.has m ≠ add →
      ∃ t, exec c s = .next t ∧
        t.sw.set = s.sw.set.put m add ∧ t.sw.position = s.sw.position ∧ t.sw.fault = s.sw.fault ∧
        t.alert.conditions.armed = decide (t.sw.state = .armed) ∧
        (m = .credit → t.alert.conditions.creditExhausted = add) ∧
        t = { s.take c with sw := t.sw, alert := t.alert } ∧
        (add = true →
          (s.sw.state = .closed ∨ s.sw.state = .closing →
            t.sw.state = .opening ∧ t.sw.confirm = true ∧ t.sw.attempts = 0) ∧
          (s.sw.state = .closed →
            t.sw.deadCoil = s.sw.deadCoil ∧ t.sw.deadMs = s.sw.deadMs ∧
            t.sw.phase = some (if ready then (if met then .pulse else .deadTime) else .waitPermit)) ∧
          (s.sw.state = .closing → s.sw.phase = some .pulse →
            t.sw.deadCoil = some .closeCoil ∧ t.sw.deadMs = 0 ∧ t.sw.phase = some .deadTime) ∧
          (s.sw.state = .closing → s.sw.phase ≠ some .pulse →
            t.sw.deadCoil = s.sw.deadCoil ∧ t.sw.deadMs = s.sw.deadMs ∧
            t.sw.phase = some (if ready ∧ met then .pulse else .deadTime)) ∧
          (s.sw.state = .opened ∨ s.sw.state = .armed → t.sw.state = .opened ∧ t.sw.confirm = s.sw.confirm)) ∧
        (add = false → s.sw.state = .closed → s.sw.fault = true ∨ t.sw.set.isEmpty = true →
          t.sw = { s.sw with set := t.sw.set }) ∧
        (add = false → s.sw.state = .closing → t.sw.set.isEmpty = true →
          t.sw.state = .closing ∧ t.sw.confirm = s.sw.confirm) ∧
        (add = false → t.sw.set.isEmpty = true →
          (s.sw.state = .opened → s.sw.confirm = true → t.sw.state = .armed) ∧
          (s.sw.state = .opened → s.sw.confirm = false → t.sw.state = .closing ∧ t.sw.attempts = 0)) ∧
        (add = false → t.sw.set.isEmpty = false → s.sw.state = .opened → t.sw.state = .opened) ∧
        (s.sw.state = .opening ∨ s.sw.state = .unknown → t.sw.state = s.sw.state ∧ t.sw.confirm = s.sw.confirm))

/-- CRDY and CINHN: a permit lost in DEAD_TIME returns to WAIT_PERMIT; a fall of CINHN, not of CRDY, cuts a pulse; every
permit held in WAIT_PERMIT starts the pulse when the dead time is met (R96 to R99). The end of the 20 ms dead time starts the
pulse while every permit holds; the end of the 60 ms pulse counts the attempt and starts SETTLE (R97, R98). Without a permit
DEAD_TIME_END does nothing (log entry 18), and so does an end before its time (log entry 4). An idle part takes the end of
the dead time at 20 ms, of the pulse at 60 ms and of SETTLE at 100 ms (R97, R98; the idle millisecond is log entry 3). That
the operation timer of a cut pulse goes back to 0 is log entry 36. -/
def Obligations.PermitsAndPhases : Prop :=
  (∀ (high : Bool) (coil : Coil) (s : State), s.sw.coil = some coil →
    (mainGood s = true →
      (∃ t, exec (.crdyChange high) s = .next t ∧
        t = { s with pins := { s.pins with crdy := high }, sw := t.sw, alert := t.alert } ∧
        (high = false → s.sw.phase = some .pulse → t.sw = s.sw) ∧
        (high = false → s.sw.phase = some .deadTime → t.sw = { s.sw with phase := some .waitPermit }) ∧
        (high = true → s.sw.phase = some .waitPermit → s.pins.cinhn = true → s.supmon.brownOut = false →
          (coil = .closeCoil → s.sw.holdOff.running = false) →
          (s.sw.deadCoil = none ∨ s.sw.deadCoil = some coil ∨ 20 ≤ s.sw.deadMs →
            t.sw = { s.sw with phase := some .pulse, opTimer := .started }) ∧
          (s.sw.deadCoil ≠ none → s.sw.deadCoil ≠ some coil → s.sw.deadMs < 20 →
            t.sw = { s.sw with phase := some .deadTime })) ∧
        (s.sw.phase = some .settle → t.sw = s.sw)) ∧
      (∃ t, exec (.cinhnChange high) s = .next t ∧
        t = { s with pins := { s.pins with cinhn := high }, sw := t.sw, alert := t.alert } ∧
        (high = false → s.sw.phase = some .pulse →
          t.sw =
            { s.sw with phase := some .waitPermit, deadCoil := some coil, deadMs := 0, opTimer := .stopped }) ∧
        (high = false → s.sw.phase = some .deadTime → t.sw = { s.sw with phase := some .waitPermit }) ∧
        (high = true → s.sw.phase = some .waitPermit → s.pins.crdy = true → s.supmon.brownOut = false →
          (coil = .closeCoil → s.sw.holdOff.running = false) →
          (s.sw.deadCoil = none ∨ s.sw.deadCoil = some coil ∨ 20 ≤ s.sw.deadMs →
            t.sw = { s.sw with phase := some .pulse, opTimer := .started }) ∧
          (s.sw.deadCoil ≠ none → s.sw.deadCoil ≠ some coil → s.sw.deadMs < 20 →
            t.sw = { s.sw with phase := some .deadTime })) ∧
        (s.sw.phase = some .settle → t.sw = s.sw))) ∧
    (mainGood s = false →
      exec (.crdyChange high) s = .next { s with pins := { s.pins with crdy := high } } ∧
      exec (.cinhnChange high) s = .next { s with pins := { s.pins with cinhn := high } })) ∧
  ((∀ s : State, mainGood s = true → s.sw.phase = some .deadTime → hasPermits s = true →
    (s.sw.deadCoil = none ∨ s.sw.deadCoil = s.sw.coil ∨ 20 ≤ s.sw.deadMs →
      ∃ t, exec .deadTimeEnd s = .next t ∧
        t.sw = { s.sw with phase := some .pulse, opTimer := .started } ∧
        t = { s.take .deadTimeEnd with sw := t.sw, alert := t.alert }) ∧
    (s.sw.deadCoil ≠ none → s.sw.deadCoil ≠ s.sw.coil → s.sw.deadMs < 20 →
      exec .deadTimeEnd s = .next (s.take .deadTimeEnd))) ∧
  (∀ s : State, mainGood s = true → s.sw.phase ≠ some .deadTime ∨ hasPermits s = false →
    exec .deadTimeEnd s = .next (s.take .deadTimeEnd)) ∧
  (∀ s : State, mainGood s = true →
    s.sw.phase ≠ some .pulse ∨ s.sw.opTimer.running = false ∨ s.sw.opTimer.ms < 60 →
    exec .pulseEnd s = .next (s.take .pulseEnd)) ∧
  (∀ s : State, Idle s →
    ∃ t, step s = .next t ∧ t.sw.phase = s.sw.phase ∧
      (s.sw.phase = some .pulse → Counts 60 s.sw.opTimer t.sw.opTimer) ∧
      (s.sw.phase = some .settle → Counts 100 s.sw.opTimer t.sw.opTimer) ∧
      (s.sw.phase = some .deadTime → hasPermits s = true → s.sw.deadMs < 20 ∧ t.sw.deadMs = s.sw.deadMs + 1)) ∧
  (∀ s : State, mainGood s = true → s.sw.phase = some .pulse → s.sw.opTimer.running = true → 60 ≤ s.sw.opTimer.ms →
    exec .pulseEnd s =
      .next
        { s.take .pulseEnd with
          sw :=
            { s.sw with
              phase := some .settle, attempts := s.sw.attempts + 1, deadCoil := s.sw.coil, deadMs := 0,
              opTimer := .started } }))

/-- The check at the end of the 100 ms of SETTLE: success, a further attempt, or a relay fault after the third, whose
RELAY_FAULT record comes before the RELAY_CLOSED or RELAY_OPENED record and the SUPPLY_CHANGED alert of a believed position that
it changes (R95, R98, R100, R101, R103, R140; the order of the two records is log entry 43). An end before its time does nothing (log entry 4). -/
def Obligations.SettleChecks : Prop :=
  (∀ s : State, mainGood s = true →
    s.sw.phase ≠ some .settle ∨ s.sw.opTimer.running = false ∨ s.sw.opTimer.ms < 100 →
    exec .settleEnd s = .next (s.take .settleEnd)) ∧
  ∀ s : State, mainGood s = true → s.sw.phase = some .settle → s.sw.opTimer.running = true → 100 ≤ s.sw.opTimer.ms →
    (s.sw.state = .opening ∨ s.sw.state = .closing) →
    let target := if s.sw.state = .closing then Position.closed else .opened
    let shown := if s.pins.lsense = true then Position.closed else .opened
    let relay := fun after : Position => RelayPart.mk s.sw.position after s.sw.set s.sw.attempts
    let moved : Record :=
      { time := s.cal.t, valid := s.cal.valid, kind := if shown = .closed then .relayClosed else .relayOpened,
        relay := some (relay shown) }
    let staged :=
      s.log.stageFrom s.sw.waiting 2
        { time := s.cal.t, valid := s.cal.valid, kind := .relayFault, relay := some (relay shown),
          energy := some s.totals.imported }
    let waits := decide (s.tamper.hold ≠ [] ∨ staged.1 ≠ [] ∨ s.cal.hold ≠ [])
    ∃ t, exec .settleEnd s = .next t ∧
      t = { s.take .settleEnd with sw := t.sw, log := t.log, alert := t.alert } ∧ t.sw.set = s.sw.set ∧
      (shown = target →
        t.sw.position = target ∧ t.sw.fault = false ∧
        (s.sw.state = .closing → s.sw.set.isEmpty = true → t.sw.state = .closed ∧ t.sw.phase = none) ∧
        (s.sw.state = .opening → s.sw.set.isEmpty = false → t.sw.state = .opened ∧ t.sw.phase = none) ∧
        (s.sw.state = .opening → s.sw.set.isEmpty = true → s.sw.confirm = true → t.sw.state = .armed) ∧
        (s.sw.state = .opening → s.sw.set.isEmpty = true → s.sw.confirm = false → t.sw.state = .closing) ∧
        (s.sw.position = target → t.log = s.log) ∧
        (s.sw.position ≠ target →
          t.log =
              s.log.offerRoutine (evidenceWaiting s)
                { time := s.cal.t, valid := s.cal.valid,
                  kind := if target = .closed then .relayClosed else .relayOpened, relay := some (relay target) } ∧
            Signalled (.latched .supplyChanged) s.alert.ports.meter t.alert.ports.meter ∧
            Signalled (.latched .supplyChanged) s.alert.ports.network t.alert.ports.network)) ∧
      (shown ≠ target → s.sw.attempts < 3 →
        t.sw.state = s.sw.state ∧ t.sw.attempts = s.sw.attempts ∧ t.sw.position = s.sw.position ∧ t.log = s.log ∧
        t.sw.phase ≠ some .settle ∧ t.sw.phase ≠ none) ∧
      (shown ≠ target → 3 ≤ s.sw.attempts →
        t.sw.fault = true ∧ t.sw.position = shown ∧ t.sw.phase = none ∧
        (s.sw.state = .opening → t.sw.state = .closed) ∧
        (s.sw.state = .closing → t.sw.state = .armed ∧ t.sw.confirm = true) ∧
        Signalled (.latched .relayFault) s.alert.ports.meter t.alert.ports.meter ∧
        Signalled (.latched .relayFault) s.alert.ports.network t.alert.ports.network ∧
        t.sw.waiting = staged.1 ∧ (s.sw.position = shown → t.log = staged.2) ∧
        (s.sw.position ≠ shown →
          t.log = staged.2.offerRoutine waits moved ∧
            Signalled (.latched .supplyChanged) s.alert.ports.meter t.alert.ports.meter ∧
            Signalled (.latched .supplyChanged) s.alert.ports.network t.alert.ports.network))

/-- CONFIRM_RECONNECT, REMOTE_OPEN and REMOTE_RELEASE (R104 to R106). A member in the set of a CLOSED switch without the fault
flag, or of one in CLOSING, is ruled out by the invariant SwitchSafe. -/
def Obligations.ReconnectOrders : Prop :=
  (∀ s : State, Ready .meter s →
    let c := Instr.confirmReconnect .meter
    (s.sw.state = .armed →
      ∃ t, exec c s = .next (respond .meter (.bare .ok) t) ∧
        t.sw.state = .closing ∧ t.sw.confirm = false ∧ t.sw.attempts = 0 ∧ t.sw.set = s.sw.set ∧
        t.alert.conditions.armed = false ∧ t = { s.take c with sw := t.sw, alert := t.alert }) ∧
    (s.sw.state ≠ .armed → exec c s = .next (respond .meter (.bare .notArmed) (s.take c)))) ∧
  (∀ s : State, Ready .network s →
    let c := Instr.remoteOpen .network
    ∃ t, exec c s = .next (respond .network (.bare .ok) t) ∧
      t.sw.set = { s.sw.set with remote := true } ∧ t = { s.take c with sw := t.sw, alert := t.alert } ∧
      (s.sw.set.remote = true → t = s.take c) ∧
      (s.sw.set.remote = false →
        (s.sw.state = .closed ∨ s.sw.state = .closing → t.sw.state = .opening ∧ t.sw.confirm = true) ∧
        (s.sw.state = .opened ∨ s.sw.state = .armed → t.sw.state = .opened ∧ t.sw.confirm = s.sw.confirm))) ∧
  (∀ (mode : Byte) (s : State), Ready .network s →
    let c := Instr.remoteRelease .network mode
    (1 < mode.toNat → exec c s = .next (respond .network (.bare .badArgument) (s.take c))) ∧
    (mode.toNat ≤ 1 →
      ∃ t, exec c s = .next (respond .network (.bare .ok) t) ∧
        t.sw.set = { s.sw.set with remote := false } ∧ t = { s.take c with sw := t.sw, alert := t.alert } ∧
        (s.sw.state = .opened → t.sw.set.isEmpty = true →
          t.sw.state = if mode = 0#8 ∧ s.sw.confirm = true then .armed else .closing) ∧
        (s.sw.state = .opened → t.sw.set.isEmpty = false → t.sw.state = .opened) ∧
        (s.sw.state = .armed → t.sw.set.isEmpty = true →
          t.sw.state = if mode = 0#8 ∧ s.sw.confirm = true then .armed else .closing) ∧
        (s.sw.state = .opening ∨ s.sw.state = .unknown → t.sw.state = s.sw.state) ∧
        (s.sw.state = .closed → t.sw.set.isEmpty = true ∨ s.sw.fault = true →
          t.sw = { s.sw with set := t.sw.set, confirm := t.sw.confirm }) ∧
        (s.sw.state = .closing → t.sw.set.isEmpty = true → t.sw.state = .closing ∧ t.sw.attempts = s.sw.attempts) ∧
        ((s.sw.state ≠ .closed ∧ s.sw.state ≠ .closing) ∨ t.sw.set.isEmpty = true ∨
            (s.sw.state = .closed ∧ s.sw.fault = true) →
          t.sw.confirm = (s.sw.confirm && decide (mode = 0#8)))))

/-- The end of the 10 s hold-off releases closings; an overload signal adds OVERLOAD and starts its timer from 0; the
comparison of a powered second that finds the count at or above the restore delay removes it (R96, R107, R108). While the
switch rests open, three reports with energy are a relay fault, with a RELAY_CLOSED record and SUPPLY_CHANGED where the believed
position changes (R103, R109; that RELAY_FAULT comes first is log entry 43), and a load-side voltage of 2 s is a BYPASS event (R110).
An expiry before its time does nothing (log entry 4), so an overload signal taken before the comparison keeps OVERLOAD; an
idle part takes each expiry at its limit (the idle millisecond is log entry 3); the count at which the ended hold-off rests,
10 s, and the one of the ended overload timer are log entry 36, and what the bypass timer keeps in CLOSED is log entry 33. -/
def Obligations.TimersAndWatches : Prop :=
  ((∀ s : State, mainGood s = true →
    s.sw.holdOff.running = false ∨ s.sw.holdOff.ms < 10000 ∨ s.supmon.brownOut = true →
    exec .holdOffEnd s = .next (s.take .holdOffEnd)) ∧
  (∀ s : State, mainGood s = true →
    s.sw.overload.running = false ∨ s.sw.overload.ms % 1000 ≠ 0 ∨
      s.sw.overload.ms / 1000 < s.active.policy.restoreDelay →
    exec .overloadRestoreExpiry s = .next (s.take .overloadRestoreExpiry)) ∧
  (∀ s : State, mainGood s = true →
    s.sw.bypass.running = false ∨ s.sw.bypass.ms < 2000 ∨ s.sw.bypassRaised = true →
    exec .bypassTimerExpiry s = .next (s.take .bypassTimerExpiry)) ∧
  (∀ s : State, Idle s →
    ∃ t, step s = .next t ∧ Counts 2000 s.sw.bypass t.sw.bypass ∧
      (s.supmon.brownOut = false → Counts 10000 s.sw.holdOff t.sw.holdOff) ∧
      (s.supmon.brownOut = true → t.sw.holdOff = s.sw.holdOff) ∧
      (s.sw.overload.running = true → s.sw.overload.ms < 3600000 →
        (s.sw.overload.ms % 1000 = 0 → s.sw.overload.ms / 1000 < s.active.policy.restoreDelay) ∧
        t.sw.overload = { running := true, ms := s.sw.overload.ms + 1 })) ∧
  (∀ s : State, mainGood s = true → s.sw.holdOff.running = true → 10000 ≤ s.sw.holdOff.ms → s.supmon.brownOut = false →
    ∃ t, exec .holdOffEnd s = .next t ∧ t.sw.holdOff = { running := false, ms := 10000 } ∧
      t.sw.state = s.sw.state ∧ t.sw.set = s.sw.set ∧ t = { s.take .holdOffEnd with sw := t.sw, alert := t.alert } ∧
      (s.sw.state = .closing → s.sw.phase = some .waitPermit → s.pins.crdy = true → s.pins.cinhn = true →
        s.sw.deadCoil = none → t.sw.phase = some .pulse)) ∧
  (∀ s : State, mainGood s = true →
    ∃ t, exec .overloadSignal s = .next t ∧ t.sw.overload = .started ∧
      t.sw.set = { s.sw.set with overload := true } ∧ t = { s.take .overloadSignal with sw := t.sw, alert := t.alert } ∧
      (s.sw.set.overload = true → t.sw = { s.sw with overload := .started } ∧ t.alert = s.alert) ∧
      (s.sw.set.overload = false → s.sw.state = .closed → t.sw.state = .opening ∧ t.sw.confirm = true)) ∧
  (∀ s : State, mainGood s = true → s.sw.overload.running = true → s.sw.overload.ms % 1000 = 0 →
    s.active.policy.restoreDelay ≤ s.sw.overload.ms / 1000 →
    ∃ t, exec .overloadRestoreExpiry s = .next t ∧ t.sw.overload = { s.sw.overload with running := false } ∧
      t.sw.set = { s.sw.set with overload := false } ∧
      t = { s.take .overloadRestoreExpiry with sw := t.sw, alert := t.alert })) ∧
  ((∀ s : State, mainGood s = true → (s.sw.state = .opened ∨ s.sw.state = .armed) → s.sw.fault = false →
    3 ≤ s.sw.streak →
    let shown := if s.pins.lsense = true then Position.closed else .opened
    let relay : RelayPart := ⟨s.sw.position, shown, s.sw.set, 0⟩
    let moved : Record :=
      { time := s.cal.t, valid := s.cal.valid, kind := if shown = .closed then .relayClosed else .relayOpened,
        relay := some relay }
    let staged :=
      s.log.stageFrom s.sw.waiting 2
        { time := s.cal.t, valid := s.cal.valid, kind := .relayFault, relay := some relay,
          energy := some s.totals.imported }
    let waits := decide (s.tamper.hold ≠ [] ∨ staged.1 ≠ [] ∨ s.cal.hold ≠ [])
    ∃ t, exec .energyWhileOpenDetect s = .next t ∧
      t.sw.fault = true ∧ t.sw.streak = 0 ∧ t.sw.position = shown ∧ t.sw.set = s.sw.set ∧
      t.sw.state = (if s.pins.lsense = true then .closed else s.sw.state) ∧
      t.sw.bypassRaised = s.sw.bypassRaised ∧
      t.sw.bypass = { s.sw.bypass with running := s.sw.bypass.running && !s.pins.lsense } ∧
      Signalled (.latched .relayFault) s.alert.ports.meter t.alert.ports.meter ∧
      Signalled (.latched .relayFault) s.alert.ports.network t.alert.ports.network ∧
      t.sw.waiting = staged.1 ∧ (s.sw.position = shown → t.log = staged.2) ∧
      (s.sw.position ≠ shown →
        t.log = staged.2.offerRoutine waits moved ∧
          Signalled (.latched .supplyChanged) s.alert.ports.meter t.alert.ports.meter ∧
          Signalled (.latched .supplyChanged) s.alert.ports.network t.alert.ports.network) ∧
      t = { s.take .energyWhileOpenDetect with sw := t.sw, log := t.log, alert := t.alert }) ∧
  (∀ s : State, mainGood s = true →
    exec (.lsenseChange false) s =
        .next
          { s with pins := { s.pins with lsense := false },
                   sw := { s.sw with bypass := .stopped, bypassRaised := false } } ∧
      exec (.lsenseChange true) s =
        .next
          { s with
            pins := { s.pins with lsense := true },
            sw :=
              { s.sw with
                bypass :=
                  if (s.sw.state = .opened ∨ s.sw.state = .armed) ∧ s.sw.bypass.running = false ∧
                    s.sw.bypassRaised = false
                  then .started else s.sw.bypass } }) ∧
  (∀ s : State, mainGood s = true → s.sw.bypass.running = true → 2000 ≤ s.sw.bypass.ms → s.sw.bypassRaised = false →
    exec .bypassTimerExpiry s =
      .next
        { s with
          sw := { s.sw with bypass := { running := false, ms := 2000 }, bypassRaised := true },
          handed := (s.take .bypassTimerExpiry).handed ++ [.tamperEvent .bypass] }))

/-! ## 06: tamper detection -/

/-- A tamper event of any kind: its number, its lock, the TAMPER member, its record with the number and the import total, the
alert on both ports and the checkpoint request; at saturation a locking event still locks (R116, R125 to R129; that TS_clear
moves down only for a kind in the mask, and only when TS and TS_clear both stand at the top, is the model's reading of R127,
log entry 17). -/
def Obligations.TamperEventNumbered : Prop :=
  ∀ (k : TamperKind) (s : State), mainGood s = true →
    let c := Instr.tamperEvent k
    let n := min (s.tamper.ts + 1) max32
    let locks := s.active.policy.lockout.getLsbD (tamperKindCode k - 1)
    let r : Record :=
      { time := s.cal.t, valid := s.cal.valid, kind := .tamper, tamper := some ⟨n, some k⟩,
        energy := some s.totals.imported }
    ∃ t, exec c s = .next t ∧
      t.tamper.ts = n ∧ t.tamper.tsLock = (if locks then n else s.tamper.tsLock) ∧
      t.tamper.tsClear =
        (if locks = true ∧ s.tamper.ts = max32 ∧ s.tamper.tsClear = max32 then max32 - 1 else s.tamper.tsClear) ∧
      t.tamper.hold = (s.log.stageFrom s.tamper.hold 8 r).1 ∧ t.log = (s.log.stageFrom s.tamper.hold 8 r).2 ∧
      (t.tamper.tsClear < t.tamper.tsLock → t.sw.set = { s.sw.set with tamper := true }) ∧
      (t.tamper.tsLock ≤ t.tamper.tsClear → t.sw = s.sw) ∧
      (locks = true → s.tamper.tsClear ≤ s.tamper.ts → s.tamper.ts ≤ max32 → t.sw.set.tamper = true) ∧
      Signalled (.latched .tamper) s.alert.ports.meter t.alert.ports.meter ∧
      Signalled (.latched .tamper) s.alert.ports.network t.alert.ports.network ∧
      t =
        { s.take c with
          tamper := { s.tamper with ts := t.tamper.ts, tsLock := t.tamper.tsLock, tsClear := t.tamper.tsClear,
                                    hold := t.tamper.hold },
          sw := t.sw, log := t.log, alert := t.alert, supmon := { s.supmon with request := true } }

/-- The cover watch while main power is good: an input that differs from the debounced position starts the timer and one
that agrees makes it idle; at its end, after 20 ms, the position follows, and an opening is one event of the input's kind
(R117, R118). One backup sample of both inputs, 250 ms after the last one, while the main domain is stopped: an opening since
the last sample sets a latch that is clear, with the time and the flag of the sample, and every sample becomes the last one
(R119; that the first sample comes 250 ms after the stop is log entry 38). An expiry or a sample before its time does nothing
(log entry 4), and a step of an idle part is one millisecond (log entry 3); the count 0 of an idle debounce timer is log entry
36. -/
def Obligations.CoversWatched : Prop :=
  (∀ (i : CoverInput) (reading : CoverPos) (s : State), mainGood s = true →
    (∃ t, exec (.coverInputChange i reading) s = .next t ∧
      t = { s with pins := { s.pins with covers := s.pins.covers.set i reading }, tamper := t.tamper } ∧
      t.tamper = { s.tamper with debounce := t.tamper.debounce } ∧
      (reading = s.tamper.debounced.get i → t.tamper.debounce.get i = .stopped) ∧
      (reading ≠ s.tamper.debounced.get i → (s.tamper.debounce.get i).running = false →
        t.tamper.debounce.get i = .started) ∧
      (reading ≠ s.tamper.debounced.get i → (s.tamper.debounce.get i).running = true →
        t.tamper.debounce = s.tamper.debounce)) ∧
    ((s.tamper.debounce.get i).running = false ∨ (s.tamper.debounce.get i).ms < 20 →
      exec (.debounceExpiry i) s = .next (s.take (.debounceExpiry i))) ∧
    (Idle s → ∃ t, step s = .next t ∧ Counts 20 (s.tamper.debounce.get i) (t.tamper.debounce.get i)) ∧
    ((s.tamper.debounce.get i).running = true → 20 ≤ (s.tamper.debounce.get i).ms → s.pins.covers.get i = reading →
      ∃ t, exec (.debounceExpiry i) s = .next t ∧
        t.tamper.debounced.get i = reading ∧ t.tamper.debounce.get i = .stopped ∧
        (reading = .closed ∨ s.tamper.debounced.get i = .opened →
          t.tamper.ts = s.tamper.ts ∧ t.tamper.latch = s.tamper.latch ∧
          t = { s.take (.debounceExpiry i) with tamper := t.tamper }) ∧
        (reading = .opened → s.tamper.debounced.get i = .closed →
          t.tamper.ts = min (s.tamper.ts + 1) max32 ∧ t.tamper.latch.get i = none ∧
          Signalled (.latched .tamper) s.alert.ports.meter t.alert.ports.meter ∧
          t.supmon = { s.supmon with request := true } ∧
          (s.tamper.latch.get i = none → s.tamper.hold = [] → ∀ n, s.log.next = some n → s.log.staging.length < 8 →
            t.log.staging =
              s.log.staging ++
                [⟨n,
                  { time := s.cal.t, valid := s.cal.valid, kind := .tamper,
                    tamper :=
                      some ⟨t.tamper.ts, some (match i with | .cover => .coverOpen | .terminal => .tcoverOpen)⟩,
                    energy := some s.totals.imported }⟩])))) ∧
  (∀ s : State, mainGood s = true ∨ s.tamper.sampling.running = false ∨ s.tamper.sampling.ms < 250 →
    exec .backupCoverSample s = .next s) ∧
  (∀ s : State, s.supmon.supply ≠ .mainGood → s.tamper.sampling.running = true → 250 ≤ s.tamper.sampling.ms →
    ∃ t, exec .backupCoverSample s = .next t ∧
      t.tamper.lastSample = s.pins.covers ∧
      (∀ i, t.tamper.latch.get i =
        if s.pins.covers.get i = .opened ∧ s.tamper.lastSample.get i = .closed ∧ s.tamper.latch.get i = none then
          some ⟨s.cal.t, s.cal.valid⟩
        else s.tamper.latch.get i) ∧
      t =
        { s with tamper := { s.tamper with latch := t.tamper.latch, lastSample := t.tamper.lastSample,
                                           sampling := .started } })

/-- The magnetic watch: MAGS starts and stops the presence and release timers; 2 s of a source is an event of kind MAGNETIC,
with its number, its lock under bit 2 of the mask, its record, its alerts and its checkpoint request, and makes the condition
active; 10 s without one ends it (R122 to R124, R126, R128, R129; TS_clear at saturation is log entry 17). An expiry before its time does nothing (log entry 4), and an
idle part takes each at its limit (the idle millisecond is log entry 3); the count 0 of the timer whose expiry stopped it is
log entry 36. -/
def Obligations.MagneticWatched : Prop :=
  (∀ (high : Bool) (s : State), mainGood s = true →
    ∃ t, exec (.magsChange high) s = .next t ∧
      t = { s with pins := { s.pins with mags := high },
                   tamper := { s.tamper with presence := t.tamper.presence, release := t.tamper.release } } ∧
      (s.tamper.magnetic = false → high = false → s.tamper.feFlag = false → t.tamper.presence = .stopped) ∧
      (s.tamper.magnetic = false → (high = true ∨ s.tamper.feFlag = true) →
        t.tamper.presence = if s.tamper.presence.running = true then s.tamper.presence else .started) ∧
      (s.tamper.magnetic = true → (high = true ∨ s.tamper.feFlag = true) → t.tamper.release = .stopped) ∧
      (s.tamper.magnetic = true → high = false → s.tamper.feFlag = false →
        t.tamper.release = if s.tamper.release.running = true then s.tamper.release else .started)) ∧
  (∀ s : State, mainGood s = true →
    (s.tamper.presence.running = false ∨ s.tamper.presence.ms < 2000 →
      exec .magneticPresenceExpiry s = .next (s.take .magneticPresenceExpiry)) ∧
    (s.tamper.release.running = false ∨ s.tamper.release.ms < 10000 →
      exec .magneticReleaseExpiry s = .next (s.take .magneticReleaseExpiry))) ∧
  (∀ s : State, Idle s →
    ∃ t, step s = .next t ∧ Counts 2000 s.tamper.presence t.tamper.presence ∧
      Counts 10000 s.tamper.release t.tamper.release) ∧
  (∀ s : State, mainGood s = true → s.tamper.presence.running = true → 2000 ≤ s.tamper.presence.ms →
    let n := min (s.tamper.ts + 1) max32
    let locks := s.active.policy.lockout.getLsbD 2
    let r : Record :=
      { time := s.cal.t, valid := s.cal.valid, kind := .tamper, tamper := some ⟨n, some .magnetic⟩,
        energy := some s.totals.imported }
    ∃ t, exec .magneticPresenceExpiry s = .next t ∧
      t.tamper.tsLock = (if locks = true then n else s.tamper.tsLock) ∧
      t.tamper.tsClear =
        (if locks = true ∧ s.tamper.ts = max32 ∧ s.tamper.tsClear = max32 then max32 - 1 else s.tamper.tsClear) ∧
      t.tamper.hold = (s.log.stageFrom s.tamper.hold 8 r).1 ∧ t.log = (s.log.stageFrom s.tamper.hold 8 r).2 ∧
      t.tamper =
        { s.tamper with
          magnetic := true, presence := .stopped, release := .stopped, ts := n, tsLock := t.tamper.tsLock,
          tsClear := t.tamper.tsClear, hold := t.tamper.hold } ∧
      (t.tamper.tsClear < t.tamper.tsLock → t.sw.set = { s.sw.set with tamper := true }) ∧
      (t.tamper.tsLock ≤ t.tamper.tsClear → t.sw = s.sw) ∧
      Signalled (.latched .tamper) s.alert.ports.meter t.alert.ports.meter ∧
      Signalled (.latched .tamper) s.alert.ports.network t.alert.ports.network ∧
      t = { s.take .magneticPresenceExpiry with tamper := t.tamper, sw := t.sw, log := t.log, alert := t.alert,
                                                supmon := { s.supmon with request := true } }) ∧
  (∀ s : State, mainGood s = true → s.tamper.release.running = true → 10000 ≤ s.tamper.release.ms →
    exec .magneticReleaseExpiry s =
      .next
        { s.take .magneticReleaseExpiry with
          tamper :=
            { s.tamper with
              magnetic := false, release := .stopped,
              presence :=
                if s.pins.mags = true ∨ s.tamper.feFlag = true then
                  (if s.tamper.presence.running = true then s.tamper.presence else .started)
                else .stopped } })

/-- REMOTE_TAMPER_CLEAR: the three tests in their order, each with its status, outcome and sequences, and what an applied
clearance does (R130, R131, R133; the order and widths of the answer's outcome and sequences are the model's reading of R197,
log entry 19). -/
def Obligations.RemoteClearance : Prop :=
  ∀ (x : BitVec 32) (s : State), Ready .network s →
    let c := Instr.remoteTamperClear .network x
    let barred :=
      (s.active.policy.lockout.getLsbD 0 = true ∧ s.tamper.debounced.cover = .opened) ∨
      (s.active.policy.lockout.getLsbD 1 = true ∧ s.tamper.debounced.terminal = .opened) ∨
      (s.active.policy.lockout.getLsbD 2 = true ∧ s.tamper.magnetic = true)
    let sequences := beNat 4 s.tamper.ts ++ beNat 4 s.tamper.tsLock
    (s.tamper.ts < x.toNat →
      exec c s = .next (respond .network ⟨.badArgument, 6#8 :: sequences ++ beNat 4 s.tamper.tsClear⟩ (s.take c))) ∧
    (x.toNat ≤ s.tamper.ts → x.toNat < s.tamper.tsLock →
      exec c s = .next (respond .network ⟨.stale, 9#8 :: sequences ++ beNat 4 s.tamper.tsClear⟩ (s.take c))) ∧
    (x.toNat ≤ s.tamper.ts → s.tamper.tsLock ≤ x.toNat → barred →
      exec c s =
        .next (respond .network ⟨.conditionPresent, 10#8 :: sequences ++ beNat 4 s.tamper.tsClear⟩ (s.take c))) ∧
    (x.toNat ≤ s.tamper.ts → s.tamper.tsLock ≤ x.toNat → ¬barred →
      let r : Record := { time := s.cal.t, valid := s.cal.valid, kind := .tamperCleared, tamper := some ⟨x.toNat, none⟩ }
      ∃ t, exec c s = .next (respond .network ⟨.ok, 0#8 :: sequences ++ beNat 4 x.toNat⟩ t) ∧
        t.tamper = { s.tamper with tsClear := x.toNat, hold := (s.log.stageFrom s.tamper.hold 8 r).1 } ∧
        t.log = (s.log.stageFrom s.tamper.hold 8 r).2 ∧ t.sw.set = { s.sw.set with tamper := false } ∧
        (s.sw.set.tamper = false → t.sw = s.sw) ∧
        t = { s.take c with tamper := t.tamper, log := t.log, sw := t.sw, alert := t.alert,
                            supmon := { s.supmon with request := true } })

/-- A CLEAR_TAMPER code is judged by the same tests and applied in the same way, with its code part in the record, before
CODE's own record (R79, R81, R130 to R132). -/
def Obligations.ClearanceCodeApplied : Prop :=
  ∀ (e : CodeEntry) (key : BitVec 144) (f : Deciphered) (s : State), mainGood s = true →
    s.code.flight = some ⟨e, key, .judging (some f)⟩ → f.kind = 3 → PassesTests f s →
    let part : CodePart := ⟨3, f.issue, f.payload⟩
    let result := fun o : CodeOutcome => some (CodeResult.mk e.ticket o (some part) none)
    let barred :=
      (s.active.policy.lockout.getLsbD 0 = true ∧ s.tamper.debounced.cover = .opened) ∨
      (s.active.policy.lockout.getLsbD 1 = true ∧ s.tamper.debounced.terminal = .opened) ∨
      (s.active.policy.lockout.getLsbD 2 = true ∧ s.tamper.magnetic = true)
    ∃ t, exec .codeJudging s = .next t ∧ t.bill = s.bill ∧
      (s.tamper.ts < f.payload →
        (t.code.results.get e.port).getLast? = result .invalidField ∧ t.tamper = s.tamper ∧ t.sw = s.sw) ∧
      (f.payload ≤ s.tamper.ts → f.payload < s.tamper.tsLock →
        (t.code.results.get e.port).getLast? = result .staleClearance ∧ t.tamper = s.tamper ∧ t.sw = s.sw) ∧
      (f.payload ≤ s.tamper.ts → s.tamper.tsLock ≤ f.payload → barred →
        (t.code.results.get e.port).getLast? = result .conditionPresent ∧ t.tamper = s.tamper ∧ t.sw = s.sw) ∧
      (f.payload ≤ s.tamper.ts → s.tamper.tsLock ≤ f.payload → ¬barred →
        let r : Record :=
          { time := s.cal.t, valid := s.cal.valid, kind := .tamperCleared, tamper := some ⟨f.payload, none⟩,
            code := some part }
        t.tamper = { s.tamper with tsClear := f.payload, hold := (s.log.stageFrom s.tamper.hold 8 r).1 } ∧
        t.sw.set = { s.sw.set with tamper := false } ∧
        t.log =
          (s.log.stageFrom s.tamper.hold 8 r).2.offerRoutine (evidenceWaiting { s with tamper := t.tamper })
            { time := s.cal.t, valid := s.cal.valid, kind := .codeAccepted, code := some part } ∧
        t.code.flight = some ⟨e, key, .persisting part none false⟩ ∧ t.supmon = { s.supmon with request := true })

/-! ## 07: the evidence log -/

/-- An offer of a routine record, and of evidence by its origin (R139, R140). Evidence goes into the queue when nothing waits
and there is room, else behind what waits, and into the overflow count when the hold is full or the numbers are exhausted
(R101, R128, R140, R159). An origin's oldest waiting record takes a free place, and waits on while there is none (R141). -/
def Obligations.EvidenceOffered : Prop :=
  ((∀ (r : Record) (s : State), isEvidence r.kind = false →
    let c := Instr.recordOffer r
    let waits := s.tamper.hold ≠ [] ∨ s.sw.waiting ≠ [] ∨ s.cal.hold ≠ []
    (∀ n, s.log.next = some n → s.log.staging.length < 8 → ¬waits →
      exec c s =
        .next
          { s.take c with
            log :=
              { s.log with
                staging := s.log.staging ++ [⟨n, r⟩], next := if n = 4294967295 then none else some (n + 1) } }) ∧
    (8 ≤ s.log.staging.length ∨ waits ∨ s.log.next = none →
      exec c s = .next { s.take c with log := { s.log with dropped := min (s.log.dropped + 1) 65535 } })) ∧
  (∀ (r : Record) (s : State), mainGood s = true →
    let c := Instr.recordOffer r
    (r.kind = .tamper ∨ r.kind = .tamperCleared →
      exec c s =
        .next
          { s.take c with
            tamper := { s.tamper with hold := (s.log.stageFrom s.tamper.hold 8 r).1 },
            log := (s.log.stageFrom s.tamper.hold 8 r).2 }) ∧
    (r.kind = .relayFault →
      exec c s =
        .next
          { s.take c with
            sw := { s.sw with waiting := (s.log.stageFrom s.sw.waiting 2 r).1 },
            log := (s.log.stageFrom s.sw.waiting 2 r).2 }) ∧
    (r.kind = .clockSet →
      exec c s =
        .next
          { s.take c with
            cal := { s.cal with hold := (s.log.stageFrom s.cal.hold 4 r).1 },
            log := (s.log.stageFrom s.cal.hold 4 r).2 }))) ∧
  (∀ (l : EvidenceLog) (hold : List Record) (cap : Nat) (r : Record),
    (hold = [] → ∀ n, l.next = some n → l.staging.length < 8 →
      l.stageFrom hold cap r =
        (hold, { l with staging := l.staging ++ [⟨n, r⟩], next := if n = max32 then none else some (n + 1) })) ∧
    (hold = [] → ∀ n, l.next = some n → 8 ≤ l.staging.length → l.stageFrom hold cap r = ([r], l)) ∧
    (hold = [] → l.next = none →
      l.stageFrom hold cap r = (hold, { l with overflow := min (l.overflow + 1) 65535 })) ∧
    (hold ≠ [] → hold.length < cap → l.stageFrom hold cap r = (hold ++ [r], l)) ∧
    (hold ≠ [] → cap ≤ hold.length →
      l.stageFrom hold cap r = (hold, { l with overflow := min (l.overflow + 1) 65535 }))) ∧
  (∀ (r : Record) (rest : List Record) (n : Nat) (s : State), mainGood s = true → s.log.next = some n →
    let queued := { s.log with staging := s.log.staging ++ [⟨n, r⟩], next := if n = max32 then none else some (n + 1) }
    (s.tamper.hold = r :: rest → s.log.staging.length < 8 →
      exec (.waitingEvidenceOffer .tamper) s =
        .next { s.take (.waitingEvidenceOffer .tamper) with tamper := { s.tamper with hold := rest }, log := queued }) ∧
    (s.sw.waiting = r :: rest → s.log.staging.length < 8 →
      exec (.waitingEvidenceOffer .switch) s =
        .next { s.take (.waitingEvidenceOffer .switch) with sw := { s.sw with waiting := rest }, log := queued }) ∧
    (s.cal.hold = r :: rest → s.log.staging.length < 8 →
      exec (.waitingEvidenceOffer .calendar) s =
        .next { s.take (.waitingEvidenceOffer .calendar) with cal := { s.cal with hold := rest }, log := queued }) ∧
    (∀ o, 8 ≤ s.log.staging.length →
      exec (.waitingEvidenceOffer o) s = .next (s.take (.waitingEvidenceOffer o))))

/-- The idle writer takes the head of the staging queue: evidence at the cap of 64 is removed and counted, all of it that stands
at the head at once, and the routine record behind it is then taken as if it had been the head; a full log loses one record that
is routine or collected, and the write starts; at its end, after 10 ms, the record is the newest of the log (R142, R144, R148;
that an end before 10 ms does nothing is log entry 4). -/
def Obligations.RecordWrites : Prop :=
  (∀ (r : LogRecord) (rest : List LogRecord) (s : State), mainGood s = true → s.log.writer = .idle →
    s.log.markRequest = false → s.log.staging = r :: rest →
    ∃ t, exec .logWriteStart s = .next t ∧ t = { s.take .logWriteStart with log := t.log } ∧
      (isEvidence r.body.kind = false ∨ s.log.uncollected < 64 →
        t.log = { s.log with records := t.log.records, writer := .record 0 } ∧
        (s.log.records.length < 128 → t.log.records = s.log.records) ∧
        (128 ≤ s.log.records.length → ∀ before x after, s.log.records = before ++ x :: after →
          (isEvidence x.body.kind = false ∨ x.number ≤ s.log.heldMark) →
          (∀ y ∈ before, isEvidence y.body.kind = true ∧ s.log.heldMark < y.number) →
          t.log.records = before ++ after)) ∧
      (isEvidence r.body.kind = true → 64 ≤ s.log.uncollected → rest = [] →
        t.log = { s.log with staging := [], overflow := min (s.log.overflow + 1) 65535 })) ∧
  (∀ (lost : List LogRecord) (s : State), mainGood s = true → s.log.writer = .idle → s.log.markRequest = false →
    64 ≤ s.log.uncollected → lost ≠ [] → (∀ x ∈ lost, isEvidence x.body.kind = true) →
    let count := min (s.log.overflow + lost.length) 65535
    (s.log.staging = lost →
      exec .logWriteStart s = .next { s.take .logWriteStart with log := { s.log with staging := [], overflow := count } }) ∧
    (∀ (r : LogRecord) (rest : List LogRecord), s.log.staging = lost ++ r :: rest → isEvidence r.body.kind = false →
      exec .logWriteStart s =
        exec .logWriteStart { s with log := { s.log with staging := r :: rest, overflow := count } })) ∧
  (∀ (ms : Nat) (r : LogRecord) (rest : List LogRecord) (s : State), mainGood s = true → s.log.writer = .record ms →
    s.log.staging = r :: rest →
    (ms < 10 → exec .logWriteComplete s = .next (s.take .logWriteComplete)) ∧
    (10 ≤ ms → ∃ t, exec .logWriteComplete s = .next t ∧
      t.log = { s.log with records := s.log.records ++ [r], staging := rest, writer := .idle } ∧
      t = { s.take .logWriteComplete with log := t.log, alert := t.alert } ∧
      (isEvidence r.body.kind = true →
        t.alert.conditions.evidenceThreshold = decide (s.log.threshold ≤ t.log.uncollected)) ∧
      (isEvidence r.body.kind = false → t.alert = s.alert)))

/-- EVIDENCE_COLLECT: the held mark rises to the smaller of N and the highest number in the log, never down; the overflow
count is answered and cleared; a risen mark asks for a mark write. A mark write goes into the older place with a write count
above the other's, and holds the mark when it completes, after 10 ms (R142, R145, R146, R148; the bytes of the answer are the
model's reading of R197, log entry 19, which of two places that both fail is the older one is log entry 23, and that an end
before 10 ms does nothing is log entry 4). -/
def Obligations.CollectAndMark : Prop :=
  (∀ (n : BitVec 32) (s : State), Ready .network s →
    let c := Instr.evidenceCollect .network n
    let m :=
      match s.log.records.getLast? with
      | some r => max s.log.heldMark (min n.toNat r.number)
      | none => s.log.heldMark
    ∃ t,
      exec c s =
          .next
            (respond .network ⟨.ok, beNat 4 m ++ beNat 1 (s.log.uncollectedUnder m) ++ beNat 2 s.log.overflow⟩ t) ∧
      t.log =
        { s.log with
          heldMark := m, overflow := 0, markRequest := s.log.markRequest || decide (s.log.heldMark < m) } ∧
      t.alert.conditions.evidenceThreshold = decide (s.log.threshold ≤ s.log.uncollectedUnder m) ∧
      t = { s.take c with log := t.log, alert := t.alert }) ∧
  (∀ s : State, mainGood s = true → s.log.writer = .idle → s.log.markRequest = true →
    ∃ t p k, exec .markWriteStart s = .next t ∧
      t.log.writer = .mark p ⟨s.log.heldMark, k⟩ 0 ∧ t.log.markRequest = false ∧ placeOf t.log p = none ∧
      (∀ x, s.log.markA = none → s.log.markB = some x → p = .a ∧ k = x.count + 1 ∧ t.log.markB = some x) ∧
      (∀ x, s.log.markA = some x → s.log.markB = none → p = .b ∧ k = x.count + 1 ∧ t.log.markA = some x) ∧
      (∀ x y, s.log.markA = some x → s.log.markB = some y → x.count < y.count →
        p = .a ∧ k = y.count + 1 ∧ t.log.markB = some y) ∧
      (∀ x y, s.log.markA = some x → s.log.markB = some y → y.count < x.count →
        p = .b ∧ k = x.count + 1 ∧ t.log.markA = some x) ∧
      t = { s.take .markWriteStart with log := t.log } ∧
      t.log = { s.log with markA := t.log.markA, markB := t.log.markB, writer := t.log.writer, markRequest := false }) ∧
  (∀ (p : Place) (copy : MarkCopy) (ms : Nat) (s : State), mainGood s = true → s.log.writer = .mark p copy ms →
    (ms < 10 → exec .markWriteComplete s = .next (s.take .markWriteComplete)) ∧
    (10 ≤ ms →
      exec .markWriteComplete s =
        .next
          { s.take .markWriteComplete with
            log :=
              { s.log with
                markA := if p = .a then some copy else s.log.markA,
                markB := if p = .b then some copy else s.log.markB, writer := .idle } }))

/-- READ_LOG returns the first count records from a number on, with the counts of R147, and refuses another count; each record
is sent with the 11 bytes of 12.7, with the record kind and the tamper kind by their codes of 12.6, and then the parts it
holds, in their order (R147). SET_EVIDENCE_THRESHOLD takes 16, 32, 48
and 64 (R148; the byte of its answer is the model's reading of R197, log entry 19). -/
def Obligations.LogReadAndThreshold : Prop :=
  (∀ (p : Port) (first : BitVec 32) (count : Byte) (s : State), Ready p s →
    let c := Instr.readLog p first count
    (count.toNat = 0 ∨ 4 < count.toNat → exec c s = .next (respond p (.bare .badArgument) (s.take c))) ∧
    (1 ≤ count.toNat → count.toNat ≤ 4 → s.log.records.Pairwise (fun x y => x.number < y.number) →
      ∃ found : List LogRecord,
        exec c s =
            .next
              (respond p
                ⟨.ok,
                 beNat 4 ((s.log.records.head?.map (·.number)).getD 0) ++
                 beNat 4 ((s.log.records.getLast?.map (·.number)).getD 0) ++ beNat 1 s.log.records.length ++
                 beNat 4 (s.log.next.getD 0) ++ beNat 4 s.log.heldMark ++ beNat 1 s.log.uncollected ++
                 beNat 2 s.log.overflow ++ beNat 2 s.log.dropped ++ beNat 1 s.log.staging.length ++
                 beNat 1 found.length ++ found.flatMap (recordBytes s.log.heldMark)⟩ (s.take c)) ∧
          found.Sublist s.log.records ∧ found.length ≤ count.toNat ∧ (∀ r ∈ found, first.toNat ≤ r.number) ∧
          ∀ r ∈ s.log.records, first.toNat ≤ r.number →
            r ∈ found ∨ (found.length = count.toNat ∧ ∀ x ∈ found, x.number < r.number))) ∧
  (∀ (mark : Nat) (r : LogRecord),
    let d := recordBytes mark r
    let has := [r.body.tamper.isSome, r.body.code.isSome, r.body.relay.isSome, r.body.gap.isSome, r.body.energy.isSome,
                r.body.clock.isSome]
    let relayByte := fun x : Position => match x with | .unknown => 0#8 | .opened => 1#8 | .closed => 2#8
    let kindByte : Byte :=
      match r.body.kind with
      | .tamper => 1#8 | .tamperCleared => 2#8 | .relayFault => 3#8 | .coldStart => 4#8 | .checkpointLost => 5#8
      | .clockSet => 6#8 | .codeAccepted => 16#8 | .codeRefused => 17#8 | .relayOpened => 18#8 | .relayClosed => 19#8
      | .powerFail => 20#8 | .powerRestore => 21#8 | .tariffActivated => 22#8 | .metrologyGap => 23#8
      | .balanceFloor => 24#8
    let tamperByte := fun x : Option TamperKind =>
      match x with
      | none => 0#8
      | some .coverOpen => 1#8 | some .tcoverOpen => 2#8 | some .magnetic => 3#8 | some .reverseFlow => 4#8
      | some .currentImbalance => 5#8 | some .linkCut => 6#8 | some .bypass => 7#8
    d.take 11 =
        beNat 4 r.number ++ beNat 4 r.body.time ++
        flagByte [r.body.valid, isEvidence r.body.kind, isEvidence r.body.kind && decide (r.number ≤ mark)] ++
        [kindByte] ++ flagByte has ∧
      d.drop 11 =
        ((r.body.tamper.map (fun x => beNat 4 x.number ++ [tamperByte x.kind])).getD []) ++
        ((r.body.code.map (fun x => beNat 1 x.kind ++ beNat 3 x.issue ++ beNat 4 x.payload)).getD []) ++
        ((r.body.relay.map (fun x =>
            [relayByte x.before, relayByte x.after] ++
            flagByte [x.set.credit, x.set.overload, x.set.tamper, x.set.remote, x.set.uncommissioned] ++
            beNat 1 x.attempts)).getD []) ++
        ((r.body.gap.map (beNat 1)).getD []) ++ ((r.body.energy.map (beNat 6)).getD []) ++
        ((r.body.clock.map (fun x =>
            beNat 4 x.oldTime ++ beNat 4 x.newTime ++ beInt 2 x.oldOffset ++ beInt 2 x.newOffset)).getD [])) ∧
  (∀ (v : Byte) (s : State), Ready .network s →
    let c := Instr.setEvidenceThreshold .network v
    (v.toNat ∈ [16, 32, 48, 64] →
      ∃ t, exec c s = .next (respond .network ⟨.ok, beNat 1 s.log.uncollected⟩ t) ∧
        t.log = { s.log with threshold := v.toNat } ∧
        t.alert.conditions.evidenceThreshold = decide (v.toNat ≤ s.log.uncollected) ∧
        t = { s.take c with log := t.log, alert := t.alert }) ∧
    (v.toNat ∉ [16, 32, 48, 64] → exec c s = .next (respond .network (.bare .badArgument) (s.take c))))

/-! ## 08: the calendar -/

/-- A tick of the time base: T in every supply state; in MAIN_GOOD the clock second for BILL, TARIFF and CODE, the hour mark
and the minute; and nothing else (R152 to R154). -/
def Obligations.ClockTickIssues : Prop :=
  ∀ s : State,
    let n := min (s.cal.t + 1) 4294967295
    (s.supmon.supply ≠ .mainGood → exec .clockTick s = .next { s with cal := { s.cal with t := n, phase := 0 } }) ∧
    (s.supmon.supply = .mainGood →
      ∃ issued, exec .clockTick s =
          .next { s with cal := { s.cal with t := n, phase := 0 }, handed := s.handed ++ issued } ∧
        Instr.standingAccrual (BitVec.ofNat 32 n) ∈ issued ∧ Instr.tariffActivation ∈ issued ∧
        Instr.penaltyDecrement ∈ issued ∧ (Instr.clockHourMark ∈ issued ↔ n % 3600 = 0) ∧
        (Instr.clockMinute ∈ issued ↔ s.cal.t < 4294967295 ∧ n % 60 = 0) ∧
        issued.length =
          3 + (if n % 3600 = 0 then 1 else 0) + (if s.cal.t < 4294967295 ∧ n % 60 = 0 then 1 else 0)) ∧
    (mainGood s = true →
      exec .clockHourMark s = .next { s.take .clockHourMark with supmon := { s.supmon with request := true } })

/-- CLOCK_SET: another offset than those of R157 is refused; otherwise the accrual to the old T, the new clock, the rebase of
H, the record with both clocks, and the answer (R25, R157 to R159). An armed tariff that the new clock makes due is then
activated, behind all that the same command does with an empty slot (R57, R58, R62, R158 step 5). An accrual that reaches the
floor sets its flag and stages BALANCE_FLOOR before the CLOCK_SET record (R20, R159); that it makes no evaluation of its own is
log entry 15. The bytes of the answer are the model's reading of R197, log entry 19. -/
def Obligations.ClockSetMoves : Prop :=
  ∀ (x : BitVec 32) (o : BitVec 16) (s : State), Ready .network s → NoGapWaits s → NoAccrualWaits s →
    let c := Instr.clockSet .network x o
    let sum := s.bill.q + min (s.cal.t - s.bill.h) 2678400 * s.active.charges.standing
    let r : Record :=
      { time := x.toNat, valid := true, kind := .clockSet, clock := some ⟨s.cal.t, x.toNat, s.cal.offset, o.toInt⟩ }
    let answer : Reply := ⟨.ok, beNat 4 s.cal.t ++ beInt 2 s.cal.offset ++ beNat 4 x.toNat ++ beInt 2 o.toInt⟩
    let atFloor := decide (sum / 86400 ≠ 0 ∧ s.bill.b - (sum / 86400 : Nat) ≤ balanceMin)
    let logged :=
      if atFloor = true ∧ s.bill.floor = false then
        s.log.offerRoutine (evidenceWaiting s)
          { time := s.cal.t, valid := s.cal.valid, kind := .balanceFloor, energy := some s.totals.imported }
      else s.log
    (o.toInt < -720 ∨ 840 < o.toInt ∨ o.toInt % 15 ≠ 0 →
      exec c s = .next (respond .network (.bare .badArgument) (s.take c))) ∧
    (-720 ≤ o.toInt → o.toInt ≤ 840 → o.toInt % 15 = 0 →
      (∀ n time, s.tariff.slot = .armed n time → x.toNat < time) →
      ∃ t,
        exec c s =
            .next (respond .network answer t) ∧
        t.cal = { s.cal with t := x.toNat, offset := o.toInt, valid := true, hold := t.cal.hold } ∧
        t.bill.h = x.toNat ∧ t.bill.r = s.bill.r ∧ t.bill.d = s.bill.d ∧
        (s.bill.h < s.cal.t →
          t.bill.q = sum % 86400 ∧ t.bill.b = max balanceMin (s.bill.b - (sum / 86400 : Nat)) ∧
          t.bill.floor = (s.bill.floor || atFloor) ∧
          t.cal.hold = (logged.stageFrom s.cal.hold 4 r).1 ∧ t.log = (logged.stageFrom s.cal.hold 4 r).2) ∧
        (s.cal.t ≤ s.bill.h → t.bill.q = s.bill.q ∧ t.bill.b = s.bill.b ∧ t.bill.floor = s.bill.floor ∧
          t.cal.hold = (s.log.stageFrom s.cal.hold 4 r).1 ∧ t.log = (s.log.stageFrom s.cal.hold 4 r).2) ∧
        CreditEvaluated s.bill.emergency s.sw.set.credit t ∧ t.sw.set = { s.sw.set with credit := t.sw.set.credit } ∧
        t = { s.take c with cal := t.cal, bill := t.bill, log := t.log, sw := t.sw, alert := t.alert }) ∧
    (∀ n time, -720 ≤ o.toInt → o.toInt ≤ 840 → o.toInt % 15 = 0 → s.tariff.slot = .armed n time → time ≤ x.toNat →
      s.mlr.overload < 5 →
      ∃ u, exec c { s with tariff := { s.tariff with slot := .empty } } = .next (respond .network answer u) ∧
        ∃ t, exec c s = .next (respond .network answer t) ∧
          t.cal = u.cal ∧
          t.bill = { u.bill with emergency := t.bill.emergency, deferral := t.bill.deferral } ∧
          t.tariff.active = n ∧ t.tariff.slot = .empty ∧ t.tariff.commissioned = true ∧
          t.tariff.imageState = .writing ∧
          (s.tariff.imageState = .writing →
            t.tariff.imageRequest = true ∧ t.tariff.imageWriting = s.tariff.imageWriting ∧
              t.tariff.image = s.tariff.image) ∧
          (s.tariff.imageState ≠ .writing →
            t.tariff.imageRequest = false ∧ t.tariff.imageWriting = some ⟨n, 0⟩ ∧ t.tariff.image = .failing) ∧
          t.log = u.log.offerRoutine (evidenceWaiting u) { time := x.toNat, valid := true, kind := .tariffActivated } ∧
          t.sw.set =
            { u.sw.set with
              credit := t.sw.set.credit, uncommissioned := u.sw.set.uncommissioned && s.tariff.commissioned } ∧
          Signalled (.latched .tariffActivated) u.alert.ports.meter t.alert.ports.meter ∧
          Signalled (.latched .tariffActivated) u.alert.ports.network t.alert.ports.network ∧
          CreditEvaluated s.bill.emergency u.sw.set.credit t ∧
          t = { s.take c with cal := t.cal, bill := t.bill, log := t.log, sw := t.sw, alert := t.alert,
                              tariff := t.tariff, supmon := { s.supmon with request := true },
                              mlr := { s.mlr with overload := if n.policy.ilim = 0 then 0 else s.mlr.overload } })

/-- Local time, its ranges, and the lookups, which the Tariff Store computes from T and the offset of the moment (R155). -/
def Obligations.LocalTimeDerived : Prop :=
  (∀ (t : Nat) (o : Int),
    localSeconds t o = t + o * 60 ∧ localDay t o = (t + o * 60) / 86400 ∧
    (localWeekday t o : Int) = localDay t o % 7 ∧ (localMinute t o : Int) = (t + o * 60) % 86400 / 60 ∧
    localWeekday t o < 7 ∧ localMinute t o < 1440) ∧
  localWeekday 0 0 = 0 ∧
  (∀ (t : Nat) (o : Int), t < 2 ^ 32 → offsetTaken o = true →
    -43200 ≤ localSeconds t o ∧ localSeconds t o ≤ 4295017695 ∧ -1 ≤ localDay t o ∧ localDay t o ≤ 49710 ∧
    (localDay t o = -1 → t < 43200 ∧ o < 0 ∧ localWeekday t o = 6)) ∧
  (∀ tar : Tariff, specialDate tar (-1) = false ∧ (dayType tar (-1) 6 = .restday ↔ tar.restDays.mask.getLsbD 6 = true)) ∧
  (∀ s : State,
    bandInForce s = bandUnder s.active s.cal.t s.cal.offset s.cal.valid ∧
    friendlyNow s = friendlyUnder s.active s.cal.t s.cal.offset s.cal.valid ∧
    (s.cal.valid = true → ∀ day weekday, day = localDay s.cal.t s.cal.offset → weekday = localWeekday s.cal.t s.cal.offset →
      bandInForce s =
        bandAt (if dayType s.active day weekday = .restday then s.active.restday else s.active.workday)
          (localMinute s.cal.t s.cal.offset)))

/-- The lookups of a valid clock: the day type, the band of the last switch point at or below the minute, the friendly
windows with the special-date rule; without a valid clock band 0 and no friendly period; READ_CLOCK sends them (R47 to R49,
R156, R162; its layout is log entry 19, and the codes of the two day types, and the day type without a valid clock, are free
values, log entry 20; a local day of -1 goes out as 0xFFFF, log entry 21). -/
def Obligations.LookupsAnswered : Prop :=
  (∀ (tar : Tariff) (t : Nat) (o : Int),
    bandUnder tar t o false = .b0 ∧ friendlyUnder tar t o false = false ∧
    (friendlyUnder tar t o true = true ↔
      ∃ w ∈ tar.friendly.windows,
        (if ∃ d ∈ tar.restDays.dates, (d : Int) = localDay t o then w.mask.getLsbD 7 = true
         else w.mask.getLsbD (localWeekday t o) = true) ∧
        w.start ≤ localMinute t o ∧ localMinute t o < w.stop) ∧
    (dayType tar (localDay t o) (localWeekday t o) = .restday ↔
      (∃ d ∈ tar.restDays.dates, (d : Int) = localDay t o) ∨
        tar.restDays.mask.getLsbD (localWeekday t o) = true)) ∧
  (∀ (tar : Tariff) (t : Nat) (o : Int), tar.valid = true →
    let profile := if dayType tar (localDay t o) (localWeekday t o) = .restday then tar.restday else tar.workday
    ∃ p ∈ profile, p.minute ≤ localMinute t o ∧ bandUnder tar t o true = p.band ∧
      ∀ q ∈ profile, q.minute ≤ localMinute t o → q.minute ≤ p.minute) ∧
  (∀ (p : Port) (s : State), Ready p s → s.cal.valid = true →
    exec (.readClock p) s =
      .next
        (respond p
          ⟨.ok,
           beNat 4 s.cal.t ++ beInt 2 s.cal.offset ++ [1#8] ++ beInt 2 (localDay s.cal.t s.cal.offset) ++
           beNat 1 (localWeekday s.cal.t s.cal.offset) ++ beNat 2 (localMinute s.cal.t s.cal.offset) ++
           [match dayType s.active (localDay s.cal.t s.cal.offset) (localWeekday s.cal.t s.cal.offset) with
            | .workday => Config.dayTypeCode false
            | .restday => Config.dayTypeCode true] ++
           beNat 1 (bandCode (bandUnder s.active s.cal.t s.cal.offset true)) ++
           flagByte [friendlyUnder s.active s.cal.t s.cal.offset true]⟩ (s.take (.readClock p)))) ∧
  (∀ (p : Port) (s : State), Ready p s → s.cal.valid = false →
    exec (.readClock p) s =
      .next
        (respond p
          ⟨.ok,
           beNat 4 s.cal.t ++ beInt 2 s.cal.offset ++ [0#8] ++ beInt 2 (localDay s.cal.t s.cal.offset) ++
           beNat 1 (localWeekday s.cal.t s.cal.offset) ++ beNat 2 (localMinute s.cal.t s.cal.offset) ++
           [Config.undecidedDayType s.cal.t s.cal.offset, 0#8, 0#8]⟩ (s.take (.readClock p))))

/-! ## 09: outages and restoration -/

/-- The events of the supply table that do not stop the main domain, a brown-out with the pulse it cuts and its end with the
permit regained; and those of a stopped one: a rise of VMAIN runs the
restore timer from 0 when RESETN is high; a main failure in RESTORING stores the fail time and stages POWER_FAIL when the
origin was PIN, and stages nothing when it was OUTAGE (R96, R97, R99, R107, R164 to R166; that requests held for the end of the
restore are lost then is log entry 28, the one bit that the state holds of VMAIN is log entry 8, and the count 0 of a timer
that an event stops is log entry 36). -/
def Obligations.SupplyEvents : Prop :=
  (∀ s : State, mainGood s = true →
    (∃ t, exec .brownOutStart s = .next t ∧ t.supmon = { s.supmon with brownOut := true } ∧
      (s.sw.phase = some .pulse →
        t.sw.phase = some .waitPermit ∧ t.sw.deadCoil = s.sw.coil ∧ t.sw.deadMs = 0) ∧
      (s.sw.phase ≠ some .pulse → t.sw.deadCoil = s.sw.deadCoil ∧ t.sw.deadMs = s.sw.deadMs) ∧
      (s.sw.phase = some .deadTime → t.sw.phase = some .waitPermit) ∧
      (s.sw.phase ≠ some .pulse → s.sw.phase ≠ some .deadTime → t.sw.phase = s.sw.phase) ∧
      t.sw.phase ≠ some .pulse ∧ t.sw.state = s.sw.state ∧ t.sw.set = s.sw.set ∧
      t.sw.attempts = s.sw.attempts ∧
      (s.sw.holdOff.running = true → t.sw.holdOff = .started) ∧
      (s.sw.holdOff.running = false → t.sw.holdOff = s.sw.holdOff) ∧
      t = { s.take .brownOutStart with supmon := t.supmon, sw := t.sw, alert := t.alert,
                                       pins := { s.pins with vmainGood := false } }) ∧
    (∃ t, exec .brownOutEnd s = .next t ∧ t.supmon = { s.supmon with brownOut := false } ∧
      t.sw.state = s.sw.state ∧ t.sw.set = s.sw.set ∧ t.sw.holdOff = s.sw.holdOff ∧
      (s.sw.phase ≠ some .waitPermit → s.sw.phase ≠ some .deadTime → t.sw = s.sw) ∧
      (∀ coil, s.sw.coil = some coil → s.sw.phase = some .waitPermit → s.pins.crdy = true → s.pins.cinhn = true →
        (coil = .closeCoil → s.sw.holdOff.running = false) →
        (s.sw.deadCoil = none ∨ s.sw.deadCoil = some coil ∨ 20 ≤ s.sw.deadMs →
          t.sw = { s.sw with phase := some .pulse, opTimer := .started }) ∧
        (s.sw.deadCoil ≠ none → s.sw.deadCoil ≠ some coil → s.sw.deadMs < 20 →
          t.sw = { s.sw with phase := some .deadTime })) ∧
      t = { s.take .brownOutEnd with supmon := t.supmon, sw := t.sw, alert := t.alert,
                                     pins := { s.pins with vmainGood := true } })) ∧
  (∀ s : State, s.supmon.supply = .mainFailed →
    let timer := if s.pins.resetn = true then Timer.started else .stopped
    exec .vmainRise s =
        .next
          { s with supmon := { s.supmon with supply := .restoring, restoreTimer := timer },
                   pins := { s.pins with vmainGood := true } } ∧
      exec .vcellLow s = .next { s with supmon := { s.supmon with retention := false } } ∧
      exec .resetnAssert s = .next { s with pins := { s.pins with resetn := false } } ∧
      exec .resetnRelease s = .next { s with pins := { s.pins with resetn := true } }) ∧
  (∀ s : State, s.supmon.supply = .restoring →
    let failed := { s.supmon with supply := .mainFailed, origin := some .outage, restoreTimer := .stopped }
    exec .vmainRise s =
        .next
          { s with supmon := { s.supmon with restoreTimer := if s.pins.resetn = true then Timer.started else .stopped },
                   pins := { s.pins with vmainGood := true } } ∧
      (s.supmon.origin ≠ some .pin →
        exec .mainFailure s =
          .next { s with supmon := failed, pins := { s.pins with vmainGood := false }, handed := [] }) ∧
      (s.supmon.origin = some .pin →
        exec .mainFailure s =
          .next
            { s with
              supmon := { failed with failTime := some s.cal.t },
              log :=
                s.log.offerRoutine (evidenceWaiting s) { time := s.cal.t, valid := s.cal.valid, kind := .powerFail },
              pins := { s.pins with vmainGood := false }, handed := [] })) ∧
  (∀ s : State, s.supmon.supply = .restoring →
    exec .vmainDropRestoring s =
        .next { s with supmon := { s.supmon with restoreTimer := .stopped }, pins := { s.pins with vmainGood := false } } ∧
      exec .resetnAssert s =
        .next { s with supmon := { s.supmon with restoreTimer := .stopped }, pins := { s.pins with resetn := false } } ∧
      exec .resetnRelease s =
        .next
          { s with supmon := { s.supmon with
                      restoreTimer := if s.pins.vmainGood = true then .started else s.supmon.restoreTimer },
                   pins := { s.pins with resetn := true } }) ∧
  (∀ s : State, s.supmon.supply ≠ .mainGood →
    exec .backupPowerUp s =
      .next
        { s with
          supmon :=
            { s.supmon with
              supply := .mainFailed, origin := some .outage, restoreTimer := .stopped, retention := false },
          pins := { s.pins with vmainGood := false }, handed := [] })

/-- What the backup domain keeps when the main domain stops (R18, R43, R63, R90, R112, R136, R149, R163, R165, R166, R175,
R189, R196), in the state t that follows s; what it loses stands at the values of the restore tables (log entry 45). A tariff
image write in progress leaves the image state STALE (R62), an identity write nothing (R184), and a checkpoint write its
request (R175). The gap accrual and the debits that wait at BILL are taken before the stop, in their order and whatever waits
beside them, and every other request that waits is lost (R18, R24; log entry 16); the 250 ms of the backup samples start at
the stop (log entry 38). -/
def Obligations.MainDomainStops : Prop :=
  (∀ (c i : Instr) (before rest : List Instr) (s u : State), mainGood s = true →
    (c = .mainFailure ∨ c = .resetnAssert) → s.handed = before ++ i :: rest →
    (((∃ x, i = .gapAccrual x) ∧ ∀ x, Instr.gapAccrual x ∉ before) ∨
      (NoGapWaits s ∧ (∃ e, i = .debitRequest e) ∧ ∀ e, Instr.debitRequest e ∉ before)) →
    exec i s = .next u → exec c s = exec c u) ∧
  ∀ (c : Instr) (s : State), mainGood s = true → NoGapWaits s → NoDebitWaits s → (c = .mainFailure ∨ c = .resetnAssert) →
    ∃ t, exec c s = .next t ∧
      t.supmon.supply = (if c = .mainFailure then .mainFailed else .restoring) ∧
      t.supmon.origin = some (if c = .mainFailure then .outage else .pin) ∧ t.supmon.restoreTimer = .stopped ∧
      t.supmon.failTime = (if c = .mainFailure then some s.cal.t else s.supmon.failTime) ∧
      t.supmon.brownOut = false ∧ t.supmon.writer = .idle ∧ t.supmon.ring = s.supmon.ring ∧
      t.supmon.nextSeq = s.supmon.nextSeq ∧ t.supmon.cause = s.supmon.cause ∧
      t.supmon.retention = s.supmon.retention ∧
      t.supmon.request = (s.supmon.request || decide (s.supmon.writer ≠ .idle)) ∧
      t.log =
        { (if c = .mainFailure then
            s.log.offerRoutine (evidenceWaiting s) { time := s.cal.t, valid := s.cal.valid, kind := .powerFail }
           else s.log) with
          writer := .idle, markRequest := false } ∧
      t.bill = { s.bill with deferral := false, floor := false } ∧ t.totals = s.totals ∧ t.alert = s.alert ∧
      t.cal = { s.cal with hold := [] } ∧
      t.tariff.active = s.tariff.active ∧ t.tariff.slot = s.tariff.slot ∧ t.tariff.imageWriting = none ∧
      t.tariff.image = s.tariff.image ∧ t.tariff.imageRequest = false ∧
      t.tariff.commissioned = s.tariff.commissioned ∧
      t.tariff.imageState = (if s.tariff.imageWriting = none then s.tariff.imageState else .stale) ∧
      t.code =
        { queue := [], flight := none, tickets := ⟨0#8, 0#8⟩, results := ⟨[], []⟩, accepted := s.code.accepted,
          lowMark := s.code.lowMark, lockout := s.code.lockout } ∧
      t.mlr =
        { link := .never, lastSeq := none, eLast := none, silence := .stopped, linkCut := .stopped, linkCutRaised := false,
          badReports := 0, unbalanced := 0, balanced := 0, episode := false, reverse := 0, rearm := 0,
          reverseRaised := false, overload := 0 } ∧
      t.sw =
        { set := s.sw.set, state := t.sw.state, phase := none, attempts := 0, opTimer := .stopped,
          position := t.sw.position, confirm := s.sw.confirm, fault := s.sw.fault, deadCoil := none, deadMs := 0,
          holdOff := .stopped, overload := .stopped, streak := 0, bypass := .stopped, bypassRaised := false,
          waiting := [] } ∧
      (s.sw.state = .opening ∨ s.sw.state = .closing → t.sw.state = .unknown ∧ t.sw.position = .unknown) ∧
      (s.sw.state ≠ .opening → s.sw.state ≠ .closing → t.sw.state = s.sw.state ∧ t.sw.position = s.sw.position) ∧
      t.tamper =
        { s.tamper with
          lastSample := s.tamper.debounced, debounce := ⟨.stopped, .stopped⟩, feFlag := false, presence := .stopped,
          magnetic := false, release := .stopped, hold := [], sampling := .started } ∧
      t.ports =
        { s.ports with
          line := ⟨Line.fresh, Line.fresh⟩, interByte := .stopped, txTenths := 0, msdo := none, deaf := false } ∧
      ntxd t = none ∧
      t.pins =
        (if c = .mainFailure then { s.pins with vmainGood := false } else { s.pins with resetn := false }) ∧
      t.identity = { s.identity with writing := none, again := false } ∧
      t.handed = [] ∧ t.pending = s.pending

/-- The kind of a restore, and what each kind gives the blocks: the retained values, or those of the governing checkpoint, or
the empty values of R171 (R19, R44, R45, R63, R91, R115, R137, R151, R163, R167, R168, R170, R171, R180, R189, R196); a restore
timer below 64 ms ends nothing (R164; log entry 4), and the meter port ignores what comes after a restore that ends with MCSN
low, and the network port the byte that is then in progress (R189; that bytes show both is log entry 35). The governing
checkpoint is the valid slot with the highest sequence (R169). SWITCH resolves its position, with its record (R103), then takes
the requests held for it (R113 to R115); TAMPER makes its member agree, starts its timers (R121, R137; a cover that reads
otherwise is log entry 27) and forms the events of the latches that hold (R120); BILL evaluates after a cold restore (R45), and
the conditions are onsets of their classes (R191, R196); SUPMON's records take the next numbers of LOG (R151, R167, R170, R171); and the mark,
the tariff image and the identity are written where their copies do not agree (R62, R150, R185; of two places that both fail
place a is the older, log entry 23, and which copy of the mark counts is log entry 42; the held mark with no passing copy is
log entry 41). That held requests come right after the position is log entry 28. -/
def Obligations.RestoresSelectState : Prop :=
  ((∀ (baud1 baud0 : Bool) (s : State),
    s.supmon.supply ≠ .restoring ∨ s.supmon.restoreTimer.running = false ∨ s.supmon.restoreTimer.ms < 64 →
    exec (.restoreEnd baud1 baud0) s = .next s) ∧
  (∀ (baud1 baud0 : Bool) (s : State), RestoreDue s →
    ∃ t, exec (.restoreEnd baud1 baud0) s = .next t ∧
      t.supmon.supply = .mainGood ∧ t.supmon.origin = none ∧
      t.mlr =
        { link := .never, lastSeq := none, eLast := none, silence := .started, linkCut := .stopped, linkCutRaised := false,
          badReports := 0, unbalanced := 0, balanced := 0, episode := false, reverse := 0, rearm := 0,
          reverseRaised := false, overload := 0 } ∧
      t.ports.interByte = .stopped ∧ t.ports.msdo = none ∧ t.sw.streak = 0 ∧ t.sw.bypassRaised = false ∧
      t.tamper.presence = (if s.pins.mags = true then .started else .stopped) ∧ t.tamper.release = .stopped ∧
      t.tamper.feFlag = false ∧
      (∀ i, t.tamper.debounce.get i =
        if s.pins.covers.get i = t.tamper.debounced.get i then .stopped else .started) ∧
      t.bill.floor = false ∧
      t.sw.holdOff = .started ∧ t.supmon.lastDone = none ∧ t.code.queue = [] ∧ t.code.flight = none ∧
      t.sw.deadCoil = none ∧ t.supmon.brownOut = false ∧ t.supmon.writer = .idle ∧
      t.tamper.magnetic = false ∧ t.tamper.sampling = .stopped ∧ t.tamper.latch = ⟨none, none⟩ ∧
      t.ports.line = ⟨Line.fresh, Line.fresh⟩ ∧ t.ports.deaf = !s.pins.mcsn ∧ t.ports.stale = s.ports.stale ∧
      t.ports.baud =
        (match baud1, baud0 with
          | false, false => .b9600
          | false, true => .b19200
          | true, false => .b38400
          | true, true => .b115200) ∧
      (s.supmon.retention = true →
        t.supmon.cause = (if s.supmon.origin = some .pin then .pin else .warm) ∧ t.cal.t = s.cal.t ∧
        t.cal.offset = s.cal.offset ∧ t.cal.valid = s.cal.valid ∧ t.bill.b = s.bill.b ∧ t.bill.r = s.bill.r ∧
        t.bill.q = s.bill.q ∧ t.bill.h = s.bill.h ∧ t.bill.d = s.bill.d ∧ t.totals = s.totals ∧
        t.tariff.active = s.tariff.active ∧ t.tariff.slot = s.tariff.slot ∧
        t.tariff.commissioned = s.tariff.commissioned ∧ t.code.accepted = s.code.accepted ∧
        t.code.lockout = s.code.lockout ∧ t.log.records = s.log.records ∧ t.log.heldMark = s.log.heldMark ∧
        t.identity.working = s.identity.working ∧ t.tamper.debounced = s.tamper.lastSample ∧
        t.supmon.nextSeq = s.supmon.nextSeq ∧ t.supmon.failTime = s.supmon.failTime ∧
        t.supmon.request =
          (s.supmon.request || decide (s.supmon.writer ≠ .idle) || decide (s.tamper.latch ≠ ⟨none, none⟩)) ∧
        t.code.lowMark = s.code.lowMark ∧ t.bill.emergency = s.bill.emergency ∧ t.bill.deferral = false ∧
        t.log.threshold = s.log.threshold ∧
        t.sw.overload = (if s.sw.set.overload = true then .started else .stopped) ∧
        (∀ p, (t.alert.ports.get p).levels = (s.alert.ports.get p).levels ∧
          (t.alert.ports.get p).threshold = (s.alert.ports.get p).threshold ∧
          Signalled (.latched .powerRestored) (s.alert.ports.get p) (t.alert.ports.get p) ∧
          (t.alert.ports.get p).classes.get (.latched .codeDone) =
            (s.alert.ports.get p).classes.get (.latched .codeDone)) ∧
        t.handed = [.gapAccrual (BitVec.ofNat 32 s.cal.t)]) ∧
      (s.supmon.retention = false →
        t.supmon.cause = .cold ∧ t.supmon.request = true ∧ t.supmon.failTime = none ∧ t.cal.offset = 0 ∧
        t.cal.valid = false ∧ t.tariff.slot = .empty ∧ t.code.lockout = ⟨Lockout.clear, Lockout.clear⟩ ∧
        t.log.records = s.log.records ∧ t.log.threshold = 32 ∧
        t.tamper.debounced = ⟨.closed, .closed⟩ ∧ t.handed = [] ∧
        (∀ p, (t.alert.ports.get p).classes.get (.latched .powerRestored) = ⟨true, 1#8⟩) ∧
        t.alert.ports.meter.levels = defaultMeterLevels ∧ t.alert.ports.network.levels = defaultNetworkLevels ∧
        (∀ p, (t.alert.ports.get p).threshold = 0 ∧
          ∀ c ∈ [LatchedClass.tamper, .relayFault, .codeDone, .tariffActivated],
            (t.alert.ports.get p).classes.get (.latched c) = ⟨false, 0#8⟩) ∧
        (s.handed = [] → ∀ c : ConditionClass, c ≠ .armed →
          let onset : ClassState := if t.alert.conditions.get c = true then ⟨true, 1#8⟩ else ⟨false, 0#8⟩
          t.alert.ports.network.classes.get (.condition c) = onset ∧
            (c ≠ .evidenceThreshold → t.alert.ports.meter.classes.get (.condition c) = onset)) ∧
        (s.log.markA = none → s.log.markB = none → t.log.heldMark = 0) ∧
        (∀ x, s.log.markA = some x → s.log.markB.all (fun y => decide (y.count ≤ x.count)) = true →
          t.log.heldMark = x.mark) ∧
        (∀ y, s.log.markB = some y → s.log.markA.all (fun x => decide (x.count < y.count)) = true →
          t.log.heldMark = y.mark) ∧
        t.sw.fault = false ∧
        (∀ k, governing s.supmon.ring = some k →
          t.supmon.nextSeq = k.seq + 1 ∧ t.cal.t = k.time ∧ t.bill.b = k.b ∧ t.bill.r = k.r ∧ t.bill.q = k.q ∧
          t.bill.h = k.h ∧ t.bill.d = k.d ∧ t.totals = k.totals ∧ t.code.accepted = k.accepted ∧
          t.code.lowMark = k.lowMark ∧ t.tamper.ts = k.ts ∧ t.tamper.tsLock = k.tsLock ∧
          t.tamper.tsClear = k.tsClear ∧ t.tariff.commissioned = k.commissioned ∧ t.tariff.active = k.active ∧
          t.sw.confirm = (k.confirm || decide (t.sw.state = .opening)) ∧
          t.sw.overload = (if k.set.overload = true then .started else .stopped) ∧
          (k.set.isEmpty = false →
            t.sw.state = .opening ∧ t.sw.position = .unknown ∧ t.sw.attempts = 0 ∧
            ∀ p, (t.alert.ports.get p).classes.get (.latched .supplyChanged) = ⟨false, 0#8⟩) ∧
          (k.set.isEmpty = true →
            t.sw.position = (if s.pins.lsense = true then .closed else .opened) ∧
            ∀ p, (t.alert.ports.get p).classes.get (.latched .supplyChanged) = ⟨true, 1#8⟩) ∧
          (s.handed = [] →
            CreditEvaluated k.emergency k.set.credit t ∧
            t.sw.set = { k.set with credit := t.sw.set.credit, tamper := decide (k.tsClear < k.tsLock) } ∧
            (k.set.isEmpty = true → t.sw.set.isEmpty = true →
              t.sw.state =
                if s.pins.lsense = true then .closed else if k.confirm = true then .armed else .closing) ∧
            (k.set.isEmpty = true → t.sw.set.isEmpty = false →
              t.sw.state = if s.pins.lsense = true ∨ k.confirm = false then .opening else .opened)) ∧
          (∀ m x, s.handed = [.demandSetRequest m x] →
            CreditEvaluated k.emergency (k.set.put m x).credit t ∧
            t.sw.set =
              { k.set.put m x with credit := t.sw.set.credit, tamper := decide (k.tsClear < k.tsLock) })) ∧
        (governing s.supmon.ring = none →
          t.supmon.nextSeq = 1 ∧ t.cal.t = 0 ∧ t.bill.b = 0 ∧ t.bill.r = 0 ∧ t.bill.q = 0 ∧ t.bill.h = 0 ∧
          t.bill.d = 0 ∧ t.totals = Totals.zero ∧ t.code.accepted = [] ∧ t.code.lowMark = 0 ∧ t.tamper.ts = 0 ∧
          t.tariff.commissioned = false ∧
          t.sw.state = .opening ∧ t.sw.confirm = true ∧ t.sw.position = .unknown ∧ t.sw.attempts = 0 ∧
          t.sw.overload = .stopped ∧
          (∀ p, (t.alert.ports.get p).classes.get (.latched .supplyChanged) = ⟨false, 0#8⟩) ∧
          (s.handed = [] →
            CreditEvaluated .unavailable false t ∧
            t.sw.set = { DemandSet.none with uncommissioned := true, credit := t.sw.set.credit }) ∧
          t.tariff.active = (match s.tariff.image with | .holds x => x | .failing => Tariff.default))))) ∧
  (∀ (baud1 baud0 : Bool) (s t : State), RestoreDue s → exec (.restoreEnd baud1 baud0) s = .next t →
    s.supmon.retention = true → s.tamper.latch = ⟨none, none⟩ →
    t.tamper.ts = s.tamper.ts ∧ t.tamper.tsLock = s.tamper.tsLock ∧ t.tamper.tsClear = s.tamper.tsClear ∧
    t.sw.set.tamper = decide (s.tamper.tsClear < s.tamper.tsLock) ∧
    (∀ m x, s.handed = [.demandSetRequest m x] →
      t.sw.set = { s.sw.set.put m x with tamper := decide (s.tamper.tsClear < s.tamper.tsLock) }) ∧
    (s.handed = [] → s.sw.set.tamper = decide (s.tamper.tsClear < s.tamper.tsLock) →
      t.sw.set = s.sw.set ∧ t.sw.fault = s.sw.fault ∧
      (s.sw.state = .unknown → s.sw.set.isEmpty = false →
        t.sw.state = .opening ∧ t.sw.position = s.sw.position ∧ t.sw.confirm = true ∧ t.sw.attempts = 0) ∧
      (s.sw.state = .unknown → s.sw.set.isEmpty = true → s.pins.lsense = true →
        t.sw.state = .closed ∧ t.sw.position = .closed ∧ t.sw.confirm = s.sw.confirm) ∧
      (s.sw.state = .unknown → s.sw.set.isEmpty = true → s.pins.lsense = false →
        t.sw.position = .opened ∧ t.sw.confirm = s.sw.confirm ∧
        (s.sw.confirm = true → t.sw.state = .armed) ∧
        (s.sw.confirm = false → t.sw.state = .closing ∧ t.sw.phase = some .waitPermit)) ∧
      (s.sw.state = .closed → t.sw.position = s.sw.position ∧
        t.sw.state = (if s.sw.set.isEmpty = true ∨ s.sw.fault = true then .closed else .opening)) ∧
      (s.sw.state = .opened → t.sw.position = s.sw.position ∧ t.sw.confirm = s.sw.confirm ∧
        t.sw.state =
          (if s.sw.set.isEmpty = false then .opened else if s.sw.confirm = true then .armed else .closing)) ∧
      (s.sw.state = .armed → s.sw.set.isEmpty = true → s.sw.confirm = true →
        t.sw.position = s.sw.position ∧ t.sw.state = .armed ∧ t.alert.conditions.armed = true))) ∧
  (∀ (baud1 baud0 : Bool) (s t : State), RestoreDue s → exec (.restoreEnd baud1 baud0) s = .next t →
    s.supmon.retention = true →
    (s.tamper.ts ≤ max32 →
      t.tamper.ts =
        min (s.tamper.ts + (if s.tamper.latch.cover = none then 0 else 1) +
          (if s.tamper.latch.terminal = none then 0 else 1)) max32) ∧
      (∀ n, s.log.next = some n → n + 4 ≤ max32 → s.log.staging.length ≤ 4 → s.tamper.ts + 2 ≤ max32 →
        (∃ later,
          t.log.staging =
            s.log.staging ++
              ⟨n, { time := s.cal.t, valid := s.cal.valid, kind := .powerRestore }⟩ :: later ∧
          (∀ l, s.tamper.latch.cover = some l →
            { time := l.time, valid := l.valid, kind := .tamper, tamper := some ⟨s.tamper.ts + 1, some .coverOpen⟩,
              energy := some s.totals.imported } ∈ later.map (·.body)) ∧
          (∀ l, s.tamper.latch.terminal = some l →
            { time := l.time, valid := l.valid, kind := .tamper,
              tamper :=
                some ⟨s.tamper.ts + (if s.tamper.latch.cover = none then 1 else 2), some .tcoverOpen⟩,
              energy := some s.totals.imported } ∈ later.map (·.body))) ∧
        t.log.next = some (n + (t.log.staging.length - s.log.staging.length)) ∧
        t.log.overflow = s.log.overflow ∧ t.log.dropped = s.log.dropped)) ∧
  (∀ (baud1 baud0 : Bool) (s t : State), RestoreDue s → exec (.restoreEnd baud1 baud0) s = .next t →
    s.supmon.retention = false →
    let above := ((s.log.records.getLast?.map (·.number)).getD 0) + 1
    let cold : Nat → Record := fun e => { time := t.cal.t, valid := false, kind := .coldStart, energy := some e }
    let record : RecordKind → Record := fun k => { time := t.cal.t, valid := false, kind := k }
    (∀ k, governing s.supmon.ring = some k → k.counter ≠ 0 → max k.counter above + 4 ≤ max32 →
      let n := max k.counter above
      let p : Position := if s.pins.lsense = true then .closed else .opened
      let resolved : LogRecord :=
        ⟨n + 2,
          { record (if s.pins.lsense = true then .relayClosed else .relayOpened) with
            relay := some ⟨.unknown, p, k.set, 0⟩ }⟩
      t.log.staging =
          [⟨n, cold k.totals.imported⟩, ⟨n + 1, record .powerRestore⟩] ++
            (if k.set.isEmpty = true then [resolved] else []) ∧
        t.log.next = some (n + t.log.staging.length) ∧ t.log.overflow = 0 ∧ t.log.dropped = 0) ∧
    (governing s.supmon.ring = none → above + 4 ≤ max32 →
      t.log.staging =
          [⟨above, cold 0⟩, ⟨above + 1, record .checkpointLost⟩, ⟨above + 2, record .powerRestore⟩] ∧
        t.log.next = some (above + 3) ∧ t.log.overflow = 0 ∧ t.log.dropped = 0) ∧
    (∀ k, governing s.supmon.ring = some k → k.counter = 0 →
      t.log.next = none ∧ t.log.staging = [] ∧ t.log.overflow = 1 ∧
        t.log.dropped = (if k.set.isEmpty = true then 2 else 1))) ∧
  (∀ (baud1 baud0 : Bool) (s t : State), RestoreDue s → exec (.restoreEnd baud1 baud0) s = .next t →
    let i := { s.identity with writing := none, again := false }
    t.log.markRequest = (s.supmon.retention && decide (governingMark s.log ≠ some s.log.heldMark)) ∧
    (s.tariff.image = .holds t.tariff.active → t.tariff.imageState = .current ∧ t.tariff.imageWriting = none) ∧
    (s.tariff.image ≠ .holds t.tariff.active →
      t.tariff.imageState = .writing ∧ t.tariff.image = .failing ∧ t.tariff.imageWriting = some ⟨t.tariff.active, 0⟩) ∧
    (s.supmon.retention = true →
      (s.identity.placeA ≠ none → s.identity.placeB ≠ none →
        s.identity.image.map (·.data) = some s.identity.working → t.identity = i) ∧
      (s.identity.placeA = none ∨ s.identity.placeB = none ∨
          s.identity.image.map (·.data) ≠ some s.identity.working →
        IdentityWriteAsked i t.identity)) ∧
    (s.supmon.retention = false →
      t.identity.working = ((s.identity.image.map (·.data)).getD IdentityRecord.none) ∧
      ((s.identity.placeA ≠ none ∧ s.identity.placeB ≠ none) ∨ (s.identity.placeA = none ∧ s.identity.placeB = none) →
        t.identity.writing = none) ∧
      (s.identity.placeA = none → s.identity.placeB ≠ none → IdentityWriteAsked i t.identity) ∧
      (s.identity.placeA ≠ none → s.identity.placeB = none → IdentityWriteAsked i t.identity))) ∧
  (∀ ring : List Slot,
    (∀ k, governing ring = some k → Slot.valid k ∈ ring ∧ ∀ x, Slot.valid x ∈ ring → x.seq ≤ k.seq) ∧
    (governing ring = none ↔ ∀ x, Slot.valid x ∉ ring))

/-- A checkpoint write starts on the retained state in the slot that counts lowest, and completes with it; a request sets
the flag, and a flag set at a completion starts the next write at once, in the slot that then counts lowest; an entry in
PERSISTING completes with the first write that started after its acceptance (R71, R72, R172 to R174; a write may complete at
any moment after its start, log entry 5). -/
def Obligations.CheckpointWrites : Prop :=
  (∀ s : State,
    exec .checkpointRequest s = .next { s.take .checkpointRequest with supmon := { s.supmon with request := true } }) ∧
  (∀ s : State, mainGood s = true → s.supmon.writer = .idle → s.supmon.request = true → s.supmon.ring ≠ [] →
    let slot := chooseSlot s.supmon.ring
    ∃ t, exec .checkpointWriteStart s = .next t ∧
      t.supmon =
        { s.supmon with
          request := false, nextSeq := s.supmon.nextSeq + 1, ring := s.supmon.ring.set slot .invalid,
          writer :=
            .writing slot
              { seq := s.supmon.nextSeq, time := s.cal.t, b := s.bill.b, r := s.bill.r, q := s.bill.q, h := s.bill.h,
                d := s.bill.d, emergency := s.bill.emergency, accepted := s.code.accepted, lowMark := s.code.lowMark,
                ts := s.tamper.ts, tsLock := s.tamper.tsLock, tsClear := s.tamper.tsClear, totals := s.totals,
                set := s.sw.set, confirm := s.sw.confirm, commissioned := s.tariff.commissioned,
                counter := s.log.next.getD 0, active := s.tariff.active } 0 } ∧
      (∀ e key code share covered, s.code.flight = some ⟨e, key, .persisting code share covered⟩ →
        t.code = { s.code with flight := some ⟨e, key, .persisting code share true⟩ }) ∧
      t = { s.take .checkpointWriteStart with supmon := t.supmon, code := t.code }) ∧
  (∀ (slot ms : Nat) (k : Checkpoint) (s : State), mainGood s = true → s.supmon.writer = .writing slot k ms →
    ∃ t, exec .checkpointWriteComplete s = .next t ∧
      t.supmon.lastDone = some ⟨k.seq, k.time⟩ ∧
      (s.supmon.request = false →
        t.supmon =
          { s.supmon with ring := s.supmon.ring.set slot (.valid k), writer := .idle, lastDone := some ⟨k.seq, k.time⟩ } ∧
        (∀ e key code share, s.code.flight = some ⟨e, key, .persisting code share true⟩ →
          t.code.flight = none ∧
          (t.code.results.get e.port).getLast? = some ⟨e.ticket, .accepted, some code, share⟩ ∧
          (t.alert.ports.get e.port).classes.get (.latched .codeDone) =
            ⟨true, ((s.alert.ports.get e.port).classes.get (.latched .codeDone)).count + 1#8⟩) ∧
        (∀ e key code share, s.code.flight = some ⟨e, key, .persisting code share false⟩ → t.code = s.code)) ∧
      (s.supmon.request = true →
        let ring := s.supmon.ring.set slot (.valid k)
        let next := chooseSlot ring
        t.supmon =
          { s.supmon with
            request := false, nextSeq := s.supmon.nextSeq + 1, ring := ring.set next .invalid,
            lastDone := some ⟨k.seq, k.time⟩,
            writer :=
              .writing next
                { seq := s.supmon.nextSeq, time := s.cal.t, b := s.bill.b, r := s.bill.r, q := s.bill.q, h := s.bill.h,
                  d := s.bill.d, emergency := s.bill.emergency, accepted := s.code.accepted, lowMark := s.code.lowMark,
                  ts := s.tamper.ts, tsLock := s.tamper.tsLock, tsClear := s.tamper.tsClear, totals := s.totals,
                  set := s.sw.set, confirm := s.sw.confirm, commissioned := s.tariff.commissioned,
                  counter := s.log.next.getD 0, active := s.tariff.active } 0 } ∧
        (∀ e key code share, s.code.flight = some ⟨e, key, .persisting code share true⟩ →
          t.code.flight = none ∧
          (t.code.results.get e.port).getLast? = some ⟨e.ticket, .accepted, some code, share⟩ ∧
          (t.alert.ports.get e.port).classes.get (.latched .codeDone) =
            ⟨true, ((s.alert.ports.get e.port).classes.get (.latched .codeDone)).count + 1#8⟩) ∧
        (∀ e key code share, s.code.flight = some ⟨e, key, .persisting code share false⟩ →
          t.code = { s.code with flight := some ⟨e, key, .persisting code share true⟩ } ∧ t.alert = s.alert)) ∧
      t = { s.take .checkpointWriteComplete with supmon := t.supmon, code := t.code, alert := t.alert }) ∧
  (∀ ring : List Slot, ring ≠ [] →
    let slot := chooseSlot ring
    slot < ring.length ∧
      ∀ j, j < ring.length →
        slotRank (ring.getD slot .empty) ≤ slotRank (ring.getD j .empty) ∧
          (j < slot → slotRank (ring.getD slot .empty) < slotRank (ring.getD j .empty)))

/-! ## 10: command ports -/

/-- Every well-formed command that a master may send on its port is read back from its frame: the byte order, the argument
counts and the permissions of 12.3 and 10.4 (R181, R197). A receiver in HUNTING takes a start byte and the bytes of a command
frame into that frame, whatever other bytes came before it (R178). -/
def Obligations.CommandFramesAgree : Prop :=
  (∀ (i : Instr) (p : Port) (code : Byte) (args : List Byte),
    i.wellFormed = true → commandParts i = some (p, code, args) → permission code p = some true →
    readFrame p (commandFrame code args) = some i ∧ args.length ≤ 59) ∧
  (∀ (l : Line) (fill args : List Byte) (code : Byte),
    l.receiver = .hunting → (∀ b ∈ fill, b ≠ 0xC3#8) → args.length ≤ 59 →
    receiveAll l (fill ++ 0xC3#8 :: commandFrame code args) =
      ({ l with received := [] }, [commandFrame code args]))

/-- The receiver, byte by byte, on both ports, with the inter-byte timer of the network port, which starts at each byte inside
a frame and counts in an idle part; the byte that the meter port clocks out with each byte it takes, and the
bytes it does not hear after a restore (R178 to R180, R189); a byte that has only begun, and the one byte that the network port
ignores because it began before the end of the restore (R189); what cuts a frame short on each port,
and the end of a response (R178 to R180, R182). MSDO is high impedance from the release of MCSN on; NTXD is undriven while the main domain is stopped,
high while the port owes nothing, and otherwise carries the start bit, the data bits and the stop bit of the byte being sent,
which goes on with every idle millisecond (R179, R180, R189; what the model keeps of the lines, and of a byte that has begun, is
log entry 35; an inter-byte timeout before 20 ms does nothing, log entry 4, nor does LENGTH_BYTE_REJECT of a byte
that frames a command or outside LENGTH, log entry 1; the idle millisecond is log entry 3; the count 0 of
the stopped inter-byte timer is log entry 36). -/
def Obligations.ReceiverStates : Prop :=
  (∀ (b : Byte) (s : State), mainGood s = true → NoFrameWaits .network s → s.ports.stale = false →
    let l := s.ports.line.network
    ∃ t, exec (.receiverByte .network (some b)) s = .next t ∧
      t = { s.take (.receiverByte .network (some b)) with ports := t.ports, handed := t.handed } ∧
      t.ports = { s.ports with line := t.ports.line, interByte := t.ports.interByte } ∧
      t.ports.interByte = (if t.ports.line.network.receiver = .hunting then .stopped else .started) ∧
      t.ports.line.meter = s.ports.line.meter ∧ t.ports.line.network.owed = l.owed ∧
      (l.receiver = .hunting → b ≠ 0xC3#8 → t.ports.line.network = l) ∧
      (l.receiver = .hunting → b = 0xC3#8 → t.ports.line.network = { l with receiver := .length, received := [] }) ∧
      (l.receiver = .length → 1 ≤ b.toNat → b.toNat ≤ 60 →
        t.ports.line.network = { l with receiver := .body b.toNat, received := [b] }) ∧
      (l.receiver = .length → (b.toNat = 0 ∨ 60 < b.toNat) →
        t.ports.line.network =
            { l with receiver := .hunting, received := [], discarded := min (l.discarded + 1) 65535 } ∧
          exec (.lengthByteReject .network b) s =
            .next { t with handed := (s.take (.lengthByteReject .network b)).handed }) ∧
      (l.receiver ≠ .length ∨ (1 ≤ b.toNat ∧ b.toNat ≤ 60) →
        exec (.lengthByteReject .network b) s = .next (s.take (.lengthByteReject .network b))) ∧
      (∀ n, l.receiver = .body n → l.received.length + 1 < n + 2 →
        t.ports.line.network = { l with received := l.received ++ [b] }) ∧
      (∀ n, l.receiver = .body n → n + 2 ≤ l.received.length + 1 →
        t.ports.line.network = { l with receiver := .hunting, received := [] } ∧
          t.handed =
            (s.take (.receiverByte .network (some b))).handed ++
              [(readFrame .network (l.received ++ [b])).getD (.badFrame .network (l.received ++ [b]))])) ∧
  (∀ (b : Byte) (s : State), mainGood s = true → NoFrameWaits .meter s →
    let l := s.ports.line.meter
    ∃ t, exec (.receiverByte .meter (some b)) s = .next t ∧
      t = { s.take (.receiverByte .meter (some b)) with ports := t.ports, handed := t.handed,
                                                        pins := { s.pins with mcsn := false } } ∧
      t.ports = { s.ports with line := t.ports.line, msdo := t.ports.msdo } ∧
      t.ports.line.network = s.ports.line.network ∧
      (l.owed = [] → t.ports.msdo = some 0#8 ∧ t.ports.line.meter.owed = []) ∧
      (∀ r rest, l.owed = r :: rest → l.sent < r.length →
        t.ports.msdo = some (r.getD l.sent 0#8) ∧ t.ports.line.meter.owed = l.owed ∧
          t.ports.line.meter.sent = l.sent + 1) ∧
      (l.receiver = .hunting → b ≠ 0xC3#8 → t.ports.line.meter.receiver = .hunting) ∧
      (s.ports.deaf = false →
        let m := t.ports.line.meter
        (l.receiver = .hunting → b = 0xC3#8 → m.receiver = .length ∧ m.received = []) ∧
        (l.receiver = .length → 1 ≤ b.toNat → b.toNat ≤ 60 → m.receiver = .body b.toNat ∧ m.received = [b]) ∧
        (l.receiver = .length → (b.toNat = 0 ∨ 60 < b.toNat) →
          m.receiver = .hunting ∧ m.received = [] ∧ m.discarded = min (l.discarded + 1) 65535) ∧
        (∀ n, l.receiver = .body n → l.received.length + 1 < n + 2 →
          m.receiver = .body n ∧ m.received = l.received ++ [b]) ∧
        (∀ n, l.receiver = .body n → n + 2 ≤ l.received.length + 1 →
          m.receiver = .hunting ∧ m.received = [] ∧
            t.handed =
              (s.take (.receiverByte .meter (some b))).handed ++
                [(readFrame .meter (l.received ++ [b])).getD (.badFrame .meter (l.received ++ [b]))]) ∧
        (l.receiver ≠ .length → m.discarded = l.discarded)) ∧
      (l.receiver = .length → (b.toNat = 0 ∨ 60 < b.toNat) →
        exec (.lengthByteReject .meter b) s =
          .next { t with handed := (s.take (.lengthByteReject .meter b)).handed, pins := s.pins }) ∧
      (l.receiver ≠ .length ∨ (1 ≤ b.toNat ∧ b.toNat ≤ 60) →
        exec (.lengthByteReject .meter b) s = .next (s.take (.lengthByteReject .meter b))) ∧
      (s.ports.deaf = true →
        t.ports.line.meter.receiver = l.receiver ∧ t.ports.line.meter.received = l.received ∧
          t.handed = (s.take (.receiverByte .meter (some b))).handed)) ∧
  (∀ s : State, mainGood s = true →
    let begun := fun b : Byte =>
      { s.take (.receiverByte .meter none) with
        ports := { s.ports with msdo := some b }, pins := { s.pins with mcsn := false } }
    let l := s.ports.line.meter
    (NoFrameWaits .meter s →
      (l.owed = [] → exec (.receiverByte .meter none) s = .next (begun 0#8)) ∧
      (∀ r rest, l.owed = r :: rest → l.sent < r.length →
        exec (.receiverByte .meter none) s = .next (begun (r.getD l.sent 0#8)))) ∧
    (NoFrameWaits .network s →
      exec (.receiverByte .network none) s =
        .next
          { s.take (.receiverByte .network none) with
            ports := { s.ports with interByte := .stopped, stale := false } } ∧
      (s.ports.stale = true →
        (∀ b, exec (.receiverByte .network (some b)) s =
          .next { s.take (.receiverByte .network (some b)) with ports := { s.ports with stale := false } }) ∧
        exec .uartFramingError s = .next { s.take .uartFramingError with ports := { s.ports with stale := false } })) ∧
    (Idle s → ∃ t, step s = .next t ∧ Counts 20 s.ports.interByte t.ports.interByte)) ∧
  (∀ s : State, mainGood s = true →
    let released := { s.take .mcsnRelease with pins := { s.pins with mcsn := true } }
    (s.ports.line.meter.receiver = .hunting →
      exec .mcsnRelease s = .next { released with ports := { s.ports with msdo := none, deaf := false } }) ∧
    (s.ports.line.meter.receiver ≠ .hunting →
      exec .mcsnRelease s =
        .next
          { released with ports := { s.ports with
              line := { s.ports.line with
                meter := { s.ports.line.meter with
                  receiver := .hunting, received := [],
                  discarded := min (s.ports.line.meter.discarded + 1) 65535 } },
              msdo := none, deaf := false } }) ∧
    (s.ports.line.network.receiver ≠ .hunting →
      let cut :=
        { s.ports with
          line := { s.ports.line with
            network := { s.ports.line.network with
              receiver := .hunting, received := [],
              discarded := min (s.ports.line.network.discarded + 1) 65535 } },
          interByte := .stopped }
      (s.ports.stale = false →
        exec .uartFramingError s = .next { s.take .uartFramingError with ports := cut }) ∧
      (s.ports.interByte.running = true → 20 ≤ s.ports.interByte.ms →
        exec .interByteTimeout s = .next { s.take .interByteTimeout with ports := cut })) ∧
    (s.ports.line.network.receiver = .hunting → s.ports.stale = false →
      exec .uartFramingError s = .next (s.take .uartFramingError)) ∧
    (s.ports.interByte.running = false ∨ s.ports.interByte.ms < 20 →
      exec .interByteTimeout s = .next (s.take .interByteTimeout)) ∧
    (∀ p, exec (.responseSent p) s =
      .next
        { s.take (.responseSent p) with
          ports :=
            { s.ports with
              line :=
                s.ports.line.set p
                  { s.ports.line.get p with owed := (s.ports.line.get p).owed.tail, sent := 0 },
              txTenths := if p = .network then 0 else s.ports.txTenths } })) ∧
  (∀ s : State, s.supmon.supply ≠ .mainGood →
    (∀ b, exec (.receiverByte .meter b) s = .next { s with pins := { s.pins with mcsn := false } } ∧
      exec (.receiverByte .network b) s = .next { s with ports := { s.ports with stale := b.isNone } }) ∧
      exec .uartFramingError s = .next { s with ports := { s.ports with stale := false } } ∧
      exec .mcsnRelease s = .next { s with pins := { s.pins with mcsn := true } } ∧ ntxd s = none) ∧
  (∀ s : State, mainGood s = true →
    let l := s.ports.line.network
    (l.owed = [] → ntxd s = some true) ∧
    (∀ r rest, l.owed = r :: rest → l.sent < r.length →
      (s.ports.txTenths < 10 → ntxd s = some false) ∧
      (∀ k, k < 8 → s.ports.txTenths / 10 = k + 1 → ntxd s = some ((r.getD l.sent 0#8).getLsbD k)) ∧
      (90 ≤ s.ports.txTenths → ntxd s = some true)) ∧
    (Idle s → ∀ r rest, l.owed = r :: rest →
      let rate := match s.ports.baud with | .b9600 => 96 | .b19200 => 192 | .b38400 => 384 | .b115200 => 1152
      ∃ t, step s = .next t ∧ l.sent < r.length ∧ t.ports.line.network.owed = l.owed ∧
        t.ports.line.network.sent = min r.length (l.sent + (s.ports.txTenths + rate) / 100) ∧
        (t.ports.line.network.sent < r.length → t.ports.txTenths = (s.ports.txTenths + rate) % 100)))

/-- Provisioning and locking the identity, and the identity write that each asks for: into the older place, which fails its
check until the write completes, with a count above the other's; a request during a write is one further write, which starts
from the working record when the first completes (R184, R186, R187; which of two places that both fail is the older one is log
entry 23, that the count has no end is log entry 29, a write may complete at any moment after its start, log entry 5, and a
completion with no write in progress changes nothing, log entry 1). A
locked identity changes at no command but the end of a cold restore (R185, R187). -/
def Obligations.IdentityKept : Prop :=
  ((∀ (number : BitVec 48) (key : BitVec 144) (s : State), Ready .network s →
    let c := Instr.provisionIdentity .network number key
    let w := s.identity.working
    (w.locked = true → exec c s = .next (respond .network (.bare .identityLocked) (s.take c))) ∧
    (w.locked = false → 9999999999999 < number.toNat →
      exec c s = .next (respond .network (.bare .badArgument) (s.take c))) ∧
    (w.locked = false → number.toNat ≤ 9999999999999 →
      ∃ t, exec c s = .next (respond .network (.bare .ok) t) ∧ t = { s.take c with identity := t.identity } ∧
        t.identity.working = { number := some number.toNat, key := some key, provisioned := true, locked := false } ∧
        IdentityWriteAsked s.identity t.identity)) ∧
  (∀ s : State, Ready .network s →
    let c := Instr.lockIdentity .network
    let w := s.identity.working
    (w.locked = true → exec c s = .next (respond .network (.bare .identityLocked) (s.take c))) ∧
    (w.locked = false → w.provisioned = false →
      exec c s = .next (respond .network (.bare .notProvisioned) (s.take c))) ∧
    (w.locked = false → w.provisioned = true →
      ∃ t, exec c s = .next (respond .network (.bare .ok) t) ∧ t = { s.take c with identity := t.identity } ∧
        t.identity.working = { w with locked := true } ∧ IdentityWriteAsked s.identity t.identity)) ∧
  (∀ i : Identity,
    (olderPlace i.countA i.countB = .a ↔
      i.placeA = none ∨ ∃ x y, i.placeA = some x ∧ i.placeB = some y ∧ x.count < y.count) ∧
    nextCount i.countA i.countB .a = ((i.placeB.map (·.count)).getD 0) + 1 ∧
    nextCount i.countA i.countB .b = ((i.placeA.map (·.count)).getD 0) + 1) ∧
  (∀ (w : IdentityWrite) (s : State), mainGood s = true → s.identity.writing = some w → s.identity.again = true →
    let stored :=
      { s.identity with
        placeA := if w.place = .a then some w.copy else s.identity.placeA,
        placeB := if w.place = .b then some w.copy else s.identity.placeB, writing := none }
    ∃ t, exec .identityWriteComplete s = .next t ∧ t = { s.take .identityWriteComplete with identity := t.identity } ∧
      t.identity.working = s.identity.working ∧ t.identity.again = false ∧ IdentityWriteAsked stored t.identity) ∧
  (∀ s : State, mainGood s = true → s.identity.writing = none →
    exec .identityWriteComplete s = .next (s.take .identityWriteComplete)) ∧
  (∀ (w : IdentityWrite) (s : State), mainGood s = true → s.identity.writing = some w → s.identity.again = false →
    exec .identityWriteComplete s =
      .next
        { s.take .identityWriteComplete with
          identity :=
            { s.identity with
              placeA := if w.place = .a then some w.copy else s.identity.placeA,
              placeB := if w.place = .b then some w.copy else s.identity.placeB, writing := none } })) ∧
  (∀ s t : State, step s = .next t → s.identity.working.locked = true →
    t.identity.working = s.identity.working ∨
      (s.supmon.supply = .restoring ∧ s.supmon.retention = false ∧ t.supmon.supply = .mainGood ∧ t.supmon.cause = .cold))

/-! ## 11: alerts -/

/-- Occurrences, acknowledgements and the level tables of a port, with what each leaves as it was (R190, R194, R195; the bytes of the ALERT_ACK and
SET_ALERT_LEVELS responses are the model's reading of R197, log entry 19); the alert line, and the class that ALERT_QUERY
selects (R192, R193). -/
def Obligations.AlertsKept : Prop :=
  ((∀ (k : LatchedClass) (m n : Bool) (s : State), mainGood s = true →
    ∃ t, exec (.alertOccurrence k m n) s = .next t ∧ t = { s.take (.alertOccurrence k m n) with alert := t.alert } ∧
      t.alert.conditions = s.alert.conditions ∧
      (m = true → OnlySignalled (.latched k) s.alert.ports.meter t.alert.ports.meter) ∧
      (m = false → t.alert.ports.meter = s.alert.ports.meter) ∧
      (n = true → OnlySignalled (.latched k) s.alert.ports.network t.alert.ports.network) ∧
      (n = false → t.alert.ports.network = s.alert.ports.network)) ∧
  (∀ (p : Port) (cls count : Byte) (k : AlertClass) (s : State), Ready p s → alertClassOf cls.toNat = some k →
    let c := Instr.alertAck p cls count
    let x := (s.alert.ports.get p).classes.get k
    let answer := fun (st : Status) (flag : Bool) (t : State) =>
      Reply.mk st (flagByte [flag, alertLine p t] ++ [x.count])
    let holds := match k with | .latched _ => false | .condition y => s.alert.conditions.get y
    (x.pending = true → holds = true →
      exec c s = .next (respond p (answer .conditionPresent true s) (s.take c))) ∧
    (x.pending = true → holds = false → x.count ≠ count →
      exec c s = .next (respond p (answer .stale true s) (s.take c))) ∧
    (x.pending = false ∨ (holds = false ∧ x.count = count) →
      ∃ t, exec c s = .next (respond p (answer .ok false t) t) ∧ t = { s.take c with alert := t.alert } ∧
        (t.alert.ports.get p).classes.get k = ⟨false, x.count⟩ ∧
        (∀ j, j ≠ k → (t.alert.ports.get p).classes.get j = (s.alert.ports.get p).classes.get j) ∧
        (t.alert.ports.get p).levels = (s.alert.ports.get p).levels ∧
        (t.alert.ports.get p).threshold = (s.alert.ports.get p).threshold ∧ t.alert.conditions = s.alert.conditions ∧
        t.alert.ports.get (match p with | .meter => .network | .network => .meter) =
          s.alert.ports.get (match p with | .meter => .network | .network => .meter))) ∧
  (∀ (p : Port) (cls count : Byte) (s : State), Ready p s → (cls.toNat = 0 ∨ 12 < cls.toNat) →
    exec (.alertAck p cls count) s = .next (respond p (.bare .badArgument) (s.take (.alertAck p cls count)))) ∧
  (∀ (p : Port) (levels : List Byte) (threshold : Byte) (s : State), Ready p s → levels.length = 12 →
    let c := Instr.setAlertLevels p levels threshold
    (threshold.toNat ≤ 7 → (∀ v ∈ levels, v.toNat ≤ 7) →
      ∃ t, exec c s = .next (respond p ⟨.ok, flagByte [alertLine p t]⟩ t) ∧ t = { s.take c with alert := t.alert } ∧
        (t.alert.ports.get p).classes = (s.alert.ports.get p).classes ∧
        (t.alert.ports.get p).threshold = threshold.toNat ∧ t.alert.conditions = s.alert.conditions ∧
        t.alert.ports.get (match p with | .meter => .network | .network => .meter) =
          s.alert.ports.get (match p with | .meter => .network | .network => .meter) ∧
        (∀ j k, alertClassOf (j + 1) = some k →
          (t.alert.ports.get p).levels.get k = (levels.getD j 0#8).toNat)) ∧
    (7 < threshold.toNat ∨ (∃ v ∈ levels, 7 < v.toNat) →
      exec c s = .next (respond p (.bare .badArgument) (s.take c))))) ∧
  (∀ (p : Port) (s : State),
    (alertLine p s = true ↔
      s.supmon.supply = .mainGood ∧
        ∃ k, ((s.alert.ports.get p).classes.get k).pending = true ∧
          (s.alert.ports.get p).threshold < (s.alert.ports.get p).levels.get k) ∧
    ((s.alert.ports.get p).selected = none ↔ ∀ k, ((s.alert.ports.get p).classes.get k).pending = false) ∧
    (∀ k, (s.alert.ports.get p).selected = some k →
      ((s.alert.ports.get p).classes.get k).pending = true ∧
        ∀ j, ((s.alert.ports.get p).classes.get j).pending = true →
          (s.alert.ports.get p).levels.get j < (s.alert.ports.get p).levels.get k ∨
            ((s.alert.ports.get p).levels.get j = (s.alert.ports.get p).levels.get k ∧
              alertClassNumber k ≤ alertClassNumber j)))

/-- A presentation against the condition record: an onset counts and sets the flags of its class alone, an end clears only the record, and a
repetition does nothing; EVIDENCE_THRESHOLD leaves the meter port (R191). -/
def Obligations.ConditionsPresented : Prop :=
  ∀ (k : ConditionClass) (now : Bool) (s : State), mainGood s = true →
    ∃ t, exec (.conditionPresentation k now) s = .next t ∧
      t = { s.take (.conditionPresentation k now) with alert := t.alert } ∧
      t.alert.conditions = s.alert.conditions.set k now ∧
      (now = true → s.alert.conditions.get k = false →
        OnlySignalled (.condition k) s.alert.ports.network t.alert.ports.network ∧
        (k ≠ .evidenceThreshold → OnlySignalled (.condition k) s.alert.ports.meter t.alert.ports.meter) ∧
        (k = .evidenceThreshold → t.alert.ports.meter = s.alert.ports.meter)) ∧
      (now = false ∨ s.alert.conditions.get k = true → t.alert.ports = s.alert.ports)

/-! ## The whole part -/

/-- TS_lock and TS_clear stay at or below TS, in the part and in every checkpoint (R126, R127, R172). -/
def Obligations.SequencesStayOrdered : Prop := KeptByEveryStep TamperOrdered

/-- The accepted-code list stays ascending, above the low mark and within 32 numbers, here and in every checkpoint; the
queues of CODE, the holds of waiting evidence and the owed responses stay within their bounds (R68, R83, R85, R101, R128,
R159, R172, R182). -/
def Obligations.CodeStaysBounded : Prop :=
  (KeptByEveryStep CodesBounded) ∧
  (KeptByEveryStep QueuesBounded)

/-- A close pulse is never in progress while the open-demand set is not empty, the hold-off runs or the inhibit is asserted;
no pulse runs without good main power, or within 20 ms of the end of the last pulse on the other coil; a phase exists exactly
in an operation; CLOSED keeps a member in the set only under the fault flag (R94 to R99, R102). -/
def Obligations.SwitchStaysSafe : Prop := KeptByEveryStep SwitchSafe

/-- The money stays in range and every tariff for use stays a valid record, in the part, in the image and in every
checkpoint (R20, R21, R23, R27 to R29, R51 to R53, R172). -/
def Obligations.MoneyAndTariffsStaySound : Prop := KeptByEveryStep MoneyAndTariffsSound

/-- The log keeps its bounds, its number order and its cap of 64 uncollected records under both copies of the mark (R140,
R142, R144, R146, R151). -/
def Obligations.LogStaysSound : Prop := KeptByEveryStep LogSound

/-- What every step keeps holds of the part right after its first restore, whose tariff is the default one, with the values of
its table (R61); the reset values that the spec does not give are the model's (log entries 6 and 7). -/
def Obligations.ResetMeetsInvariants : Prop :=
  TamperOrdered State.reset ∧ CodesBounded State.reset ∧ SwitchSafe State.reset ∧ MoneyAndTariffsSound State.reset ∧
    LogSound State.reset ∧ QueuesBounded State.reset ∧ State.reset.tariff.active = Tariff.default ∧
    Tariff.default =
      { id := 0, prices := ⟨0, 0, 0, 0⟩, workday := [⟨0, .b0⟩], restday := [⟨0, .b0⟩],
        restDays := { mask := 0#7, dates := [] },
        charges := { standing := 0, emergency := 0, lowCredit := 0, maxCredit := 1000, share := 0 },
        friendly := { windows := [], allowance := 0 },
        policy := { ilim := 0, restoreDelay := 30, reverseMode := .ignore, mfix := 0, lockout := 0#7 } }
end

