-- ==== Sys2Proof/Laws/State.lean ====
section
/-! SUPPORT. What each update of the state leaves in each field: one lemma for one field, so that no later proof unfolds a
record update. -/

namespace Sys2Proof.Machine

@[simp] theorem State.take_mlr (i : Instr) (s : State) : (s.take i).mlr = s.mlr := rfl
@[simp] theorem State.take_totals (i : Instr) (s : State) : (s.take i).totals = s.totals := rfl
@[simp] theorem State.take_bill (i : Instr) (s : State) : (s.take i).bill = s.bill := rfl
@[simp] theorem State.take_tariff (i : Instr) (s : State) : (s.take i).tariff = s.tariff := rfl
@[simp] theorem State.take_cal (i : Instr) (s : State) : (s.take i).cal = s.cal := rfl
@[simp] theorem State.take_code (i : Instr) (s : State) : (s.take i).code = s.code := rfl
@[simp] theorem State.take_sw (i : Instr) (s : State) : (s.take i).sw = s.sw := rfl
@[simp] theorem State.take_tamper (i : Instr) (s : State) : (s.take i).tamper = s.tamper := rfl
@[simp] theorem State.take_log (i : Instr) (s : State) : (s.take i).log = s.log := rfl
@[simp] theorem State.take_alert (i : Instr) (s : State) : (s.take i).alert = s.alert := rfl
@[simp] theorem State.take_supmon (i : Instr) (s : State) : (s.take i).supmon = s.supmon := rfl
@[simp] theorem State.take_ports (i : Instr) (s : State) : (s.take i).ports = s.ports := rfl
@[simp] theorem State.take_identity (i : Instr) (s : State) : (s.take i).identity = s.identity := rfl
@[simp] theorem State.take_pins (i : Instr) (s : State) : (s.take i).pins = s.pins := rfl
@[simp] theorem State.take_handed (i : Instr) (s : State) : (s.take i).handed = s.handed.erase i := rfl
@[simp] theorem State.take_pending (i : Instr) (s : State) : (s.take i).pending = s.pending := rfl

@[simp] theorem State.hand_mlr (is : List Instr) (s : State) : (s.hand is).mlr = s.mlr := rfl
@[simp] theorem State.hand_totals (is : List Instr) (s : State) : (s.hand is).totals = s.totals := rfl
@[simp] theorem State.hand_bill (is : List Instr) (s : State) : (s.hand is).bill = s.bill := rfl
@[simp] theorem State.hand_tariff (is : List Instr) (s : State) : (s.hand is).tariff = s.tariff := rfl
@[simp] theorem State.hand_cal (is : List Instr) (s : State) : (s.hand is).cal = s.cal := rfl
@[simp] theorem State.hand_code (is : List Instr) (s : State) : (s.hand is).code = s.code := rfl
@[simp] theorem State.hand_sw (is : List Instr) (s : State) : (s.hand is).sw = s.sw := rfl
@[simp] theorem State.hand_tamper (is : List Instr) (s : State) : (s.hand is).tamper = s.tamper := rfl
@[simp] theorem State.hand_log (is : List Instr) (s : State) : (s.hand is).log = s.log := rfl
@[simp] theorem State.hand_alert (is : List Instr) (s : State) : (s.hand is).alert = s.alert := rfl
@[simp] theorem State.hand_supmon (is : List Instr) (s : State) : (s.hand is).supmon = s.supmon := rfl
@[simp] theorem State.hand_ports (is : List Instr) (s : State) : (s.hand is).ports = s.ports := rfl
@[simp] theorem State.hand_identity (is : List Instr) (s : State) : (s.hand is).identity = s.identity := rfl
@[simp] theorem State.hand_pins (is : List Instr) (s : State) : (s.hand is).pins = s.pins := rfl
@[simp] theorem State.hand_handed (is : List Instr) (s : State) : (s.hand is).handed = s.handed ++ is := rfl
@[simp] theorem State.hand_pending (is : List Instr) (s : State) : (s.hand is).pending = s.pending := rfl

@[simp] theorem setSlot_mlr (x : PendingSlot) (s : State) : (setSlot x s).mlr = s.mlr := rfl
@[simp] theorem setSlot_totals (x : PendingSlot) (s : State) : (setSlot x s).totals = s.totals := rfl
@[simp] theorem setSlot_bill (x : PendingSlot) (s : State) : (setSlot x s).bill = s.bill := rfl
@[simp] theorem setSlot_tariff (x : PendingSlot) (s : State) :
    (setSlot x s).tariff = { s.tariff with slot := x } := rfl
@[simp] theorem setSlot_cal (x : PendingSlot) (s : State) : (setSlot x s).cal = s.cal := rfl
@[simp] theorem setSlot_code (x : PendingSlot) (s : State) : (setSlot x s).code = s.code := rfl
@[simp] theorem setSlot_sw (x : PendingSlot) (s : State) : (setSlot x s).sw = s.sw := rfl
@[simp] theorem setSlot_tamper (x : PendingSlot) (s : State) : (setSlot x s).tamper = s.tamper := rfl
@[simp] theorem setSlot_log (x : PendingSlot) (s : State) : (setSlot x s).log = s.log := rfl
@[simp] theorem setSlot_alert (x : PendingSlot) (s : State) : (setSlot x s).alert = s.alert := rfl
@[simp] theorem setSlot_supmon (x : PendingSlot) (s : State) : (setSlot x s).supmon = s.supmon := rfl
@[simp] theorem setSlot_ports (x : PendingSlot) (s : State) : (setSlot x s).ports = s.ports := rfl
@[simp] theorem setSlot_identity (x : PendingSlot) (s : State) : (setSlot x s).identity = s.identity := rfl
@[simp] theorem setSlot_pins (x : PendingSlot) (s : State) : (setSlot x s).pins = s.pins := rfl
@[simp] theorem setSlot_handed (x : PendingSlot) (s : State) : (setSlot x s).handed = s.handed := rfl
@[simp] theorem setSlot_pending (x : PendingSlot) (s : State) : (setSlot x s).pending = s.pending := rfl

@[simp] theorem setSupply_mlr (st : SupplyState) (o : Option RestoreOrigin) (m : Timer) (s : State) :
    (setSupply st o m s).mlr = s.mlr := rfl
@[simp] theorem setSupply_totals (st : SupplyState) (o : Option RestoreOrigin) (m : Timer) (s : State) :
    (setSupply st o m s).totals = s.totals := rfl
@[simp] theorem setSupply_bill (st : SupplyState) (o : Option RestoreOrigin) (m : Timer) (s : State) :
    (setSupply st o m s).bill = s.bill := rfl
@[simp] theorem setSupply_tariff (st : SupplyState) (o : Option RestoreOrigin) (m : Timer) (s : State) :
    (setSupply st o m s).tariff = s.tariff := rfl
@[simp] theorem setSupply_cal (st : SupplyState) (o : Option RestoreOrigin) (m : Timer) (s : State) :
    (setSupply st o m s).cal = s.cal := rfl
@[simp] theorem setSupply_code (st : SupplyState) (o : Option RestoreOrigin) (m : Timer) (s : State) :
    (setSupply st o m s).code = s.code := rfl
@[simp] theorem setSupply_sw (st : SupplyState) (o : Option RestoreOrigin) (m : Timer) (s : State) :
    (setSupply st o m s).sw = s.sw := rfl
@[simp] theorem setSupply_tamper (st : SupplyState) (o : Option RestoreOrigin) (m : Timer) (s : State) :
    (setSupply st o m s).tamper = s.tamper := rfl
@[simp] theorem setSupply_log (st : SupplyState) (o : Option RestoreOrigin) (m : Timer) (s : State) :
    (setSupply st o m s).log = s.log := rfl
@[simp] theorem setSupply_alert (st : SupplyState) (o : Option RestoreOrigin) (m : Timer) (s : State) :
    (setSupply st o m s).alert = s.alert := rfl
@[simp] theorem setSupply_supmon (st : SupplyState) (o : Option RestoreOrigin) (m : Timer) (s : State) :
    (setSupply st o m s).supmon = { s.supmon with supply := st, origin := o, restoreTimer := m } := rfl
@[simp] theorem setSupply_ports (st : SupplyState) (o : Option RestoreOrigin) (m : Timer) (s : State) :
    (setSupply st o m s).ports = s.ports := rfl
@[simp] theorem setSupply_identity (st : SupplyState) (o : Option RestoreOrigin) (m : Timer) (s : State) :
    (setSupply st o m s).identity = s.identity := rfl
@[simp] theorem setSupply_pins (st : SupplyState) (o : Option RestoreOrigin) (m : Timer) (s : State) :
    (setSupply st o m s).pins = s.pins := rfl
@[simp] theorem setSupply_handed (st : SupplyState) (o : Option RestoreOrigin) (m : Timer) (s : State) :
    (setSupply st o m s).handed = s.handed := rfl
@[simp] theorem setSupply_pending (st : SupplyState) (o : Option RestoreOrigin) (m : Timer) (s : State) :
    (setSupply st o m s).pending = s.pending := rfl

@[simp] theorem setVmain_mlr (b : Bool) (s : State) : (setVmain b s).mlr = s.mlr := rfl
@[simp] theorem setVmain_totals (b : Bool) (s : State) : (setVmain b s).totals = s.totals := rfl
@[simp] theorem setVmain_bill (b : Bool) (s : State) : (setVmain b s).bill = s.bill := rfl
@[simp] theorem setVmain_tariff (b : Bool) (s : State) : (setVmain b s).tariff = s.tariff := rfl
@[simp] theorem setVmain_cal (b : Bool) (s : State) : (setVmain b s).cal = s.cal := rfl
@[simp] theorem setVmain_code (b : Bool) (s : State) : (setVmain b s).code = s.code := rfl
@[simp] theorem setVmain_sw (b : Bool) (s : State) : (setVmain b s).sw = s.sw := rfl
@[simp] theorem setVmain_tamper (b : Bool) (s : State) : (setVmain b s).tamper = s.tamper := rfl
@[simp] theorem setVmain_log (b : Bool) (s : State) : (setVmain b s).log = s.log := rfl
@[simp] theorem setVmain_alert (b : Bool) (s : State) : (setVmain b s).alert = s.alert := rfl
@[simp] theorem setVmain_supmon (b : Bool) (s : State) : (setVmain b s).supmon = s.supmon := rfl
@[simp] theorem setVmain_ports (b : Bool) (s : State) : (setVmain b s).ports = s.ports := rfl
@[simp] theorem setVmain_identity (b : Bool) (s : State) : (setVmain b s).identity = s.identity := rfl
@[simp] theorem setVmain_pins (b : Bool) (s : State) : (setVmain b s).pins = { s.pins with vmainGood := b } := rfl
@[simp] theorem setVmain_handed (b : Bool) (s : State) : (setVmain b s).handed = s.handed := rfl
@[simp] theorem setVmain_pending (b : Bool) (s : State) : (setVmain b s).pending = s.pending := rfl

@[simp] theorem setResetn_mlr (b : Bool) (s : State) : (setResetn b s).mlr = s.mlr := rfl
@[simp] theorem setResetn_totals (b : Bool) (s : State) : (setResetn b s).totals = s.totals := rfl
@[simp] theorem setResetn_bill (b : Bool) (s : State) : (setResetn b s).bill = s.bill := rfl
@[simp] theorem setResetn_tariff (b : Bool) (s : State) : (setResetn b s).tariff = s.tariff := rfl
@[simp] theorem setResetn_cal (b : Bool) (s : State) : (setResetn b s).cal = s.cal := rfl
@[simp] theorem setResetn_code (b : Bool) (s : State) : (setResetn b s).code = s.code := rfl
@[simp] theorem setResetn_sw (b : Bool) (s : State) : (setResetn b s).sw = s.sw := rfl
@[simp] theorem setResetn_tamper (b : Bool) (s : State) : (setResetn b s).tamper = s.tamper := rfl
@[simp] theorem setResetn_log (b : Bool) (s : State) : (setResetn b s).log = s.log := rfl
@[simp] theorem setResetn_alert (b : Bool) (s : State) : (setResetn b s).alert = s.alert := rfl
@[simp] theorem setResetn_supmon (b : Bool) (s : State) : (setResetn b s).supmon = s.supmon := rfl
@[simp] theorem setResetn_ports (b : Bool) (s : State) : (setResetn b s).ports = s.ports := rfl
@[simp] theorem setResetn_identity (b : Bool) (s : State) : (setResetn b s).identity = s.identity := rfl
@[simp] theorem setResetn_pins (b : Bool) (s : State) : (setResetn b s).pins = { s.pins with resetn := b } := rfl
@[simp] theorem setResetn_handed (b : Bool) (s : State) : (setResetn b s).handed = s.handed := rfl
@[simp] theorem setResetn_pending (b : Bool) (s : State) : (setResetn b s).pending = s.pending := rfl

@[simp] theorem failRetention_mlr (s : State) : (failRetention s).mlr = s.mlr := rfl
@[simp] theorem failRetention_totals (s : State) : (failRetention s).totals = s.totals := rfl
@[simp] theorem failRetention_bill (s : State) : (failRetention s).bill = s.bill := rfl
@[simp] theorem failRetention_tariff (s : State) : (failRetention s).tariff = s.tariff := rfl
@[simp] theorem failRetention_cal (s : State) : (failRetention s).cal = s.cal := rfl
@[simp] theorem failRetention_code (s : State) : (failRetention s).code = s.code := rfl
@[simp] theorem failRetention_sw (s : State) : (failRetention s).sw = s.sw := rfl
@[simp] theorem failRetention_tamper (s : State) : (failRetention s).tamper = s.tamper := rfl
@[simp] theorem failRetention_log (s : State) : (failRetention s).log = s.log := rfl
@[simp] theorem failRetention_alert (s : State) : (failRetention s).alert = s.alert := rfl
@[simp] theorem failRetention_supmon (s : State) :
    (failRetention s).supmon = { s.supmon with retention := false } := rfl
@[simp] theorem failRetention_ports (s : State) : (failRetention s).ports = s.ports := rfl
@[simp] theorem failRetention_identity (s : State) : (failRetention s).identity = s.identity := rfl
@[simp] theorem failRetention_pins (s : State) : (failRetention s).pins = s.pins := rfl
@[simp] theorem failRetention_handed (s : State) : (failRetention s).handed = s.handed := rfl
@[simp] theorem failRetention_pending (s : State) : (failRetention s).pending = s.pending := rfl

@[simp] theorem requestCheckpoint_mlr (s : State) : (requestCheckpoint s).mlr = s.mlr := rfl
@[simp] theorem requestCheckpoint_totals (s : State) : (requestCheckpoint s).totals = s.totals := rfl
@[simp] theorem requestCheckpoint_bill (s : State) : (requestCheckpoint s).bill = s.bill := rfl
@[simp] theorem requestCheckpoint_tariff (s : State) : (requestCheckpoint s).tariff = s.tariff := rfl
@[simp] theorem requestCheckpoint_cal (s : State) : (requestCheckpoint s).cal = s.cal := rfl
@[simp] theorem requestCheckpoint_code (s : State) : (requestCheckpoint s).code = s.code := rfl
@[simp] theorem requestCheckpoint_sw (s : State) : (requestCheckpoint s).sw = s.sw := rfl
@[simp] theorem requestCheckpoint_tamper (s : State) : (requestCheckpoint s).tamper = s.tamper := rfl
@[simp] theorem requestCheckpoint_log (s : State) : (requestCheckpoint s).log = s.log := rfl
@[simp] theorem requestCheckpoint_alert (s : State) : (requestCheckpoint s).alert = s.alert := rfl
@[simp] theorem requestCheckpoint_supmon (s : State) :
    (requestCheckpoint s).supmon = { s.supmon with request := true } := rfl
@[simp] theorem requestCheckpoint_ports (s : State) : (requestCheckpoint s).ports = s.ports := rfl
@[simp] theorem requestCheckpoint_identity (s : State) : (requestCheckpoint s).identity = s.identity := rfl
@[simp] theorem requestCheckpoint_pins (s : State) : (requestCheckpoint s).pins = s.pins := rfl
@[simp] theorem requestCheckpoint_handed (s : State) : (requestCheckpoint s).handed = s.handed := rfl
@[simp] theorem requestCheckpoint_pending (s : State) : (requestCheckpoint s).pending = s.pending := rfl

@[simp] theorem respond_mlr (p : Port) (r : Reply) (s : State) : (respond p r s).mlr = s.mlr := rfl
@[simp] theorem respond_totals (p : Port) (r : Reply) (s : State) : (respond p r s).totals = s.totals := rfl
@[simp] theorem respond_bill (p : Port) (r : Reply) (s : State) : (respond p r s).bill = s.bill := rfl
@[simp] theorem respond_tariff (p : Port) (r : Reply) (s : State) : (respond p r s).tariff = s.tariff := rfl
@[simp] theorem respond_cal (p : Port) (r : Reply) (s : State) : (respond p r s).cal = s.cal := rfl
@[simp] theorem respond_code (p : Port) (r : Reply) (s : State) : (respond p r s).code = s.code := rfl
@[simp] theorem respond_sw (p : Port) (r : Reply) (s : State) : (respond p r s).sw = s.sw := rfl
@[simp] theorem respond_tamper (p : Port) (r : Reply) (s : State) : (respond p r s).tamper = s.tamper := rfl
@[simp] theorem respond_log (p : Port) (r : Reply) (s : State) : (respond p r s).log = s.log := rfl
@[simp] theorem respond_alert (p : Port) (r : Reply) (s : State) : (respond p r s).alert = s.alert := rfl
@[simp] theorem respond_supmon (p : Port) (r : Reply) (s : State) : (respond p r s).supmon = s.supmon := rfl
@[simp] theorem respond_identity (p : Port) (r : Reply) (s : State) : (respond p r s).identity = s.identity := rfl
@[simp] theorem respond_pins (p : Port) (r : Reply) (s : State) : (respond p r s).pins = s.pins := rfl
@[simp] theorem respond_handed (p : Port) (r : Reply) (s : State) : (respond p r s).handed = s.handed := rfl
@[simp] theorem respond_pending (p : Port) (r : Reply) (s : State) : (respond p r s).pending = s.pending := rfl

@[simp] theorem discardFrame_mlr (p : Port) (s : State) : (discardFrame p s).mlr = s.mlr := rfl
@[simp] theorem discardFrame_totals (p : Port) (s : State) : (discardFrame p s).totals = s.totals := rfl
@[simp] theorem discardFrame_bill (p : Port) (s : State) : (discardFrame p s).bill = s.bill := rfl
@[simp] theorem discardFrame_tariff (p : Port) (s : State) : (discardFrame p s).tariff = s.tariff := rfl
@[simp] theorem discardFrame_cal (p : Port) (s : State) : (discardFrame p s).cal = s.cal := rfl
@[simp] theorem discardFrame_code (p : Port) (s : State) : (discardFrame p s).code = s.code := rfl
@[simp] theorem discardFrame_sw (p : Port) (s : State) : (discardFrame p s).sw = s.sw := rfl
@[simp] theorem discardFrame_tamper (p : Port) (s : State) : (discardFrame p s).tamper = s.tamper := rfl
@[simp] theorem discardFrame_log (p : Port) (s : State) : (discardFrame p s).log = s.log := rfl
@[simp] theorem discardFrame_alert (p : Port) (s : State) : (discardFrame p s).alert = s.alert := rfl
@[simp] theorem discardFrame_supmon (p : Port) (s : State) : (discardFrame p s).supmon = s.supmon := rfl
@[simp] theorem discardFrame_identity (p : Port) (s : State) : (discardFrame p s).identity = s.identity := rfl
@[simp] theorem discardFrame_pins (p : Port) (s : State) : (discardFrame p s).pins = s.pins := rfl
@[simp] theorem discardFrame_handed (p : Port) (s : State) : (discardFrame p s).handed = s.handed := rfl
@[simp] theorem discardFrame_pending (p : Port) (s : State) : (discardFrame p s).pending = s.pending := rfl

@[simp] theorem setLine_mlr (p : Port) (l : Line) (s : State) : (setLine p l s).mlr = s.mlr := rfl
@[simp] theorem setLine_totals (p : Port) (l : Line) (s : State) : (setLine p l s).totals = s.totals := rfl
@[simp] theorem setLine_bill (p : Port) (l : Line) (s : State) : (setLine p l s).bill = s.bill := rfl
@[simp] theorem setLine_tariff (p : Port) (l : Line) (s : State) : (setLine p l s).tariff = s.tariff := rfl
@[simp] theorem setLine_cal (p : Port) (l : Line) (s : State) : (setLine p l s).cal = s.cal := rfl
@[simp] theorem setLine_code (p : Port) (l : Line) (s : State) : (setLine p l s).code = s.code := rfl
@[simp] theorem setLine_sw (p : Port) (l : Line) (s : State) : (setLine p l s).sw = s.sw := rfl
@[simp] theorem setLine_tamper (p : Port) (l : Line) (s : State) : (setLine p l s).tamper = s.tamper := rfl
@[simp] theorem setLine_log (p : Port) (l : Line) (s : State) : (setLine p l s).log = s.log := rfl
@[simp] theorem setLine_alert (p : Port) (l : Line) (s : State) : (setLine p l s).alert = s.alert := rfl
@[simp] theorem setLine_supmon (p : Port) (l : Line) (s : State) : (setLine p l s).supmon = s.supmon := rfl
@[simp] theorem setLine_ports (p : Port) (l : Line) (s : State) :
    (setLine p l s).ports = { s.ports with line := s.ports.line.set p l } := rfl
@[simp] theorem setLine_identity (p : Port) (l : Line) (s : State) : (setLine p l s).identity = s.identity := rfl
@[simp] theorem setLine_pins (p : Port) (l : Line) (s : State) : (setLine p l s).pins = s.pins := rfl
@[simp] theorem setLine_handed (p : Port) (l : Line) (s : State) : (setLine p l s).handed = s.handed := rfl
@[simp] theorem setLine_pending (p : Port) (l : Line) (s : State) : (setLine p l s).pending = s.pending := rfl

@[simp] theorem occurrence_mlr (c : LatchedClass) (a b : Bool) (s : State) : (occurrence c a b s).mlr = s.mlr := rfl
@[simp] theorem occurrence_totals (c : LatchedClass) (a b : Bool) (s : State) :
    (occurrence c a b s).totals = s.totals := rfl
@[simp] theorem occurrence_bill (c : LatchedClass) (a b : Bool) (s : State) :
    (occurrence c a b s).bill = s.bill := rfl
@[simp] theorem occurrence_tariff (c : LatchedClass) (a b : Bool) (s : State) :
    (occurrence c a b s).tariff = s.tariff := rfl
@[simp] theorem occurrence_cal (c : LatchedClass) (a b : Bool) (s : State) : (occurrence c a b s).cal = s.cal := rfl
@[simp] theorem occurrence_code (c : LatchedClass) (a b : Bool) (s : State) :
    (occurrence c a b s).code = s.code := rfl
@[simp] theorem occurrence_sw (c : LatchedClass) (a b : Bool) (s : State) : (occurrence c a b s).sw = s.sw := rfl
@[simp] theorem occurrence_tamper (c : LatchedClass) (a b : Bool) (s : State) :
    (occurrence c a b s).tamper = s.tamper := rfl
@[simp] theorem occurrence_log (c : LatchedClass) (a b : Bool) (s : State) : (occurrence c a b s).log = s.log := rfl
@[simp] theorem occurrence_supmon (c : LatchedClass) (a b : Bool) (s : State) :
    (occurrence c a b s).supmon = s.supmon := rfl
@[simp] theorem occurrence_ports (c : LatchedClass) (a b : Bool) (s : State) :
    (occurrence c a b s).ports = s.ports := rfl
@[simp] theorem occurrence_identity (c : LatchedClass) (a b : Bool) (s : State) :
    (occurrence c a b s).identity = s.identity := rfl
@[simp] theorem occurrence_pins (c : LatchedClass) (a b : Bool) (s : State) :
    (occurrence c a b s).pins = s.pins := rfl
@[simp] theorem occurrence_handed (c : LatchedClass) (a b : Bool) (s : State) :
    (occurrence c a b s).handed = s.handed := rfl
@[simp] theorem occurrence_pending (c : LatchedClass) (a b : Bool) (s : State) :
    (occurrence c a b s).pending = s.pending := rfl

@[simp] theorem present_mlr (c : ConditionClass) (b : Bool) (s : State) : (present c b s).mlr = s.mlr := rfl
@[simp] theorem present_totals (c : ConditionClass) (b : Bool) (s : State) : (present c b s).totals = s.totals := rfl
@[simp] theorem present_bill (c : ConditionClass) (b : Bool) (s : State) : (present c b s).bill = s.bill := rfl
@[simp] theorem present_tariff (c : ConditionClass) (b : Bool) (s : State) : (present c b s).tariff = s.tariff := rfl
@[simp] theorem present_cal (c : ConditionClass) (b : Bool) (s : State) : (present c b s).cal = s.cal := rfl
@[simp] theorem present_code (c : ConditionClass) (b : Bool) (s : State) : (present c b s).code = s.code := rfl
@[simp] theorem present_sw (c : ConditionClass) (b : Bool) (s : State) : (present c b s).sw = s.sw := rfl
@[simp] theorem present_tamper (c : ConditionClass) (b : Bool) (s : State) : (present c b s).tamper = s.tamper := rfl
@[simp] theorem present_log (c : ConditionClass) (b : Bool) (s : State) : (present c b s).log = s.log := rfl
@[simp] theorem present_alert (c : ConditionClass) (b : Bool) (s : State) :
    (present c b s).alert = s.alert.present c b := rfl
@[simp] theorem present_supmon (c : ConditionClass) (b : Bool) (s : State) : (present c b s).supmon = s.supmon := rfl
@[simp] theorem present_ports (c : ConditionClass) (b : Bool) (s : State) : (present c b s).ports = s.ports := rfl
@[simp] theorem present_identity (c : ConditionClass) (b : Bool) (s : State) :
    (present c b s).identity = s.identity := rfl
@[simp] theorem present_pins (c : ConditionClass) (b : Bool) (s : State) : (present c b s).pins = s.pins := rfl
@[simp] theorem present_handed (c : ConditionClass) (b : Bool) (s : State) : (present c b s).handed = s.handed := rfl
@[simp] theorem present_pending (c : ConditionClass) (b : Bool) (s : State) :
    (present c b s).pending = s.pending := rfl

@[simp] theorem stageRoutine_mlr (r : Record) (s : State) : (stageRoutine r s).mlr = s.mlr := rfl
@[simp] theorem stageRoutine_totals (r : Record) (s : State) : (stageRoutine r s).totals = s.totals := rfl
@[simp] theorem stageRoutine_bill (r : Record) (s : State) : (stageRoutine r s).bill = s.bill := rfl
@[simp] theorem stageRoutine_tariff (r : Record) (s : State) : (stageRoutine r s).tariff = s.tariff := rfl
@[simp] theorem stageRoutine_cal (r : Record) (s : State) : (stageRoutine r s).cal = s.cal := rfl
@[simp] theorem stageRoutine_code (r : Record) (s : State) : (stageRoutine r s).code = s.code := rfl
@[simp] theorem stageRoutine_sw (r : Record) (s : State) : (stageRoutine r s).sw = s.sw := rfl
@[simp] theorem stageRoutine_tamper (r : Record) (s : State) : (stageRoutine r s).tamper = s.tamper := rfl
@[simp] theorem stageRoutine_log (r : Record) (s : State) :
    (stageRoutine r s).log = s.log.offerRoutine (evidenceWaiting s) r := rfl
@[simp] theorem stageRoutine_alert (r : Record) (s : State) : (stageRoutine r s).alert = s.alert := rfl
@[simp] theorem stageRoutine_supmon (r : Record) (s : State) : (stageRoutine r s).supmon = s.supmon := rfl
@[simp] theorem stageRoutine_ports (r : Record) (s : State) : (stageRoutine r s).ports = s.ports := rfl
@[simp] theorem stageRoutine_identity (r : Record) (s : State) : (stageRoutine r s).identity = s.identity := rfl
@[simp] theorem stageRoutine_pins (r : Record) (s : State) : (stageRoutine r s).pins = s.pins := rfl
@[simp] theorem stageRoutine_handed (r : Record) (s : State) : (stageRoutine r s).handed = s.handed := rfl
@[simp] theorem stageRoutine_pending (r : Record) (s : State) : (stageRoutine r s).pending = s.pending := rfl

@[simp] theorem stageTamper_mlr (r : Record) (s : State) : (stageTamper r s).mlr = s.mlr := rfl
@[simp] theorem stageTamper_totals (r : Record) (s : State) : (stageTamper r s).totals = s.totals := rfl
@[simp] theorem stageTamper_bill (r : Record) (s : State) : (stageTamper r s).bill = s.bill := rfl
@[simp] theorem stageTamper_tariff (r : Record) (s : State) : (stageTamper r s).tariff = s.tariff := rfl
@[simp] theorem stageTamper_cal (r : Record) (s : State) : (stageTamper r s).cal = s.cal := rfl
@[simp] theorem stageTamper_code (r : Record) (s : State) : (stageTamper r s).code = s.code := rfl
@[simp] theorem stageTamper_sw (r : Record) (s : State) : (stageTamper r s).sw = s.sw := rfl
@[simp] theorem stageTamper_tamper (r : Record) (s : State) :
    (stageTamper r s).tamper = { s.tamper with hold := (s.log.stageFrom s.tamper.hold tamperHoldMax r).1 } := rfl
@[simp] theorem stageTamper_log (r : Record) (s : State) :
    (stageTamper r s).log = (s.log.stageFrom s.tamper.hold tamperHoldMax r).2 := rfl
@[simp] theorem stageTamper_alert (r : Record) (s : State) : (stageTamper r s).alert = s.alert := rfl
@[simp] theorem stageTamper_supmon (r : Record) (s : State) : (stageTamper r s).supmon = s.supmon := rfl
@[simp] theorem stageTamper_ports (r : Record) (s : State) : (stageTamper r s).ports = s.ports := rfl
@[simp] theorem stageTamper_identity (r : Record) (s : State) : (stageTamper r s).identity = s.identity := rfl
@[simp] theorem stageTamper_pins (r : Record) (s : State) : (stageTamper r s).pins = s.pins := rfl
@[simp] theorem stageTamper_handed (r : Record) (s : State) : (stageTamper r s).handed = s.handed := rfl
@[simp] theorem stageTamper_pending (r : Record) (s : State) : (stageTamper r s).pending = s.pending := rfl

@[simp] theorem stageSwitch_mlr (r : Record) (s : State) : (stageSwitch r s).mlr = s.mlr := rfl
@[simp] theorem stageSwitch_totals (r : Record) (s : State) : (stageSwitch r s).totals = s.totals := rfl
@[simp] theorem stageSwitch_bill (r : Record) (s : State) : (stageSwitch r s).bill = s.bill := rfl
@[simp] theorem stageSwitch_tariff (r : Record) (s : State) : (stageSwitch r s).tariff = s.tariff := rfl
@[simp] theorem stageSwitch_cal (r : Record) (s : State) : (stageSwitch r s).cal = s.cal := rfl
@[simp] theorem stageSwitch_code (r : Record) (s : State) : (stageSwitch r s).code = s.code := rfl
@[simp] theorem stageSwitch_sw (r : Record) (s : State) :
    (stageSwitch r s).sw = { s.sw with waiting := (s.log.stageFrom s.sw.waiting switchHoldMax r).1 } := rfl
@[simp] theorem stageSwitch_tamper (r : Record) (s : State) : (stageSwitch r s).tamper = s.tamper := rfl
@[simp] theorem stageSwitch_log (r : Record) (s : State) :
    (stageSwitch r s).log = (s.log.stageFrom s.sw.waiting switchHoldMax r).2 := rfl
@[simp] theorem stageSwitch_alert (r : Record) (s : State) : (stageSwitch r s).alert = s.alert := rfl
@[simp] theorem stageSwitch_supmon (r : Record) (s : State) : (stageSwitch r s).supmon = s.supmon := rfl
@[simp] theorem stageSwitch_ports (r : Record) (s : State) : (stageSwitch r s).ports = s.ports := rfl
@[simp] theorem stageSwitch_identity (r : Record) (s : State) : (stageSwitch r s).identity = s.identity := rfl
@[simp] theorem stageSwitch_pins (r : Record) (s : State) : (stageSwitch r s).pins = s.pins := rfl
@[simp] theorem stageSwitch_handed (r : Record) (s : State) : (stageSwitch r s).handed = s.handed := rfl
@[simp] theorem stageSwitch_pending (r : Record) (s : State) : (stageSwitch r s).pending = s.pending := rfl

@[simp] theorem stageCalendar_mlr (r : Record) (s : State) : (stageCalendar r s).mlr = s.mlr := rfl
@[simp] theorem stageCalendar_totals (r : Record) (s : State) : (stageCalendar r s).totals = s.totals := rfl
@[simp] theorem stageCalendar_bill (r : Record) (s : State) : (stageCalendar r s).bill = s.bill := rfl
@[simp] theorem stageCalendar_tariff (r : Record) (s : State) : (stageCalendar r s).tariff = s.tariff := rfl
@[simp] theorem stageCalendar_cal (r : Record) (s : State) :
    (stageCalendar r s).cal = { s.cal with hold := (s.log.stageFrom s.cal.hold clockHoldMax r).1 } := rfl
@[simp] theorem stageCalendar_code (r : Record) (s : State) : (stageCalendar r s).code = s.code := rfl
@[simp] theorem stageCalendar_sw (r : Record) (s : State) : (stageCalendar r s).sw = s.sw := rfl
@[simp] theorem stageCalendar_tamper (r : Record) (s : State) : (stageCalendar r s).tamper = s.tamper := rfl
@[simp] theorem stageCalendar_log (r : Record) (s : State) :
    (stageCalendar r s).log = (s.log.stageFrom s.cal.hold clockHoldMax r).2 := rfl
@[simp] theorem stageCalendar_alert (r : Record) (s : State) : (stageCalendar r s).alert = s.alert := rfl
@[simp] theorem stageCalendar_supmon (r : Record) (s : State) : (stageCalendar r s).supmon = s.supmon := rfl
@[simp] theorem stageCalendar_ports (r : Record) (s : State) : (stageCalendar r s).ports = s.ports := rfl
@[simp] theorem stageCalendar_identity (r : Record) (s : State) : (stageCalendar r s).identity = s.identity := rfl
@[simp] theorem stageCalendar_pins (r : Record) (s : State) : (stageCalendar r s).pins = s.pins := rfl
@[simp] theorem stageCalendar_handed (r : Record) (s : State) : (stageCalendar r s).handed = s.handed := rfl
@[simp] theorem stageCalendar_pending (r : Record) (s : State) : (stageCalendar r s).pending = s.pending := rfl

@[simp] theorem stageSupmon_mlr (r : Record) (s : State) : (stageSupmon r s).mlr = s.mlr := rfl
@[simp] theorem stageSupmon_totals (r : Record) (s : State) : (stageSupmon r s).totals = s.totals := rfl
@[simp] theorem stageSupmon_bill (r : Record) (s : State) : (stageSupmon r s).bill = s.bill := rfl
@[simp] theorem stageSupmon_tariff (r : Record) (s : State) : (stageSupmon r s).tariff = s.tariff := rfl
@[simp] theorem stageSupmon_cal (r : Record) (s : State) : (stageSupmon r s).cal = s.cal := rfl
@[simp] theorem stageSupmon_code (r : Record) (s : State) : (stageSupmon r s).code = s.code := rfl
@[simp] theorem stageSupmon_sw (r : Record) (s : State) : (stageSupmon r s).sw = s.sw := rfl
@[simp] theorem stageSupmon_tamper (r : Record) (s : State) : (stageSupmon r s).tamper = s.tamper := rfl
@[simp] theorem stageSupmon_log (r : Record) (s : State) :
    (stageSupmon r s).log = (s.log.offerEvidence r).getD s.log := rfl
@[simp] theorem stageSupmon_alert (r : Record) (s : State) : (stageSupmon r s).alert = s.alert := rfl
@[simp] theorem stageSupmon_supmon (r : Record) (s : State) : (stageSupmon r s).supmon = s.supmon := rfl
@[simp] theorem stageSupmon_ports (r : Record) (s : State) : (stageSupmon r s).ports = s.ports := rfl
@[simp] theorem stageSupmon_identity (r : Record) (s : State) : (stageSupmon r s).identity = s.identity := rfl
@[simp] theorem stageSupmon_pins (r : Record) (s : State) : (stageSupmon r s).pins = s.pins := rfl
@[simp] theorem stageSupmon_handed (r : Record) (s : State) : (stageSupmon r s).handed = s.handed := rfl
@[simp] theorem stageSupmon_pending (r : Record) (s : State) : (stageSupmon r s).pending = s.pending := rfl

@[simp] theorem evaluateThreshold_mlr (s : State) : (evaluateThreshold s).mlr = s.mlr := rfl
@[simp] theorem evaluateThreshold_totals (s : State) : (evaluateThreshold s).totals = s.totals := rfl
@[simp] theorem evaluateThreshold_bill (s : State) : (evaluateThreshold s).bill = s.bill := rfl
@[simp] theorem evaluateThreshold_tariff (s : State) : (evaluateThreshold s).tariff = s.tariff := rfl
@[simp] theorem evaluateThreshold_cal (s : State) : (evaluateThreshold s).cal = s.cal := rfl
@[simp] theorem evaluateThreshold_code (s : State) : (evaluateThreshold s).code = s.code := rfl
@[simp] theorem evaluateThreshold_sw (s : State) : (evaluateThreshold s).sw = s.sw := rfl
@[simp] theorem evaluateThreshold_tamper (s : State) : (evaluateThreshold s).tamper = s.tamper := rfl
@[simp] theorem evaluateThreshold_log (s : State) : (evaluateThreshold s).log = s.log := rfl
@[simp] theorem evaluateThreshold_alert (s : State) :
    (evaluateThreshold s).alert = s.alert.present .evidenceThreshold (decide (s.log.threshold ≤ s.log.uncollected)) := rfl
@[simp] theorem evaluateThreshold_supmon (s : State) : (evaluateThreshold s).supmon = s.supmon := rfl
@[simp] theorem evaluateThreshold_ports (s : State) : (evaluateThreshold s).ports = s.ports := rfl
@[simp] theorem evaluateThreshold_identity (s : State) : (evaluateThreshold s).identity = s.identity := rfl
@[simp] theorem evaluateThreshold_pins (s : State) : (evaluateThreshold s).pins = s.pins := rfl
@[simp] theorem evaluateThreshold_handed (s : State) : (evaluateThreshold s).handed = s.handed := rfl
@[simp] theorem evaluateThreshold_pending (s : State) : (evaluateThreshold s).pending = s.pending := rfl

@[simp] theorem settleSwitch_mlr (w : Switch) (s : State) : (settleSwitch w s).mlr = s.mlr := rfl
@[simp] theorem settleSwitch_totals (w : Switch) (s : State) : (settleSwitch w s).totals = s.totals := rfl
@[simp] theorem settleSwitch_bill (w : Switch) (s : State) : (settleSwitch w s).bill = s.bill := rfl
@[simp] theorem settleSwitch_tariff (w : Switch) (s : State) : (settleSwitch w s).tariff = s.tariff := rfl
@[simp] theorem settleSwitch_cal (w : Switch) (s : State) : (settleSwitch w s).cal = s.cal := rfl
@[simp] theorem settleSwitch_code (w : Switch) (s : State) : (settleSwitch w s).code = s.code := rfl
@[simp] theorem settleSwitch_tamper (w : Switch) (s : State) : (settleSwitch w s).tamper = s.tamper := rfl
@[simp] theorem settleSwitch_log (w : Switch) (s : State) : (settleSwitch w s).log = s.log := rfl
@[simp] theorem settleSwitch_supmon (w : Switch) (s : State) : (settleSwitch w s).supmon = s.supmon := rfl
@[simp] theorem settleSwitch_ports (w : Switch) (s : State) : (settleSwitch w s).ports = s.ports := rfl
@[simp] theorem settleSwitch_identity (w : Switch) (s : State) : (settleSwitch w s).identity = s.identity := rfl
@[simp] theorem settleSwitch_pins (w : Switch) (s : State) : (settleSwitch w s).pins = s.pins := rfl
@[simp] theorem settleSwitch_handed (w : Switch) (s : State) : (settleSwitch w s).handed = s.handed := rfl
@[simp] theorem settleSwitch_pending (w : Switch) (s : State) : (settleSwitch w s).pending = s.pending := rfl

@[simp] theorem applyRules_mlr (j : Bool) (s : State) : (applyRules j s).mlr = s.mlr := rfl
@[simp] theorem applyRules_totals (j : Bool) (s : State) : (applyRules j s).totals = s.totals := rfl
@[simp] theorem applyRules_bill (j : Bool) (s : State) : (applyRules j s).bill = s.bill := rfl
@[simp] theorem applyRules_tariff (j : Bool) (s : State) : (applyRules j s).tariff = s.tariff := rfl
@[simp] theorem applyRules_cal (j : Bool) (s : State) : (applyRules j s).cal = s.cal := rfl
@[simp] theorem applyRules_code (j : Bool) (s : State) : (applyRules j s).code = s.code := rfl
@[simp] theorem applyRules_tamper (j : Bool) (s : State) : (applyRules j s).tamper = s.tamper := rfl
@[simp] theorem applyRules_log (j : Bool) (s : State) : (applyRules j s).log = s.log := rfl
@[simp] theorem applyRules_supmon (j : Bool) (s : State) : (applyRules j s).supmon = s.supmon := rfl
@[simp] theorem applyRules_ports (j : Bool) (s : State) : (applyRules j s).ports = s.ports := rfl
@[simp] theorem applyRules_identity (j : Bool) (s : State) : (applyRules j s).identity = s.identity := rfl
@[simp] theorem applyRules_pins (j : Bool) (s : State) : (applyRules j s).pins = s.pins := rfl
@[simp] theorem applyRules_handed (j : Bool) (s : State) : (applyRules j s).handed = s.handed := rfl
@[simp] theorem applyRules_pending (j : Bool) (s : State) : (applyRules j s).pending = s.pending := rfl

@[simp] theorem watchMagnetic_mlr (s : State) : (watchMagnetic s).mlr = s.mlr := rfl
@[simp] theorem watchMagnetic_totals (s : State) : (watchMagnetic s).totals = s.totals := rfl
@[simp] theorem watchMagnetic_bill (s : State) : (watchMagnetic s).bill = s.bill := rfl
@[simp] theorem watchMagnetic_tariff (s : State) : (watchMagnetic s).tariff = s.tariff := rfl
@[simp] theorem watchMagnetic_cal (s : State) : (watchMagnetic s).cal = s.cal := rfl
@[simp] theorem watchMagnetic_code (s : State) : (watchMagnetic s).code = s.code := rfl
@[simp] theorem watchMagnetic_sw (s : State) : (watchMagnetic s).sw = s.sw := rfl
@[simp] theorem watchMagnetic_tamper (s : State) :
    (watchMagnetic s).tamper = magneticTimers (sourcePresent s) s.tamper := rfl
@[simp] theorem watchMagnetic_log (s : State) : (watchMagnetic s).log = s.log := rfl
@[simp] theorem watchMagnetic_alert (s : State) : (watchMagnetic s).alert = s.alert := rfl
@[simp] theorem watchMagnetic_supmon (s : State) : (watchMagnetic s).supmon = s.supmon := rfl
@[simp] theorem watchMagnetic_ports (s : State) : (watchMagnetic s).ports = s.ports := rfl
@[simp] theorem watchMagnetic_identity (s : State) : (watchMagnetic s).identity = s.identity := rfl
@[simp] theorem watchMagnetic_pins (s : State) : (watchMagnetic s).pins = s.pins := rfl
@[simp] theorem watchMagnetic_handed (s : State) : (watchMagnetic s).handed = s.handed := rfl
@[simp] theorem watchMagnetic_pending (s : State) : (watchMagnetic s).pending = s.pending := rfl

@[simp] theorem handFlag_mlr (f : Bool) (s : State) : (handFlag f s).mlr = s.mlr := rfl
@[simp] theorem handFlag_totals (f : Bool) (s : State) : (handFlag f s).totals = s.totals := rfl
@[simp] theorem handFlag_bill (f : Bool) (s : State) : (handFlag f s).bill = s.bill := rfl
@[simp] theorem handFlag_tariff (f : Bool) (s : State) : (handFlag f s).tariff = s.tariff := rfl
@[simp] theorem handFlag_cal (f : Bool) (s : State) : (handFlag f s).cal = s.cal := rfl
@[simp] theorem handFlag_code (f : Bool) (s : State) : (handFlag f s).code = s.code := rfl
@[simp] theorem handFlag_sw (f : Bool) (s : State) : (handFlag f s).sw = s.sw := rfl
@[simp] theorem handFlag_log (f : Bool) (s : State) : (handFlag f s).log = s.log := rfl
@[simp] theorem handFlag_alert (f : Bool) (s : State) : (handFlag f s).alert = s.alert := rfl
@[simp] theorem handFlag_supmon (f : Bool) (s : State) : (handFlag f s).supmon = s.supmon := rfl
@[simp] theorem handFlag_ports (f : Bool) (s : State) : (handFlag f s).ports = s.ports := rfl
@[simp] theorem handFlag_identity (f : Bool) (s : State) : (handFlag f s).identity = s.identity := rfl
@[simp] theorem handFlag_pins (f : Bool) (s : State) : (handFlag f s).pins = s.pins := rfl
@[simp] theorem handFlag_handed (f : Bool) (s : State) : (handFlag f s).handed = s.handed := rfl
@[simp] theorem handFlag_pending (f : Bool) (s : State) : (handFlag f s).pending = s.pending := rfl

@[simp] theorem countBadReport_mlr (s : State) :
    (countBadReport s).mlr = { s.mlr with badReports := bump max16 s.mlr.badReports } := rfl
@[simp] theorem countBadReport_totals (s : State) : (countBadReport s).totals = s.totals := rfl
@[simp] theorem countBadReport_bill (s : State) : (countBadReport s).bill = s.bill := rfl
@[simp] theorem countBadReport_tariff (s : State) : (countBadReport s).tariff = s.tariff := rfl
@[simp] theorem countBadReport_cal (s : State) : (countBadReport s).cal = s.cal := rfl
@[simp] theorem countBadReport_code (s : State) : (countBadReport s).code = s.code := rfl
@[simp] theorem countBadReport_sw (s : State) : (countBadReport s).sw = s.sw := rfl
@[simp] theorem countBadReport_tamper (s : State) : (countBadReport s).tamper = s.tamper := rfl
@[simp] theorem countBadReport_log (s : State) : (countBadReport s).log = s.log := rfl
@[simp] theorem countBadReport_alert (s : State) : (countBadReport s).alert = s.alert := rfl
@[simp] theorem countBadReport_supmon (s : State) : (countBadReport s).supmon = s.supmon := rfl
@[simp] theorem countBadReport_ports (s : State) : (countBadReport s).ports = s.ports := rfl
@[simp] theorem countBadReport_identity (s : State) : (countBadReport s).identity = s.identity := rfl
@[simp] theorem countBadReport_pins (s : State) : (countBadReport s).pins = s.pins := rfl
@[simp] theorem countBadReport_handed (s : State) : (countBadReport s).handed = s.handed := rfl
@[simp] theorem countBadReport_pending (s : State) : (countBadReport s).pending = s.pending := rfl

@[simp] theorem selectMeter_mlr (s : State) : (selectMeter s).mlr = s.mlr := rfl
@[simp] theorem selectMeter_totals (s : State) : (selectMeter s).totals = s.totals := rfl
@[simp] theorem selectMeter_bill (s : State) : (selectMeter s).bill = s.bill := rfl
@[simp] theorem selectMeter_tariff (s : State) : (selectMeter s).tariff = s.tariff := rfl
@[simp] theorem selectMeter_cal (s : State) : (selectMeter s).cal = s.cal := rfl
@[simp] theorem selectMeter_code (s : State) : (selectMeter s).code = s.code := rfl
@[simp] theorem selectMeter_sw (s : State) : (selectMeter s).sw = s.sw := rfl
@[simp] theorem selectMeter_tamper (s : State) : (selectMeter s).tamper = s.tamper := rfl
@[simp] theorem selectMeter_log (s : State) : (selectMeter s).log = s.log := rfl
@[simp] theorem selectMeter_alert (s : State) : (selectMeter s).alert = s.alert := rfl
@[simp] theorem selectMeter_supmon (s : State) : (selectMeter s).supmon = s.supmon := rfl
@[simp] theorem selectMeter_ports (s : State) : (selectMeter s).ports = s.ports := rfl
@[simp] theorem selectMeter_identity (s : State) : (selectMeter s).identity = s.identity := rfl
@[simp] theorem selectMeter_pins (s : State) : (selectMeter s).pins = { s.pins with mcsn := false } := rfl
@[simp] theorem selectMeter_handed (s : State) : (selectMeter s).handed = s.handed := rfl
@[simp] theorem selectMeter_pending (s : State) : (selectMeter s).pending = s.pending := rfl

@[simp] theorem driveMsdo_mlr (s : State) : (driveMsdo s).mlr = s.mlr := rfl
@[simp] theorem driveMsdo_totals (s : State) : (driveMsdo s).totals = s.totals := rfl
@[simp] theorem driveMsdo_bill (s : State) : (driveMsdo s).bill = s.bill := rfl
@[simp] theorem driveMsdo_tariff (s : State) : (driveMsdo s).tariff = s.tariff := rfl
@[simp] theorem driveMsdo_cal (s : State) : (driveMsdo s).cal = s.cal := rfl
@[simp] theorem driveMsdo_code (s : State) : (driveMsdo s).code = s.code := rfl
@[simp] theorem driveMsdo_sw (s : State) : (driveMsdo s).sw = s.sw := rfl
@[simp] theorem driveMsdo_tamper (s : State) : (driveMsdo s).tamper = s.tamper := rfl
@[simp] theorem driveMsdo_log (s : State) : (driveMsdo s).log = s.log := rfl
@[simp] theorem driveMsdo_alert (s : State) : (driveMsdo s).alert = s.alert := rfl
@[simp] theorem driveMsdo_supmon (s : State) : (driveMsdo s).supmon = s.supmon := rfl
@[simp] theorem driveMsdo_ports (s : State) : (driveMsdo s).ports = { s.ports with msdo := some s.ports.line.meter.nextOut } := rfl
@[simp] theorem driveMsdo_identity (s : State) : (driveMsdo s).identity = s.identity := rfl
@[simp] theorem driveMsdo_pins (s : State) : (driveMsdo s).pins = s.pins := rfl
@[simp] theorem driveMsdo_handed (s : State) : (driveMsdo s).handed = s.handed := rfl
@[simp] theorem driveMsdo_pending (s : State) : (driveMsdo s).pending = s.pending := rfl

@[simp] theorem stopInterByte_mlr (s : State) : (stopInterByte s).mlr = s.mlr := rfl
@[simp] theorem stopInterByte_totals (s : State) : (stopInterByte s).totals = s.totals := rfl
@[simp] theorem stopInterByte_bill (s : State) : (stopInterByte s).bill = s.bill := rfl
@[simp] theorem stopInterByte_tariff (s : State) : (stopInterByte s).tariff = s.tariff := rfl
@[simp] theorem stopInterByte_cal (s : State) : (stopInterByte s).cal = s.cal := rfl
@[simp] theorem stopInterByte_code (s : State) : (stopInterByte s).code = s.code := rfl
@[simp] theorem stopInterByte_sw (s : State) : (stopInterByte s).sw = s.sw := rfl
@[simp] theorem stopInterByte_tamper (s : State) : (stopInterByte s).tamper = s.tamper := rfl
@[simp] theorem stopInterByte_log (s : State) : (stopInterByte s).log = s.log := rfl
@[simp] theorem stopInterByte_alert (s : State) : (stopInterByte s).alert = s.alert := rfl
@[simp] theorem stopInterByte_supmon (s : State) : (stopInterByte s).supmon = s.supmon := rfl
@[simp] theorem stopInterByte_ports (s : State) : (stopInterByte s).ports = { s.ports with interByte := .stopped } := rfl
@[simp] theorem stopInterByte_identity (s : State) : (stopInterByte s).identity = s.identity := rfl
@[simp] theorem stopInterByte_pins (s : State) : (stopInterByte s).pins = s.pins := rfl
@[simp] theorem stopInterByte_handed (s : State) : (stopInterByte s).handed = s.handed := rfl
@[simp] theorem stopInterByte_pending (s : State) : (stopInterByte s).pending = s.pending := rfl

@[simp] theorem setStale_mlr (b : Bool) (s : State) : (setStale b s).mlr = s.mlr := rfl
@[simp] theorem setStale_totals (b : Bool) (s : State) : (setStale b s).totals = s.totals := rfl
@[simp] theorem setStale_bill (b : Bool) (s : State) : (setStale b s).bill = s.bill := rfl
@[simp] theorem setStale_tariff (b : Bool) (s : State) : (setStale b s).tariff = s.tariff := rfl
@[simp] theorem setStale_cal (b : Bool) (s : State) : (setStale b s).cal = s.cal := rfl
@[simp] theorem setStale_code (b : Bool) (s : State) : (setStale b s).code = s.code := rfl
@[simp] theorem setStale_sw (b : Bool) (s : State) : (setStale b s).sw = s.sw := rfl
@[simp] theorem setStale_tamper (b : Bool) (s : State) : (setStale b s).tamper = s.tamper := rfl
@[simp] theorem setStale_log (b : Bool) (s : State) : (setStale b s).log = s.log := rfl
@[simp] theorem setStale_alert (b : Bool) (s : State) : (setStale b s).alert = s.alert := rfl
@[simp] theorem setStale_supmon (b : Bool) (s : State) : (setStale b s).supmon = s.supmon := rfl
@[simp] theorem setStale_ports (b : Bool) (s : State) : (setStale b s).ports = { s.ports with stale := b } := rfl
@[simp] theorem setStale_identity (b : Bool) (s : State) : (setStale b s).identity = s.identity := rfl
@[simp] theorem setStale_pins (b : Bool) (s : State) : (setStale b s).pins = s.pins := rfl
@[simp] theorem setStale_handed (b : Bool) (s : State) : (setStale b s).handed = s.handed := rfl
@[simp] theorem setStale_pending (b : Bool) (s : State) : (setStale b s).pending = s.pending := rfl

@[simp] theorem releaseMsdo_mlr (s : State) : (releaseMsdo s).mlr = s.mlr := rfl
@[simp] theorem releaseMsdo_totals (s : State) : (releaseMsdo s).totals = s.totals := rfl
@[simp] theorem releaseMsdo_bill (s : State) : (releaseMsdo s).bill = s.bill := rfl
@[simp] theorem releaseMsdo_tariff (s : State) : (releaseMsdo s).tariff = s.tariff := rfl
@[simp] theorem releaseMsdo_cal (s : State) : (releaseMsdo s).cal = s.cal := rfl
@[simp] theorem releaseMsdo_code (s : State) : (releaseMsdo s).code = s.code := rfl
@[simp] theorem releaseMsdo_sw (s : State) : (releaseMsdo s).sw = s.sw := rfl
@[simp] theorem releaseMsdo_tamper (s : State) : (releaseMsdo s).tamper = s.tamper := rfl
@[simp] theorem releaseMsdo_log (s : State) : (releaseMsdo s).log = s.log := rfl
@[simp] theorem releaseMsdo_alert (s : State) : (releaseMsdo s).alert = s.alert := rfl
@[simp] theorem releaseMsdo_supmon (s : State) : (releaseMsdo s).supmon = s.supmon := rfl
@[simp] theorem releaseMsdo_ports (s : State) : (releaseMsdo s).ports = { s.ports with msdo := none, deaf := false } := rfl
@[simp] theorem releaseMsdo_identity (s : State) : (releaseMsdo s).identity = s.identity := rfl
@[simp] theorem releaseMsdo_pins (s : State) : (releaseMsdo s).pins = s.pins := rfl
@[simp] theorem releaseMsdo_handed (s : State) : (releaseMsdo s).handed = s.handed := rfl
@[simp] theorem releaseMsdo_pending (s : State) : (releaseMsdo s).pending = s.pending := rfl

@[simp] theorem State.withPending_mlr (q : List Instr) (s : State) : (s.withPending q).mlr = s.mlr := rfl
@[simp] theorem State.withPending_totals (q : List Instr) (s : State) : (s.withPending q).totals = s.totals := rfl
@[simp] theorem State.withPending_bill (q : List Instr) (s : State) : (s.withPending q).bill = s.bill := rfl
@[simp] theorem State.withPending_tariff (q : List Instr) (s : State) : (s.withPending q).tariff = s.tariff := rfl
@[simp] theorem State.withPending_cal (q : List Instr) (s : State) : (s.withPending q).cal = s.cal := rfl
@[simp] theorem State.withPending_code (q : List Instr) (s : State) : (s.withPending q).code = s.code := rfl
@[simp] theorem State.withPending_sw (q : List Instr) (s : State) : (s.withPending q).sw = s.sw := rfl
@[simp] theorem State.withPending_tamper (q : List Instr) (s : State) : (s.withPending q).tamper = s.tamper := rfl
@[simp] theorem State.withPending_log (q : List Instr) (s : State) : (s.withPending q).log = s.log := rfl
@[simp] theorem State.withPending_alert (q : List Instr) (s : State) : (s.withPending q).alert = s.alert := rfl
@[simp] theorem State.withPending_supmon (q : List Instr) (s : State) : (s.withPending q).supmon = s.supmon := rfl
@[simp] theorem State.withPending_ports (q : List Instr) (s : State) : (s.withPending q).ports = s.ports := rfl
@[simp] theorem State.withPending_identity (q : List Instr) (s : State) :
    (s.withPending q).identity = s.identity := rfl
@[simp] theorem State.withPending_pins (q : List Instr) (s : State) : (s.withPending q).pins = s.pins := rfl
@[simp] theorem State.withPending_handed (q : List Instr) (s : State) : (s.withPending q).handed = s.handed := rfl
@[simp] theorem State.withPending_pending (q : List Instr) (s : State) : (s.withPending q).pending = q := rfl

end Sys2Proof.Machine
end

