-- ==== Sys2Proof/Laws/Frames.lean ====
section
/-! SUPPORT. What the shared operations leave alone, field by field, and for the simplest of them what they do. -/

namespace Sys2Proof.Machine

@[simp] theorem demand_mlr (m : Member) (b : Bool) (s : State) : (demand m b s).mlr = s.mlr :=
  by unfold demand; split <;> [rfl; (split <;> rfl)]
@[simp] theorem demand_totals (m : Member) (b : Bool) (s : State) : (demand m b s).totals = s.totals :=
  by unfold demand; split <;> [rfl; (split <;> rfl)]
@[simp] theorem demand_bill (m : Member) (b : Bool) (s : State) : (demand m b s).bill = s.bill :=
  by unfold demand; split <;> [rfl; (split <;> rfl)]
@[simp] theorem demand_tariff (m : Member) (b : Bool) (s : State) : (demand m b s).tariff = s.tariff :=
  by unfold demand; split <;> [rfl; (split <;> rfl)]
@[simp] theorem demand_cal (m : Member) (b : Bool) (s : State) : (demand m b s).cal = s.cal :=
  by unfold demand; split <;> [rfl; (split <;> rfl)]
@[simp] theorem demand_code (m : Member) (b : Bool) (s : State) : (demand m b s).code = s.code :=
  by unfold demand; split <;> [rfl; (split <;> rfl)]
@[simp] theorem demand_tamper (m : Member) (b : Bool) (s : State) : (demand m b s).tamper = s.tamper :=
  by unfold demand; split <;> [rfl; (split <;> rfl)]
@[simp] theorem demand_log (m : Member) (b : Bool) (s : State) : (demand m b s).log = s.log :=
  by unfold demand; split <;> [rfl; (split <;> rfl)]
@[simp] theorem demand_supmon (m : Member) (b : Bool) (s : State) : (demand m b s).supmon = s.supmon :=
  by unfold demand; split <;> [rfl; (split <;> rfl)]
@[simp] theorem demand_ports (m : Member) (b : Bool) (s : State) : (demand m b s).ports = s.ports :=
  by unfold demand; split <;> [rfl; (split <;> rfl)]
@[simp] theorem demand_identity (m : Member) (b : Bool) (s : State) : (demand m b s).identity = s.identity :=
  by unfold demand; split <;> [rfl; (split <;> rfl)]
@[simp] theorem demand_pins (m : Member) (b : Bool) (s : State) : (demand m b s).pins = s.pins :=
  by unfold demand; split <;> [rfl; (split <;> rfl)]
@[simp] theorem demand_handed (m : Member) (b : Bool) (s : State) : (demand m b s).handed = s.handed :=
  by unfold demand; split <;> [rfl; (split <;> rfl)]
@[simp] theorem demand_pending (m : Member) (b : Bool) (s : State) : (demand m b s).pending = s.pending :=
  by unfold demand; split <;> [rfl; (split <;> rfl)]

@[simp] theorem believe_mlr (p : Position) (n : Nat) (s : State) : (believe p n s).mlr = s.mlr :=
  by unfold believe; simp only; split <;> rfl
@[simp] theorem believe_totals (p : Position) (n : Nat) (s : State) : (believe p n s).totals = s.totals :=
  by unfold believe; simp only; split <;> rfl
@[simp] theorem believe_bill (p : Position) (n : Nat) (s : State) : (believe p n s).bill = s.bill :=
  by unfold believe; simp only; split <;> rfl
@[simp] theorem believe_tariff (p : Position) (n : Nat) (s : State) : (believe p n s).tariff = s.tariff :=
  by unfold believe; simp only; split <;> rfl
@[simp] theorem believe_cal (p : Position) (n : Nat) (s : State) : (believe p n s).cal = s.cal :=
  by unfold believe; simp only; split <;> rfl
@[simp] theorem believe_code (p : Position) (n : Nat) (s : State) : (believe p n s).code = s.code :=
  by unfold believe; simp only; split <;> rfl
@[simp] theorem believe_tamper (p : Position) (n : Nat) (s : State) : (believe p n s).tamper = s.tamper :=
  by unfold believe; simp only; split <;> rfl
@[simp] theorem believe_supmon (p : Position) (n : Nat) (s : State) : (believe p n s).supmon = s.supmon :=
  by unfold believe; simp only; split <;> rfl
@[simp] theorem believe_ports (p : Position) (n : Nat) (s : State) : (believe p n s).ports = s.ports :=
  by unfold believe; simp only; split <;> rfl
@[simp] theorem believe_identity (p : Position) (n : Nat) (s : State) : (believe p n s).identity = s.identity :=
  by unfold believe; simp only; split <;> rfl
@[simp] theorem believe_pins (p : Position) (n : Nat) (s : State) : (believe p n s).pins = s.pins :=
  by unfold believe; simp only; split <;> rfl
@[simp] theorem believe_handed (p : Position) (n : Nat) (s : State) : (believe p n s).handed = s.handed :=
  by unfold believe; simp only; split <;> rfl
@[simp] theorem believe_pending (p : Position) (n : Nat) (s : State) : (believe p n s).pending = s.pending :=
  by unfold believe; simp only; split <;> rfl

@[simp] theorem relayFault_mlr (n : Nat) (s : State) : (relayFault n s).mlr = s.mlr := by unfold relayFault; simp
@[simp] theorem relayFault_totals (n : Nat) (s : State) : (relayFault n s).totals = s.totals :=
  by unfold relayFault; simp
@[simp] theorem relayFault_bill (n : Nat) (s : State) : (relayFault n s).bill = s.bill := by unfold relayFault; simp
@[simp] theorem relayFault_tariff (n : Nat) (s : State) : (relayFault n s).tariff = s.tariff :=
  by unfold relayFault; simp
@[simp] theorem relayFault_cal (n : Nat) (s : State) : (relayFault n s).cal = s.cal := by unfold relayFault; simp
@[simp] theorem relayFault_code (n : Nat) (s : State) : (relayFault n s).code = s.code := by unfold relayFault; simp
@[simp] theorem relayFault_tamper (n : Nat) (s : State) : (relayFault n s).tamper = s.tamper :=
  by unfold relayFault; simp
@[simp] theorem relayFault_supmon (n : Nat) (s : State) : (relayFault n s).supmon = s.supmon :=
  by unfold relayFault; simp
@[simp] theorem relayFault_ports (n : Nat) (s : State) : (relayFault n s).ports = s.ports :=
  by unfold relayFault; simp
@[simp] theorem relayFault_identity (n : Nat) (s : State) : (relayFault n s).identity = s.identity :=
  by unfold relayFault; simp
@[simp] theorem relayFault_pins (n : Nat) (s : State) : (relayFault n s).pins = s.pins := by unfold relayFault; simp
@[simp] theorem relayFault_handed (n : Nat) (s : State) : (relayFault n s).handed = s.handed :=
  by unfold relayFault; simp
@[simp] theorem relayFault_pending (n : Nat) (s : State) : (relayFault n s).pending = s.pending :=
  by unfold relayFault; simp

@[simp] theorem reduce_mlr (w : Nat) (s : State) : (reduce w s).mlr = s.mlr :=
  by unfold reduce; simp only; split <;> rfl
@[simp] theorem reduce_totals (w : Nat) (s : State) : (reduce w s).totals = s.totals :=
  by unfold reduce; simp only; split <;> rfl
@[simp] theorem reduce_tariff (w : Nat) (s : State) : (reduce w s).tariff = s.tariff :=
  by unfold reduce; simp only; split <;> rfl
@[simp] theorem reduce_cal (w : Nat) (s : State) : (reduce w s).cal = s.cal :=
  by unfold reduce; simp only; split <;> rfl
@[simp] theorem reduce_code (w : Nat) (s : State) : (reduce w s).code = s.code :=
  by unfold reduce; simp only; split <;> rfl
@[simp] theorem reduce_sw (w : Nat) (s : State) : (reduce w s).sw = s.sw := by unfold reduce; simp only; split <;> rfl
@[simp] theorem reduce_tamper (w : Nat) (s : State) : (reduce w s).tamper = s.tamper :=
  by unfold reduce; simp only; split <;> rfl
@[simp] theorem reduce_alert (w : Nat) (s : State) : (reduce w s).alert = s.alert :=
  by unfold reduce; simp only; split <;> rfl
@[simp] theorem reduce_supmon (w : Nat) (s : State) : (reduce w s).supmon = s.supmon :=
  by unfold reduce; simp only; split <;> rfl
@[simp] theorem reduce_ports (w : Nat) (s : State) : (reduce w s).ports = s.ports :=
  by unfold reduce; simp only; split <;> rfl
@[simp] theorem reduce_identity (w : Nat) (s : State) : (reduce w s).identity = s.identity :=
  by unfold reduce; simp only; split <;> rfl
@[simp] theorem reduce_pins (w : Nat) (s : State) : (reduce w s).pins = s.pins :=
  by unfold reduce; simp only; split <;> rfl
@[simp] theorem reduce_handed (w : Nat) (s : State) : (reduce w s).handed = s.handed :=
  by unfold reduce; simp only; split <;> rfl
@[simp] theorem reduce_pending (w : Nat) (s : State) : (reduce w s).pending = s.pending :=
  by unfold reduce; simp only; split <;> rfl

@[simp] theorem evaluateCredit_mlr (s : State) : (evaluateCredit s).mlr = s.mlr :=
  by unfold evaluateCredit; simp only; split <;> (try split) <;> simp
@[simp] theorem evaluateCredit_totals (s : State) : (evaluateCredit s).totals = s.totals :=
  by unfold evaluateCredit; simp only; split <;> (try split) <;> simp
@[simp] theorem evaluateCredit_tariff (s : State) : (evaluateCredit s).tariff = s.tariff :=
  by unfold evaluateCredit; simp only; split <;> (try split) <;> simp
@[simp] theorem evaluateCredit_cal (s : State) : (evaluateCredit s).cal = s.cal :=
  by unfold evaluateCredit; simp only; split <;> (try split) <;> simp
@[simp] theorem evaluateCredit_code (s : State) : (evaluateCredit s).code = s.code :=
  by unfold evaluateCredit; simp only; split <;> (try split) <;> simp
@[simp] theorem evaluateCredit_tamper (s : State) : (evaluateCredit s).tamper = s.tamper :=
  by unfold evaluateCredit; simp only; split <;> (try split) <;> simp
@[simp] theorem evaluateCredit_log (s : State) : (evaluateCredit s).log = s.log :=
  by unfold evaluateCredit; simp only; split <;> (try split) <;> simp
@[simp] theorem evaluateCredit_supmon (s : State) : (evaluateCredit s).supmon = s.supmon :=
  by unfold evaluateCredit; simp only; split <;> (try split) <;> simp
@[simp] theorem evaluateCredit_ports (s : State) : (evaluateCredit s).ports = s.ports :=
  by unfold evaluateCredit; simp only; split <;> (try split) <;> simp
@[simp] theorem evaluateCredit_identity (s : State) : (evaluateCredit s).identity = s.identity :=
  by unfold evaluateCredit; simp only; split <;> (try split) <;> simp
@[simp] theorem evaluateCredit_pins (s : State) : (evaluateCredit s).pins = s.pins :=
  by unfold evaluateCredit; simp only; split <;> (try split) <;> simp
@[simp] theorem evaluateCredit_handed (s : State) : (evaluateCredit s).handed = s.handed :=
  by unfold evaluateCredit; simp only; split <;> (try split) <;> simp
@[simp] theorem evaluateCredit_pending (s : State) : (evaluateCredit s).pending = s.pending :=
  by unfold evaluateCredit; simp only; split <;> (try split) <;> simp

@[simp] theorem evaluate_mlr (s : State) : (evaluate s).mlr = s.mlr := by unfold evaluate; simp
@[simp] theorem evaluate_totals (s : State) : (evaluate s).totals = s.totals := by unfold evaluate; simp
@[simp] theorem evaluate_tariff (s : State) : (evaluate s).tariff = s.tariff := by unfold evaluate; simp
@[simp] theorem evaluate_cal (s : State) : (evaluate s).cal = s.cal := by unfold evaluate; simp
@[simp] theorem evaluate_code (s : State) : (evaluate s).code = s.code := by unfold evaluate; simp
@[simp] theorem evaluate_tamper (s : State) : (evaluate s).tamper = s.tamper := by unfold evaluate; simp
@[simp] theorem evaluate_log (s : State) : (evaluate s).log = s.log := by unfold evaluate; simp
@[simp] theorem evaluate_supmon (s : State) : (evaluate s).supmon = s.supmon := by unfold evaluate; simp
@[simp] theorem evaluate_ports (s : State) : (evaluate s).ports = s.ports := by unfold evaluate; simp
@[simp] theorem evaluate_identity (s : State) : (evaluate s).identity = s.identity := by unfold evaluate; simp
@[simp] theorem evaluate_pins (s : State) : (evaluate s).pins = s.pins := by unfold evaluate; simp
@[simp] theorem evaluate_handed (s : State) : (evaluate s).handed = s.handed := by unfold evaluate; simp
@[simp] theorem evaluate_pending (s : State) : (evaluate s).pending = s.pending := by unfold evaluate; simp

@[simp] theorem accrueMoney_mlr (t : Nat) (s : State) : (accrueMoney t s).mlr = s.mlr :=
  by unfold accrueMoney; split <;> simp
@[simp] theorem accrueMoney_totals (t : Nat) (s : State) : (accrueMoney t s).totals = s.totals :=
  by unfold accrueMoney; split <;> simp
@[simp] theorem accrueMoney_tariff (t : Nat) (s : State) : (accrueMoney t s).tariff = s.tariff :=
  by unfold accrueMoney; split <;> simp
@[simp] theorem accrueMoney_cal (t : Nat) (s : State) : (accrueMoney t s).cal = s.cal :=
  by unfold accrueMoney; split <;> simp
@[simp] theorem accrueMoney_code (t : Nat) (s : State) : (accrueMoney t s).code = s.code :=
  by unfold accrueMoney; split <;> simp
@[simp] theorem accrueMoney_sw (t : Nat) (s : State) : (accrueMoney t s).sw = s.sw :=
  by unfold accrueMoney; split <;> simp
@[simp] theorem accrueMoney_tamper (t : Nat) (s : State) : (accrueMoney t s).tamper = s.tamper :=
  by unfold accrueMoney; split <;> simp
@[simp] theorem accrueMoney_alert (t : Nat) (s : State) : (accrueMoney t s).alert = s.alert :=
  by unfold accrueMoney; split <;> simp
@[simp] theorem accrueMoney_supmon (t : Nat) (s : State) : (accrueMoney t s).supmon = s.supmon :=
  by unfold accrueMoney; split <;> simp
@[simp] theorem accrueMoney_ports (t : Nat) (s : State) : (accrueMoney t s).ports = s.ports :=
  by unfold accrueMoney; split <;> simp
@[simp] theorem accrueMoney_identity (t : Nat) (s : State) : (accrueMoney t s).identity = s.identity :=
  by unfold accrueMoney; split <;> simp
@[simp] theorem accrueMoney_pins (t : Nat) (s : State) : (accrueMoney t s).pins = s.pins :=
  by unfold accrueMoney; split <;> simp
@[simp] theorem accrueMoney_handed (t : Nat) (s : State) : (accrueMoney t s).handed = s.handed :=
  by unfold accrueMoney; split <;> simp
@[simp] theorem accrueMoney_pending (t : Nat) (s : State) : (accrueMoney t s).pending = s.pending :=
  by unfold accrueMoney; split <;> simp

@[simp] theorem accrue_mlr (t : Nat) (s : State) : (accrue t s).mlr = s.mlr := by unfold accrue; split <;> simp
@[simp] theorem accrue_totals (t : Nat) (s : State) : (accrue t s).totals = s.totals :=
  by unfold accrue; split <;> simp
@[simp] theorem accrue_tariff (t : Nat) (s : State) : (accrue t s).tariff = s.tariff :=
  by unfold accrue; split <;> simp
@[simp] theorem accrue_cal (t : Nat) (s : State) : (accrue t s).cal = s.cal := by unfold accrue; split <;> simp
@[simp] theorem accrue_code (t : Nat) (s : State) : (accrue t s).code = s.code := by unfold accrue; split <;> simp
@[simp] theorem accrue_tamper (t : Nat) (s : State) : (accrue t s).tamper = s.tamper :=
  by unfold accrue; split <;> simp
@[simp] theorem accrue_supmon (t : Nat) (s : State) : (accrue t s).supmon = s.supmon :=
  by unfold accrue; split <;> simp
@[simp] theorem accrue_ports (t : Nat) (s : State) : (accrue t s).ports = s.ports := by unfold accrue; split <;> simp
@[simp] theorem accrue_identity (t : Nat) (s : State) : (accrue t s).identity = s.identity :=
  by unfold accrue; split <;> simp
@[simp] theorem accrue_pins (t : Nat) (s : State) : (accrue t s).pins = s.pins := by unfold accrue; split <;> simp
@[simp] theorem accrue_handed (t : Nat) (s : State) : (accrue t s).handed = s.handed :=
  by unfold accrue; split <;> simp
@[simp] theorem accrue_pending (t : Nat) (s : State) : (accrue t s).pending = s.pending :=
  by unfold accrue; split <;> simp

@[simp] theorem gapAccrue_mlr (t : Nat) (s : State) : (gapAccrue t s).mlr = s.mlr := by unfold gapAccrue; simp
@[simp] theorem gapAccrue_totals (t : Nat) (s : State) : (gapAccrue t s).totals = s.totals :=
  by unfold gapAccrue; simp
@[simp] theorem gapAccrue_tariff (t : Nat) (s : State) : (gapAccrue t s).tariff = s.tariff :=
  by unfold gapAccrue; simp
@[simp] theorem gapAccrue_cal (t : Nat) (s : State) : (gapAccrue t s).cal = s.cal := by unfold gapAccrue; simp
@[simp] theorem gapAccrue_code (t : Nat) (s : State) : (gapAccrue t s).code = s.code := by unfold gapAccrue; simp
@[simp] theorem gapAccrue_tamper (t : Nat) (s : State) : (gapAccrue t s).tamper = s.tamper :=
  by unfold gapAccrue; simp
@[simp] theorem gapAccrue_supmon (t : Nat) (s : State) : (gapAccrue t s).supmon = s.supmon :=
  by unfold gapAccrue; simp
@[simp] theorem gapAccrue_ports (t : Nat) (s : State) : (gapAccrue t s).ports = s.ports := by unfold gapAccrue; simp
@[simp] theorem gapAccrue_identity (t : Nat) (s : State) : (gapAccrue t s).identity = s.identity :=
  by unfold gapAccrue; simp
@[simp] theorem gapAccrue_pins (t : Nat) (s : State) : (gapAccrue t s).pins = s.pins := by unfold gapAccrue; simp
@[simp] theorem gapAccrue_handed (t : Nat) (s : State) : (gapAccrue t s).handed = s.handed :=
  by unfold gapAccrue; simp
@[simp] theorem gapAccrue_pending (t : Nat) (s : State) : (gapAccrue t s).pending = s.pending :=
  by unfold gapAccrue; simp

@[simp] theorem debit_mlr (e : Nat) (s : State) : (debit e s).mlr = s.mlr := by unfold debit; simp
@[simp] theorem debit_tariff (e : Nat) (s : State) : (debit e s).tariff = s.tariff := by unfold debit; simp
@[simp] theorem debit_cal (e : Nat) (s : State) : (debit e s).cal = s.cal := by unfold debit; simp
@[simp] theorem debit_code (e : Nat) (s : State) : (debit e s).code = s.code := by unfold debit; simp
@[simp] theorem debit_tamper (e : Nat) (s : State) : (debit e s).tamper = s.tamper := by unfold debit; simp
@[simp] theorem debit_supmon (e : Nat) (s : State) : (debit e s).supmon = s.supmon := by unfold debit; simp
@[simp] theorem debit_ports (e : Nat) (s : State) : (debit e s).ports = s.ports := by unfold debit; simp
@[simp] theorem debit_identity (e : Nat) (s : State) : (debit e s).identity = s.identity := by unfold debit; simp
@[simp] theorem debit_pins (e : Nat) (s : State) : (debit e s).pins = s.pins := by unfold debit; simp
@[simp] theorem debit_handed (e : Nat) (s : State) : (debit e s).handed = s.handed := by unfold debit; simp
@[simp] theorem debit_pending (e : Nat) (s : State) : (debit e s).pending = s.pending := by unfold debit; simp

@[simp] theorem tamperEvent_mlr (k : TamperKind) (t : Nat) (v : Bool) (s : State) : (tamperEvent k t v s).mlr = s.mlr :=
  by unfold tamperEvent; simp only; split <;> simp
@[simp] theorem tamperEvent_totals (k : TamperKind) (t : Nat) (v : Bool) (s : State) : (tamperEvent k t v s).totals = s.totals :=
  by unfold tamperEvent; simp only; split <;> simp
@[simp] theorem tamperEvent_bill (k : TamperKind) (t : Nat) (v : Bool) (s : State) : (tamperEvent k t v s).bill = s.bill :=
  by unfold tamperEvent; simp only; split <;> simp
@[simp] theorem tamperEvent_tariff (k : TamperKind) (t : Nat) (v : Bool) (s : State) : (tamperEvent k t v s).tariff = s.tariff :=
  by unfold tamperEvent; simp only; split <;> simp
@[simp] theorem tamperEvent_cal (k : TamperKind) (t : Nat) (v : Bool) (s : State) : (tamperEvent k t v s).cal = s.cal :=
  by unfold tamperEvent; simp only; split <;> simp
@[simp] theorem tamperEvent_code (k : TamperKind) (t : Nat) (v : Bool) (s : State) : (tamperEvent k t v s).code = s.code :=
  by unfold tamperEvent; simp only; split <;> simp
@[simp] theorem tamperEvent_ports (k : TamperKind) (t : Nat) (v : Bool) (s : State) : (tamperEvent k t v s).ports = s.ports :=
  by unfold tamperEvent; simp only; split <;> simp
@[simp] theorem tamperEvent_identity (k : TamperKind) (t : Nat) (v : Bool) (s : State) : (tamperEvent k t v s).identity = s.identity :=
  by unfold tamperEvent; simp only; split <;> simp
@[simp] theorem tamperEvent_pins (k : TamperKind) (t : Nat) (v : Bool) (s : State) : (tamperEvent k t v s).pins = s.pins :=
  by unfold tamperEvent; simp only; split <;> simp
@[simp] theorem tamperEvent_handed (k : TamperKind) (t : Nat) (v : Bool) (s : State) : (tamperEvent k t v s).handed = s.handed :=
  by unfold tamperEvent; simp only; split <;> simp
@[simp] theorem tamperEvent_pending (k : TamperKind) (t : Nat) (v : Bool) (s : State) : (tamperEvent k t v s).pending = s.pending :=
  by unfold tamperEvent; simp only; split <;> simp

@[simp] theorem applyClearance_mlr (c : Nat) (x : Option CodePart) (s : State) : (applyClearance c x s).mlr = s.mlr :=
  by unfold applyClearance; simp
@[simp] theorem applyClearance_totals (c : Nat) (x : Option CodePart) (s : State) : (applyClearance c x s).totals = s.totals :=
  by unfold applyClearance; simp
@[simp] theorem applyClearance_bill (c : Nat) (x : Option CodePart) (s : State) : (applyClearance c x s).bill = s.bill :=
  by unfold applyClearance; simp
@[simp] theorem applyClearance_tariff (c : Nat) (x : Option CodePart) (s : State) : (applyClearance c x s).tariff = s.tariff :=
  by unfold applyClearance; simp
@[simp] theorem applyClearance_cal (c : Nat) (x : Option CodePart) (s : State) : (applyClearance c x s).cal = s.cal :=
  by unfold applyClearance; simp
@[simp] theorem applyClearance_code (c : Nat) (x : Option CodePart) (s : State) : (applyClearance c x s).code = s.code :=
  by unfold applyClearance; simp
@[simp] theorem applyClearance_supmon (c : Nat) (x : Option CodePart) (s : State) : (applyClearance c x s).supmon = s.supmon :=
  by unfold applyClearance; simp
@[simp] theorem applyClearance_ports (c : Nat) (x : Option CodePart) (s : State) : (applyClearance c x s).ports = s.ports :=
  by unfold applyClearance; simp
@[simp] theorem applyClearance_identity (c : Nat) (x : Option CodePart) (s : State) : (applyClearance c x s).identity = s.identity :=
  by unfold applyClearance; simp
@[simp] theorem applyClearance_pins (c : Nat) (x : Option CodePart) (s : State) : (applyClearance c x s).pins = s.pins :=
  by unfold applyClearance; simp
@[simp] theorem applyClearance_handed (c : Nat) (x : Option CodePart) (s : State) : (applyClearance c x s).handed = s.handed :=
  by unfold applyClearance; simp
@[simp] theorem applyClearance_pending (c : Nat) (x : Option CodePart) (s : State) : (applyClearance c x s).pending = s.pending :=
  by unfold applyClearance; simp

@[simp] theorem requestImage_mlr (s : State) : (requestImage s).mlr = s.mlr := by unfold requestImage; rfl
@[simp] theorem requestImage_totals (s : State) : (requestImage s).totals = s.totals := by unfold requestImage; rfl
@[simp] theorem requestImage_bill (s : State) : (requestImage s).bill = s.bill := by unfold requestImage; rfl
@[simp] theorem requestImage_cal (s : State) : (requestImage s).cal = s.cal := by unfold requestImage; rfl
@[simp] theorem requestImage_code (s : State) : (requestImage s).code = s.code := by unfold requestImage; rfl
@[simp] theorem requestImage_sw (s : State) : (requestImage s).sw = s.sw := by unfold requestImage; rfl
@[simp] theorem requestImage_tamper (s : State) : (requestImage s).tamper = s.tamper := by unfold requestImage; rfl
@[simp] theorem requestImage_log (s : State) : (requestImage s).log = s.log := by unfold requestImage; rfl
@[simp] theorem requestImage_alert (s : State) : (requestImage s).alert = s.alert := by unfold requestImage; rfl
@[simp] theorem requestImage_supmon (s : State) : (requestImage s).supmon = s.supmon := by unfold requestImage; rfl
@[simp] theorem requestImage_ports (s : State) : (requestImage s).ports = s.ports := by unfold requestImage; rfl
@[simp] theorem requestImage_identity (s : State) : (requestImage s).identity = s.identity :=
  by unfold requestImage; rfl
@[simp] theorem requestImage_pins (s : State) : (requestImage s).pins = s.pins := by unfold requestImage; rfl
@[simp] theorem requestImage_handed (s : State) : (requestImage s).handed = s.handed := by unfold requestImage; rfl
@[simp] theorem requestImage_pending (s : State) : (requestImage s).pending = s.pending := by unfold requestImage; rfl

@[simp] theorem detectOverload_totals (s : State) : (detectOverload s).totals = s.totals :=
  by unfold detectOverload; split <;> rfl
@[simp] theorem detectOverload_bill (s : State) : (detectOverload s).bill = s.bill :=
  by unfold detectOverload; split <;> rfl
@[simp] theorem detectOverload_tariff (s : State) : (detectOverload s).tariff = s.tariff :=
  by unfold detectOverload; split <;> rfl
@[simp] theorem detectOverload_cal (s : State) : (detectOverload s).cal = s.cal :=
  by unfold detectOverload; split <;> rfl
@[simp] theorem detectOverload_code (s : State) : (detectOverload s).code = s.code :=
  by unfold detectOverload; split <;> rfl
@[simp] theorem detectOverload_sw (s : State) : (detectOverload s).sw = s.sw :=
  by unfold detectOverload; split <;> rfl
@[simp] theorem detectOverload_tamper (s : State) : (detectOverload s).tamper = s.tamper :=
  by unfold detectOverload; split <;> rfl
@[simp] theorem detectOverload_log (s : State) : (detectOverload s).log = s.log :=
  by unfold detectOverload; split <;> rfl
@[simp] theorem detectOverload_alert (s : State) : (detectOverload s).alert = s.alert :=
  by unfold detectOverload; split <;> rfl
@[simp] theorem detectOverload_supmon (s : State) : (detectOverload s).supmon = s.supmon :=
  by unfold detectOverload; split <;> rfl
@[simp] theorem detectOverload_ports (s : State) : (detectOverload s).ports = s.ports :=
  by unfold detectOverload; split <;> rfl
@[simp] theorem detectOverload_identity (s : State) : (detectOverload s).identity = s.identity :=
  by unfold detectOverload; split <;> rfl
@[simp] theorem detectOverload_pins (s : State) : (detectOverload s).pins = s.pins :=
  by unfold detectOverload; split <;> rfl
@[simp] theorem detectOverload_pending (s : State) : (detectOverload s).pending = s.pending :=
  by unfold detectOverload; split <;> rfl

@[simp] theorem activateMlr_totals (s : State) : (activateMlr s).totals = s.totals :=
  by unfold activateMlr; split <;> simp
@[simp] theorem activateMlr_bill (s : State) : (activateMlr s).bill = s.bill := by unfold activateMlr; split <;> simp
@[simp] theorem activateMlr_tariff (s : State) : (activateMlr s).tariff = s.tariff :=
  by unfold activateMlr; split <;> simp
@[simp] theorem activateMlr_cal (s : State) : (activateMlr s).cal = s.cal := by unfold activateMlr; split <;> simp
@[simp] theorem activateMlr_code (s : State) : (activateMlr s).code = s.code := by unfold activateMlr; split <;> simp
@[simp] theorem activateMlr_sw (s : State) : (activateMlr s).sw = s.sw := by unfold activateMlr; split <;> simp
@[simp] theorem activateMlr_tamper (s : State) : (activateMlr s).tamper = s.tamper :=
  by unfold activateMlr; split <;> simp
@[simp] theorem activateMlr_log (s : State) : (activateMlr s).log = s.log := by unfold activateMlr; split <;> simp
@[simp] theorem activateMlr_alert (s : State) : (activateMlr s).alert = s.alert :=
  by unfold activateMlr; split <;> simp
@[simp] theorem activateMlr_supmon (s : State) : (activateMlr s).supmon = s.supmon :=
  by unfold activateMlr; split <;> simp
@[simp] theorem activateMlr_ports (s : State) : (activateMlr s).ports = s.ports :=
  by unfold activateMlr; split <;> simp
@[simp] theorem activateMlr_identity (s : State) : (activateMlr s).identity = s.identity :=
  by unfold activateMlr; split <;> simp
@[simp] theorem activateMlr_pins (s : State) : (activateMlr s).pins = s.pins := by unfold activateMlr; split <;> simp
@[simp] theorem activateMlr_pending (s : State) : (activateMlr s).pending = s.pending :=
  by unfold activateMlr; split <;> simp

@[simp] theorem replaceTariff_mlr (t : Tariff) (s : State) : (replaceTariff t s).mlr = s.mlr :=
  by unfold replaceTariff; simp only; split <;> simp
@[simp] theorem replaceTariff_totals (t : Tariff) (s : State) : (replaceTariff t s).totals = s.totals :=
  by unfold replaceTariff; simp only; split <;> simp
@[simp] theorem replaceTariff_bill (t : Tariff) (s : State) : (replaceTariff t s).bill = s.bill :=
  by unfold replaceTariff; simp only; split <;> simp
@[simp] theorem replaceTariff_cal (t : Tariff) (s : State) : (replaceTariff t s).cal = s.cal :=
  by unfold replaceTariff; simp only; split <;> simp
@[simp] theorem replaceTariff_code (t : Tariff) (s : State) : (replaceTariff t s).code = s.code :=
  by unfold replaceTariff; simp only; split <;> simp
@[simp] theorem replaceTariff_tamper (t : Tariff) (s : State) : (replaceTariff t s).tamper = s.tamper :=
  by unfold replaceTariff; simp only; split <;> simp
@[simp] theorem replaceTariff_log (t : Tariff) (s : State) : (replaceTariff t s).log = s.log :=
  by unfold replaceTariff; simp only; split <;> simp
@[simp] theorem replaceTariff_supmon (t : Tariff) (s : State) : (replaceTariff t s).supmon = s.supmon :=
  by unfold replaceTariff; simp only; split <;> simp
@[simp] theorem replaceTariff_ports (t : Tariff) (s : State) : (replaceTariff t s).ports = s.ports :=
  by unfold replaceTariff; simp only; split <;> simp
@[simp] theorem replaceTariff_identity (t : Tariff) (s : State) : (replaceTariff t s).identity = s.identity :=
  by unfold replaceTariff; simp only; split <;> simp
@[simp] theorem replaceTariff_pins (t : Tariff) (s : State) : (replaceTariff t s).pins = s.pins :=
  by unfold replaceTariff; simp only; split <;> simp
@[simp] theorem replaceTariff_handed (t : Tariff) (s : State) : (replaceTariff t s).handed = s.handed :=
  by unfold replaceTariff; simp only; split <;> simp
@[simp] theorem replaceTariff_pending (t : Tariff) (s : State) : (replaceTariff t s).pending = s.pending :=
  by unfold replaceTariff; simp only; split <;> simp

@[simp] theorem activate_totals (t : Tariff) (s : State) : (activate t s).totals = s.totals :=
  by unfold activate; simp
@[simp] theorem activate_cal (t : Tariff) (s : State) : (activate t s).cal = s.cal := by unfold activate; simp
@[simp] theorem activate_code (t : Tariff) (s : State) : (activate t s).code = s.code := by unfold activate; simp
@[simp] theorem activate_tamper (t : Tariff) (s : State) : (activate t s).tamper = s.tamper :=
  by unfold activate; simp
@[simp] theorem activate_ports (t : Tariff) (s : State) : (activate t s).ports = s.ports := by unfold activate; simp
@[simp] theorem activate_identity (t : Tariff) (s : State) : (activate t s).identity = s.identity :=
  by unfold activate; simp
@[simp] theorem activate_pins (t : Tariff) (s : State) : (activate t s).pins = s.pins := by unfold activate; simp
@[simp] theorem activate_pending (t : Tariff) (s : State) : (activate t s).pending = s.pending :=
  by unfold activate; simp

/-! ## What main-domain commands and port commands answer -/

theorem inMain_good {i : Instr} {f : State → State} {s : State} (h : mainGood s = true) :
    inMain i f s = .next (f (s.take i)) := by simp [inMain, h]

theorem inMain_stopped {i : Instr} {f : State → State} {s : State} (h : mainGood s = false) : inMain i f s = .next s := by
  simp [inMain, h]

theorem runCommand_ready {i : Instr} {p : Port} {body : State → State × Reply} {s : State} (h : Ready p s) :
    runCommand i p true body s = .next (respond p (body (s.take i)).2 (body (s.take i)).1) := by
  obtain ⟨hg, ho⟩ := h
  simp [runCommand, inMain, hg, ho]

theorem runCommand_notPermitted {i : Instr} {p : Port} {body : State → State × Reply} {s : State} (h : Ready p s) :
    runCommand i p false body s = .next (respond p (.bare .notPermitted) (s.take i)) := by
  obtain ⟨hg, ho⟩ := h
  simp [runCommand, inMain, hg, ho]

@[simp] theorem mainGood_take (i : Instr) (s : State) : mainGood (s.take i) = mainGood s := rfl

/-- No operation of SWITCH changes the demand set. -/
@[simp] theorem advance_set (w : Switch) (ok : Coil → Bool) : (w.advance ok).set = w.set := by
  unfold Switch.advance; repeat' split
  all_goals rfl

@[simp] theorem settleSwitch_set (w : Switch) (s : State) : (settleSwitch w s).sw.set = w.set := by
  simp only [settleSwitch, advance_set]

@[simp] theorem rules_set (w : Switch) (j : Bool) : (w.rules j).set = w.set := by
  unfold Switch.rules Switch.startOpening Switch.startClosing Switch.abandonClosing Switch.cutPulse Switch.operate
  repeat' split
  all_goals rfl

@[simp] theorem applyRules_set (j : Bool) (s : State) : (applyRules j s).sw.set = s.sw.set := by
  simp only [applyRules, settleSwitch_set, rules_set]

@[simp] theorem put_same (d : DemandSet) (m : Member) (b : Bool) (h : d.has m = b) : d.put m b = d := by
  cases d; cases m <;> simp_all [DemandSet.has, DemandSet.put]

/-- A request on the demand set sets exactly its member (R92). -/
@[simp] theorem demand_set (m : Member) (b : Bool) (s : State) : (demand m b s).sw.set = s.sw.set.put m b := by
  unfold demand
  split
  · rw [put_same _ _ _ ‹_›]
  · simp only; split <;> simp

/-- The balance after a reduction (R20). -/
@[simp] theorem reduce_b (w : Nat) (s : State) : (reduce w s).bill.b = max balanceMin (s.bill.b - w) := by
  unfold reduce; simp only; split <;> rfl

@[simp] theorem reduce_r (w : Nat) (s : State) : (reduce w s).bill.r = s.bill.r := by
  unfold reduce; simp only; split <;> rfl

@[simp] theorem reduce_q (w : Nat) (s : State) : (reduce w s).bill.q = s.bill.q := by
  unfold reduce; simp only; split <;> rfl

@[simp] theorem reduce_h (w : Nat) (s : State) : (reduce w s).bill.h = s.bill.h := by
  unfold reduce; simp only; split <;> rfl

@[simp] theorem reduce_d (w : Nat) (s : State) : (reduce w s).bill.d = s.bill.d := by
  unfold reduce; simp only; split <;> rfl

@[simp] theorem reduce_emergency (w : Nat) (s : State) : (reduce w s).bill.emergency = s.bill.emergency := by
  unfold reduce; simp only; split <;> rfl

/-- An evaluation changes nothing of BILL but the emergency state and the deferral flag (R37, R38). -/
theorem evaluate_bill (s : State) :
    (evaluate s).bill = { s.bill with emergency := (evaluate s).bill.emergency, deferral := (evaluate s).bill.deferral } := by
  unfold evaluate evaluateCredit
  simp only
  split <;> (try split) <;> simp

@[simp] theorem evaluate_emergency (s : State) : (evaluate s).bill.emergency = recomputed s := by
  unfold evaluate evaluateCredit
  simp only
  split <;> (try split) <;> simp

@[simp] theorem evaluate_b (s : State) : (evaluate s).bill.b = s.bill.b := by rw [evaluate_bill]
@[simp] theorem evaluate_r (s : State) : (evaluate s).bill.r = s.bill.r := by rw [evaluate_bill]
@[simp] theorem evaluate_q (s : State) : (evaluate s).bill.q = s.bill.q := by rw [evaluate_bill]
@[simp] theorem evaluate_h (s : State) : (evaluate s).bill.h = s.bill.h := by rw [evaluate_bill]
@[simp] theorem evaluate_d (s : State) : (evaluate s).bill.d = s.bill.d := by rw [evaluate_bill]
@[simp] theorem evaluate_floor (s : State) : (evaluate s).bill.floor = s.bill.floor := by rw [evaluate_bill]

theorem foldl_gap_none (l : List Instr) (s : State) (h : ∀ t, Instr.gapAccrual t ∉ l) :
    l.foldl (fun acc i => match i with
      | .gapAccrual t => gapAccrue t.toNat (acc.take i)
      | _ => acc) s = s := by
  induction l generalizing s with
  | nil => rfl
  | cons i l ih =>
    simp only [List.foldl_cons]
    have hl : ∀ t, Instr.gapAccrual t ∉ l := fun t ht => h t (List.mem_cons_of_mem _ ht)
    cases i
    case gapAccrual t => exact absurd List.mem_cons_self (h t)
    all_goals exact ih _ hl

/-- With no gap accrual waiting, BILL's other requests find the state as it is (R45). -/
theorem settleGap_none {s : State} (h : NoGapWaits s) : settleGap s = s := foldl_gap_none _ _ h

theorem noGapWaits_take {i : Instr} {s : State} (h : NoGapWaits s) : NoGapWaits (s.take i) :=
  fun t ht => h t (List.mem_of_mem_erase ht)

end Sys2Proof.Machine
end

