-- ==== Sys2Proof/Tests/Slice0.lean ====
section
/-! SUPPORT. Tests of single commands on small states, with results from the spec's worked examples and rules; the smoke test
of WellFormed; and, for the statements of Certificates/Slice0, states that meet their hypotheses. -/

namespace Sys2Proof.Machine.Tests

open Sys2Proof Sys2Proof.Machine

/-! ## Helpers -/

/-- The state a command leaves. -/
def after (c : Instr) (s : State) : State :=
  match exec c s with
  | .next t => t
  | .fault _ => s
  | .refused _ => s

/-- The status byte and the data of the response a port owes last. -/
def answer (p : Port) (s : State) : List Byte :=
  ((((s.ports.line.get p).owed.getLast?).getD []).drop 2).dropLast

/-- The commissioned part with a closed relay, an empty set, an empty staging queue and every permit. -/
def base : State :=
  { State.reset with
    tariff := { State.reset.tariff with commissioned := true, image := .holds Tariff.default, imageState := .current,
                                        imageWriting := none }
    sw := { State.reset.sw with set := DemandSet.none, state := .closed, phase := none, position := .closed,
                                confirm := false, holdOff := .stopped }
    log := { State.reset.log with staging := [] }
    supmon := { State.reset.supmon with request := false }
    pins := { State.reset.pins with crdy := true, lsense := true } }

def withTariff (t : Tariff) (s : State) : State := { s with tariff := { s.tariff with active := t } }

/-- A tariff of one price in every band. -/
def flat (price standing emergency low share allowance : Nat) (windows : List Window) : Tariff :=
  { Tariff.default with
    prices := ⟨price, price, price, price⟩
    charges := ⟨standing, emergency, low, 100000000, share⟩
    friendly := ⟨windows, allowance⟩ }

/-! ## WellFormed: each check refuses a term -/

theorem test_wf_extra_bits : (Instr.metrologyFrame [] (some 8)).wellFormed = false := by decide
theorem test_wf_debit : (Instr.debitRequest 131071).wellFormed = false := by decide
theorem test_wf_put : (Instr.tariffPut .network 1#8 (List.replicate 59 0#8)).wellFormed = false := by decide
theorem test_wf_submit : (Instr.submitCode .meter (List.replicate 60 0x30#8)).wellFormed = false := by decide
theorem test_wf_record_parts : (Instr.recordOffer { time := 0, valid := true, kind := .tamper }).wellFormed = false := by
  decide
theorem test_wf_record_range :
    (Instr.recordOffer { time := 4294967296, valid := true, kind := .powerFail }).wellFormed = false := by decide
theorem test_wf_record_gap :
    (Instr.recordOffer { time := 0, valid := true, kind := .metrologyGap, gap := some 8 }).wellFormed = false := by decide
theorem test_wf_bad_frame : (Instr.badFrame .meter [2#8, 1#8, 0#8]).wellFormed = false := by decide
theorem test_wf_bad_frame_short : (Instr.badFrame .meter [0#8, 0#8]).wellFormed = false := by decide
theorem test_wf_length_byte : (Instr.lengthByteReject .meter 60#8).wellFormed = false := by decide
theorem test_wf_levels : (Instr.setAlertLevels .meter (List.replicate 11 0#8) 0#8).wellFormed = false := by decide
theorem test_wf_good :
    (Instr.metrologyFrame [] (some 7)).wellFormed = true ∧ (Instr.debitRequest 131070).wellFormed = true ∧
      (Instr.lengthByteReject .meter 61#8).wellFormed = true ∧
      (Instr.badFrame .meter [1#8, 2#8, 0#8]).wellFormed = true := by decide

/-- No row of the table gives bits, so no word spells a command. -/
theorem test_no_word : decodeTableWord 32 0 = none ∧ (base.withFetchWord 32 0) = base := by decide

/-! ## 01: the worked examples of chapter 1 -/

def linked (last : Byte) (eLast : Nat) (s : State) : State :=
  { s with mlr := { s.mlr with link := .synced, lastSeq := some last, eLast := some eLast } }

/-- Arrival 6: seq 10 after 255, Ep 33, En 31. -/
def arrival6 : Instr :=
  .metrologyFrame [0xA5#8, 10#8, 0#8, 0#8, 33#8, 0#8, 31#8, 0#8, 0#8, 0#8, 0#8, 17#8] (some 0)

set_option maxRecDepth 4000 in
theorem test_arrival6_billed : (after arrival6 (linked 255#8 40 base)).totals.billed = 353 := by decide
set_option maxRecDepth 4000 in
theorem test_arrival6_debits :
    (after arrival6 (linked 255#8 40 base)).handed = List.replicate 8 (.debitRequest 40) ++ [.debitRequest 33] := by decide

/-- Arrival 2: seq 251 again. -/
def arrival2 : Instr :=
  .metrologyFrame [0xA5#8, 251#8, 0#8, 0#8, 30#8, 0#8, 28#8, 0#8, 0#8, 0#8, 0#8, 38#8] (some 0)

theorem test_arrival2_duplicate : after arrival2 (linked 251#8 30 base) = linked 251#8 30 base := by decide
theorem test_frame_in_progress :
    after (.metrologyFrame [0#8] none) base = base ∧ (after (.metrologyFrame [0#8] (some 0)) base).mlr.badReports = 1 := by
  decide

/-- The silence timer at 5 s. -/
def silent (s : State) : State := { s with mlr := { s.mlr with silence := ⟨true, 5000⟩ } }

/-- The link LOST for 60 s. -/
def lost : State :=
  { base with mlr := { base.mlr with link := .lost, silence := .stopped, linkCut := ⟨true, 60000⟩ } }

theorem test_silence :
    (after .silenceExpiry (silent base)).mlr.link = .lost ∧
      (after .silenceExpiry (silent base)).alert.conditions.metrologyLost = true := by
  decide
set_option maxRecDepth 4000 in
/-- A report taken before the expiry: the restarted timer does not expire (R7). -/
theorem test_report_before_silence :
    (after .silenceExpiry (after arrival6 (linked 9#8 40 (silent base)))).mlr.link = .synced := by decide
theorem test_link_cut : (after .linkCutExpiry lost).handed = [.tamperEvent .linkCut] := by decide

/-! ## 02: the worked examples of chapter 2 -/

def billed (b : Int) (r q h d : Nat) (s : State) : State :=
  { s with bill := { s.bill with b := b, r := r, q := q, h := h, d := d } }

def example2 : State := withTariff (flat 2500 60000 0 0 250 0 []) (billed 1199994 7500 0 0 500000 base)

theorem test_debit_second_report :
    (after (.debitRequest 27) example2).bill.b = 1199987 ∧ (after (.debitRequest 27) example2).bill.r = 5000 := by decide

theorem test_gap_accrual_capped :
    (after (.gapAccrual 4456030#32) (billed 3000000 0 40000 1000000 0 example2)).bill.b = 1140000 ∧
      (after (.gapAccrual 4456030#32) (billed 3000000 0 40000 1000000 0 example2)).bill.q = 40000 := by decide
theorem test_hour_accrual :
    (after (.standingAccrual 3600#32) (billed 1199987 5000 0 0 500000 example2)).bill.b = 1197487 := by decide

def entry : CodeEntry := ⟨.meter, 0#8, List.replicate 22 0⟩

/-- A code in JUDGING with the check that belongs to it. -/
def judging (kind issue payload : Nat) (s : State) : State :=
  { s with code := { s.code with
      flight := some ⟨entry, 0, .judging (some ⟨kind, issue, payload, (7 * kind + 3 * issue + payload) % 4093⟩)⟩ } }

theorem test_credit_code :
    (after .codeJudging (judging 1 77 2000 (billed 1197487 5000 0 0 500000 example2))).bill.b = 2697487 ∧
      (after .codeJudging (judging 1 77 2000 (billed 1197487 5000 0 0 500000 example2))).bill.d = 0 := by decide

/-- The emergency example: 17:25 of a day whose window is 17:00 to 21:00, emergency credit in use. -/
def evening (b : Int) : State :=
  let s := withTariff (flat 4000 0 300000 200000 0 50000 [⟨127#8, 1020, 1260⟩]) (billed b 0 0 62700 0 base)
  { s with bill := { s.bill with emergency := .inUse }, cal := { s.cal with t := 62700, valid := true } }

theorem test_deferral :
    (after (.debitRequest 250) (evening (-300000))).bill.deferral = true ∧
      (after (.debitRequest 250) (evening (-300000))).sw.set.credit = false := by decide
theorem test_disconnection :
    (after (.debitRequest 250) (evening (-350000))).bill.deferral = false ∧
      (after (.debitRequest 250) (evening (-350000))).sw.set.credit = true := by decide
theorem test_window_ends :
    (after .clockMinute { evening (-320000) with cal := { base.cal with t := 75600, valid := true } }).sw.set.credit = true := by
  decide
theorem test_emergency_taken :
    let s := { evening 30000 with bill := { (evening 30000).bill with emergency := .available } }
    (after (.requestEmergency .meter) s).bill.emergency = .inUse ∧ answer .meter (after (.requestEmergency .meter) s) = [0#8] := by
  decide

/-! ## 03: the worked examples of chapter 3 -/

def lookups : Tariff :=
  { Tariff.default with
    workday := [⟨0, .b0⟩, ⟨420, .b1⟩, ⟨1020, .b2⟩, ⟨1320, .b0⟩]
    restday := [⟨0, .b0⟩, ⟨600, .b3⟩]
    restDays := ⟨96#7, [1828, 1900]⟩
    friendly := ⟨[⟨31#8, 1020, 1260⟩, ⟨128#8, 540, 1200⟩], 0⟩ }

theorem test_lookup_bands :
    bandUnder lookups 157998600 60 true = .b3 ∧ bandUnder lookups 158085000 60 true = .b2 ∧
      bandUnder lookups 158029200 (-300) true = .b3 ∧ bandUnder lookups 158344200 60 true = .b3 := by decide
theorem test_lookup_friendly :
    friendlyUnder lookups 157998600 60 true = true ∧ friendlyUnder lookups 158085000 60 true = true ∧
      friendlyUnder lookups 158029200 (-300) true = false ∧ friendlyUnder lookups 158344200 60 true = false := by decide

def assembling (ps : List SwitchPoint) : State :=
  { base with tariff := { base.tariff with slot := .assembling { lookups with id := 17, workday := ps } } }

/-- TARIFF_PUT of WORKDAY with (0, band 0), (1,500, band 2). -/
theorem test_put_range :
    answer .network (after (.tariffPut .network 3#8 [2#8, 0#8, 0#8, 0#8, 5#8, 0xDC#8, 2#8]) (assembling [⟨0, .b0⟩])) =
      [0x7#8] := by decide
theorem test_put_order :
    (after (.tariffPut .network 3#8 [3#8, 0#8, 0#8, 0#8, 1#8, 0xA4#8, 1#8, 1#8, 0x90#8, 2#8]) (assembling [⟨0, .b0⟩])).tariff.slot =
      .assembling { lookups with id := 17, workday := [⟨0, .b0⟩, ⟨420, .b1⟩, ⟨400, .b2⟩] } := by decide
theorem test_commit_names_workday :
    answer .network (after (.tariffCommit .network 200003600#32) (assembling [⟨0, .b0⟩, ⟨420, .b1⟩, ⟨400, .b2⟩])) =
      [0x12#8, 3#8] := by decide
theorem test_commit_arms :
    (after (.tariffCommit .network 200003600#32) (assembling [⟨0, .b0⟩, ⟨420, .b1⟩, ⟨1020, .b2⟩])).tariff.slot =
      .armed { lookups with id := 17, workday := [⟨0, .b0⟩, ⟨420, .b1⟩, ⟨1020, .b2⟩] } 200003600 := by decide
theorem test_put_wrong_state : answer .network (after (.tariffPut .network 2#8 []) base) = [0x8#8] := by decide

def dueTariff : State :=
  let s := withTariff (flat 0 0 300000 0 0 0 []) (billed (-150000) 0 0 500000 0 base)
  { s with bill := { s.bill with emergency := .inUse }, cal := { s.cal with t := 500000, valid := true },
           tariff := { s.tariff with slot := .armed (flat 0 0 100000 0 0 0 []) 500000 } }

theorem test_activation_adds_credit :
    (after .tariffActivation dueTariff).sw.set.credit = true ∧ (after .tariffActivation dueTariff).bill.b = -150000 := by
  decide

/-! ## 04: the worked examples of chapter 4 -/

theorem test_round_function :
    roundF 0 0 = 0 ∧ roundF 1 0 = 5184384 ∧ roundF 0 1 = 5184384 ∧ roundF 68719476735 1 = 0 ∧ roundF 1073741824 0 = 110 := by
  decide
theorem test_check_values :
    codeCheck ⟨1, 1000, 2000, 0⟩ = 914 ∧ codeCheck ⟨3, 16777215, 4294967295, 0⟩ = 2348 := by decide

def listed : State := { base with code := { base.code with accepted := (List.range 32).map (· + 201), lowMark := 200 } }

theorem test_list_insert :
    (after .codeJudging (judging 1 250 1 (withTariff (flat 0 0 0 0 0 0 []) listed))).code.accepted =
        (List.range 31).map (· + 202) ++ [250] ∧
      (after .codeJudging (judging 1 250 1 (withTariff (flat 0 0 0 0 0 0 []) listed))).code.lowMark = 201 := by decide
theorem test_list_used :
    ((after .codeJudging (judging 1 210 1 listed)).code.results.meter.getLast?).map (·.outcome) = some .used := by decide

def failing (l : Lockout) : State :=
  { base with code := { base.code with flight := some ⟨entry, 0, .judging none⟩, lockout := ⟨l, Lockout.clear⟩ } }

theorem test_fifth_failure : (after .codeJudging (failing ⟨4, 0, 0⟩)).code.lockout.meter = ⟨5, 1, 60⟩ := by decide
theorem test_doubled_penalty : (after .codeJudging (failing ⟨4, 1, 0⟩)).code.lockout.meter = ⟨5, 2, 120⟩ := by decide

def provisioned : State :=
  { base with identity := { base.identity with working := ⟨some 1, some 5, true, false⟩ } }

theorem test_submit_queued :
    (after (.submitCode .meter (List.replicate 22 0x31#8)) provisioned).code.queue = [⟨.meter, 0#8, List.replicate 22 1⟩] := by
  decide
theorem test_submit_locked_out :
    let s := { provisioned with code := { base.code with lockout := ⟨⟨5, 1, 30⟩, Lockout.clear⟩ } }
    answer .meter (after (.submitCode .meter (List.replicate 22 0x31#8)) s) = [0x9#8, 0#8, 30#8] := by decide

/-- M0 in flight in PERSISTING, N0 and M1 in the queue. -/
def busyEngine : State :=
  { base with code := { base.code with
      queue := [⟨.network, 0#8, List.replicate 22 0⟩, ⟨.meter, 1#8, List.replicate 22 0⟩],
      flight := some ⟨entry, 0, .persisting ⟨1, 1001, 2000⟩ (some 0) true⟩ } }

theorem test_result_queued : answer .network (after (.codeResult .network 0#8) busyEngine) = [2#8, 4#8, 1#8] := by decide
theorem test_result_persisting : answer .meter (after (.codeResult .meter 0#8) busyEngine) = [2#8, 3#8] := by decide

/-! ## 05: the worked examples of chapter 5 -/

theorem test_credit_opens :
    (after (.demandSetRequest .credit true) base).sw.state = .opening ∧
      (after (.demandSetRequest .credit true) base).sw.phase = some .pulse := by decide

/-- A welded relay after the third pulse of an opening. -/
def welded (attempts : Nat) : State :=
  { base with sw := { base.sw with set := { DemandSet.none with credit := true }, state := .opening,
                                   phase := some .settle, opTimer := ⟨true, 100⟩, attempts := attempts, confirm := true } }

theorem test_third_failure :
    (after .settleEnd (welded 3)).sw.state = .closed ∧ (after .settleEnd (welded 3)).sw.fault = true ∧
      (after .settleEnd (welded 3)).log.staging =
        [⟨4, { time := 0, valid := false, kind := .relayFault, energy := some 0,
               relay := some ⟨.closed, .closed, { DemandSet.none with credit := true }, 3⟩ }⟩] := by decide
theorem test_second_failure :
    (after .settleEnd { welded 2 with pins := { base.pins with crdy := false } }).sw.phase = some .waitPermit := by decide

def armed : State :=
  { base with sw := { base.sw with state := .armed, position := .opened, confirm := true },
              pins := { base.pins with lsense := false } }

theorem test_confirm :
    (after (.confirmReconnect .meter) armed).sw.state = .closing ∧
      (after (.confirmReconnect .meter) armed).sw.phase = some .pulse := by decide
theorem test_close_pulse_cut :
    let s := after (.remoteOpen .network) (after (.confirmReconnect .meter) armed)
    s.sw.state = .opening ∧ s.sw.phase = some .deadTime ∧ s.sw.deadCoil = some .closeCoil := by decide

/-- OVERLOAD present for the 30 s of the restore delay. -/
def overloaded : State :=
  { armed with sw := { armed.sw with set := { DemandSet.none with overload := true }, state := .opened,
                                     overload := ⟨true, 30000⟩ } }

theorem test_overload_ends : (after .overloadRestoreExpiry overloaded).sw.state = .armed := by decide
/-- A signal taken before the comparison keeps OVERLOAD (R108). -/
theorem test_signal_before_comparison :
    (after .overloadRestoreExpiry (after .overloadSignal overloaded)).sw.set.overload = true := by decide
theorem test_read_switch_at_rest :
    answer .meter (after (.readSwitch .meter) overloaded) =
      [0#8, 2#8, 0#8, 0#8, 0#8, 0#8, 1#8, 2#8, 0x35#8, 0#8, 0#8, 0#8, 30#8] := by decide

/-! ## 06: the worked examples of chapter 6 -/

def masked (ts lock clear : Nat) (present : Bool) (terminal : CoverPos) : State :=
  let s := withTariff { Tariff.default with policy := { Tariff.default.policy with lockout := 71#7 } } base
  { s with
    tamper := { s.tamper with ts := ts, tsLock := lock, tsClear := clear, debounced := ⟨.closed, terminal⟩ }
    sw := { s.sw with set := { DemandSet.none with tamper := present }, state := if present then .opened else .closed } }

theorem test_reverse_flow_does_not_lock :
    (after (.tamperEvent .reverseFlow) (masked 4 3 3 false .closed)).tamper.ts = 5 ∧
      (after (.tamperEvent .reverseFlow) (masked 4 3 3 false .closed)).sw.set.tamper = false := by decide
theorem test_cover_locks :
    (after (.tamperEvent .tcoverOpen) (masked 5 3 3 false .closed)).tamper.tsLock = 6 ∧
      (after (.tamperEvent .tcoverOpen) (masked 5 3 3 false .closed)).sw.set.tamper = true := by decide
theorem test_clear_barred :
    answer .network (after (.remoteTamperClear .network 7#32) (masked 7 6 3 true .opened)) =
      [0xF#8, 10#8, 0#8, 0#8, 0#8, 7#8, 0#8, 0#8, 0#8, 6#8, 0#8, 0#8, 0#8, 3#8] := by decide
theorem test_clear_applied :
    (after (.remoteTamperClear .network 7#32) (masked 7 6 3 true .closed)).tamper.tsClear = 7 ∧
      (after (.remoteTamperClear .network 7#32) (masked 7 6 3 true .closed)).sw.set.tamper = false := by decide

def failed (cover latched : Bool) : State :=
  { base with
    supmon := { base.supmon with supply := .mainFailed }
    cal := { base.cal with t := 1004000 }
    tamper := { base.tamper with sampling := ⟨true, 250⟩, latch := ⟨if latched then some ⟨1003600, false⟩ else none, none⟩ }
    pins := { base.pins with covers := ⟨if cover then .opened else .closed, .closed⟩ } }

theorem test_backup_sample_latches :
    (after .backupCoverSample (failed true false)).tamper.latch.cover = some ⟨1004000, false⟩ := by decide
theorem test_backup_sample_keeps :
    (after .backupCoverSample (failed true true)).tamper.latch.cover = some ⟨1003600, false⟩ := by decide

/-! ## 07: the worked example of chapter 7 -/

def evidence (n : Nat) : LogRecord := ⟨n, { time := 0, valid := true, kind := .tamper }⟩
def routine (n : Nat) : LogRecord := ⟨n, { time := 0, valid := true, kind := .powerFail }⟩

/-- Records 901 to 1,028, of which 63 are evidence, with 903 and 905 the oldest routine ones. -/
def fullLog : List LogRecord :=
  [evidence 901, evidence 902, routine 903, evidence 904, routine 905] ++ (List.range 60).map (fun i => evidence (906 + i)) ++
    (List.range 63).map (fun i => routine (966 + i))

def logged (records staging : List LogRecord) : State :=
  { base with log := { base.log with records := records, staging := staging, markA := some ⟨900, 1⟩, heldMark := 900,
                                     next := some 1032, threshold := 48 } }

set_option maxRecDepth 8000 in
theorem test_oldest_routine_gives_way :
    (after .logWriteStart (logged fullLog [routine 1029])).log.records =
      [evidence 901, evidence 902, evidence 904, routine 905] ++ fullLog.drop 5 := by decide
theorem test_cap :
    let s := logged (fullLog.drop 5 ++ [evidence 1029, evidence 1030, evidence 1031, evidence 1032]) [evidence 1033]
    (after .logWriteStart s).log.staging = [] ∧ (after .logWriteStart s).log.overflow = 1 := by decide
theorem test_collect :
    (after (.evidenceCollect .network 1031#32) (logged (fullLog ++ [evidence 1030]) [])).log.heldMark = 1030 ∧
      (after (.evidenceCollect .network 1031#32) (logged (fullLog ++ [evidence 1030]) [])).log.markRequest = true := by decide

/-! ## 08: the worked examples of chapter 8 -/

theorem test_local_time_first :
    localSeconds 10000 (-720) = -33200 ∧ localDay 10000 (-720) = -1 ∧ localWeekday 10000 (-720) = 6 ∧
      localMinute 10000 (-720) = 886 := by decide
theorem test_local_time_last :
    localSeconds 4294967295 840 = 4295017695 ∧ localDay 4294967295 840 = 49710 ∧ localWeekday 4294967295 840 = 3 ∧
      localMinute 4294967295 840 = 1228 := by decide
theorem test_clock_set :
    let s := { billed 499390 0 0 300000600 0 base with cal := { base.cal with t := 300000600 } }
    let t := after (.clockSet .network 1700003000#32 60#16) s
    t.cal.t = 1700003000 ∧ t.bill.h = 1700003000 ∧ t.bill.b = 499390 ∧
      answer .network t = [0#8, 0x11#8, 0xE1#8, 0xA5#8, 0x58#8, 0#8, 0#8, 0x65#8, 0x53#8, 0xFC#8, 0xB8#8, 0#8, 0x3C#8] := by
  decide
theorem test_clock_stands_still :
    let s := { base with cal := { base.cal with t := 4294967295 } }
    (after .clockTick s).cal.t = 4294967295 ∧
      (after .clockTick s).handed = [.standingAccrual 4294967295#32, .tariffActivation, .penaltyDecrement] := by decide

/-! ## 09: the worked examples of chapter 9 -/

def sagging : State :=
  { base with cal := { base.cal with t := 86400000 },
              log := { base.log with staging := [routine 5118, routine 5119], next := some 5120 } }

theorem test_main_failure :
    (after .mainFailure sagging).supmon.supply = .mainFailed ∧
      ((after .mainFailure sagging).log.staging.getLast?).map (fun r => (r.number, r.body.kind)) = some (5120, .powerFail) := by
  decide
/-- The restore timer at 64 ms. -/
def waited (s : State) : State := { s with supmon := { s.supmon with restoreTimer := ⟨true, 64⟩ } }

theorem test_warm_restore :
    let s := after (.restoreEnd false false) (waited (after .vmainRise (after .mainFailure sagging)))
    s.supmon.cause = .warm ∧ s.handed = [.gapAccrual 86400000#32] ∧
      ((s.log.staging.getLast?).map (fun r => (r.number, r.body.kind))) = some (5121, .powerRestore) := by decide

/-- A request made while RESTORING is taken after the position is resolved (R113). -/
theorem test_held_request :
    let s := after (.demandSetRequest .remote true) (after .vmainRise (after .mainFailure sagging))
    s.sw.set.remote = false ∧ (after (.restoreEnd false false) (waited s)).sw.state = .opening ∧
      (after (.restoreEnd false false) (waited s)).sw.set.remote = true := by decide

def checkpointAt (seq : Nat) : Checkpoint :=
  { seq := seq, time := 0, b := 0, r := 0, q := 0, h := 0, d := 0, emergency := .unavailable, accepted := [], lowMark := 0,
    ts := 0, tsLock := 0, tsClear := 0, totals := Totals.zero, set := DemandSet.none, confirm := false, commissioned := true,
    counter := 1, active := Tariff.default }

def fullRing : State :=
  { base with supmon := { base.supmon with
      ring := (List.range 8).map (fun i => Slot.valid (checkpointAt (92 + i))), nextSeq := 100, request := true } }

theorem test_checkpoint_slot :
    let s := after .checkpointWriteStart fullRing
    s.supmon.ring.head? = some .invalid ∧ s.supmon.nextSeq = 101 ∧ s.supmon.request = false := by decide
theorem test_checkpoint_again :
    let s := after .checkpointWriteComplete (after .checkpointRequest (after .checkpointWriteStart fullRing))
    (match s.supmon.writer with | .writing slot c _ => (slot, c.seq) | .idle => (9, 0)) = (1, 101) := by decide

/-- The first restore of a new part leaves what State.reset says, but for what the ports and the pins hold. -/
theorem test_reset_is_a_cold_restore :
    let blank :=
      { State.reset with
        supmon := { State.reset.supmon with supply := .restoring, retention := false, restoreTimer := ⟨true, 64⟩ },
        log := { State.reset.log with staging := [], next := none } }
    after (.restoreEnd false false) blank = State.reset := by decide

/-! ## 10: frames, and the worked example of chapter 10 -/

theorem test_read_credit_frame : readFrame .meter [1#8, 0x02#8, 0x3A#8] = some (.readCredit .meter) := by decide
theorem test_clock_set_frame :
    readFrame .network [7#8, 0x34#8, 0x65#8, 0x53#8, 0xFC#8, 0xB8#8, 0xFF#8, 0xC4#8, 0xD3#8] =
      some (.clockSet .network 1700003000#32 65476#16) := by decide
theorem test_second_frame_busy :
    let s := after (.requestEmergency .meter) (after (.readCredit .meter) base)
    answer .meter s = [3#8] ∧ s.ports.line.meter.owed.length = 2 ∧ s.bill.emergency = .unavailable := by decide
theorem test_third_frame_discarded :
    (after (.readCredit .meter) (after (.readCredit .meter) (after (.readCredit .meter) base))).ports.line.meter.discarded = 1 := by
  decide
theorem test_response_byte_out :
    (after (.receiverByte .meter (some 0#8)) (after (.readCredit .meter) base)).ports.msdo = some 0x3C#8 := by decide
theorem test_msdo_released :
    (after .mcsnRelease (after (.receiverByte .meter (some 0#8)) base)).ports.msdo = none := by decide
/-- A port that was selected when the restore ended hears nothing before MCSN falls again (R189). -/
theorem test_selected_through_restore :
    let s := after (.restoreEnd false false) (waited (after (.receiverByte .meter (some 0#8)) (after .vmainRise (after .mainFailure base))))
    (after (.receiverByte .meter (some 0xC3#8)) s).ports.line.meter.receiver = .hunting ∧
      (after (.receiverByte .meter (some 0xC3#8)) (after .mcsnRelease s)).ports.line.meter.receiver = .length := by decide
/-- A byte that had only begun when the restore ended shows the same (R189). -/
theorem test_begun_through_restore :
    let s := after (.restoreEnd false false) (waited (after (.receiverByte .meter none) (after .vmainRise (after .mainFailure base))))
    (after (.receiverByte .meter (some 0xC3#8)) s).ports.line.meter.receiver = .hunting ∧
      (after (.receiverByte .meter (some 0xC3#8)) (after .mcsnRelease s)).ports.line.meter.receiver = .length := by decide
/-- The network port ignores a byte that began before the end of the restore, until the next start bit (R189). -/
theorem test_network_byte_through_restore :
    let s := after (.restoreEnd false false) (waited (after (.receiverByte .network none) (after .vmainRise (after .mainFailure base))))
    let t := after (.receiverByte .network (some 0xC3#8)) s
    t.ports.line.network.receiver = .hunting ∧
      (after (.receiverByte .network (some 0xC3#8)) t).ports.line.network.receiver = .length := by decide
/-- A response byte that is only partly clocked has not been sent (R179). -/
theorem test_begun_byte_not_sent :
    let s := after (.receiverByte .meter none) (after (.readCredit .meter) base)
    s.ports.msdo = some 0x3C#8 ∧ (after (.receiverByte .meter (some 0#8)) (after .mcsnRelease s)).ports.msdo = some 0x3C#8 := by
  decide
/-- 96 tenths of a bit a millisecond at 9,600 baud: the second millisecond sends the first byte. -/
theorem test_network_byte_sent :
    let s := after (.readCredit .network) base
    (elapse (elapse s)).ports.line.network.sent = 1 ∧ (elapse (elapse s)).ports.txTenths = 92 ∧ ntxd s = some false := by
  decide
theorem test_not_permitted : answer .network (after (.confirmReconnect .network) armed) = [6#8] := by decide
theorem test_identity_locked :
    answer .network (after (.lockIdentity .network) (after (.responseSent .network) (after (.lockIdentity .network) provisioned))) =
      [0xC#8] := by decide

/-! ## 11: the worked example of chapter 11 -/

def alerting : State :=
  { base with alert :=
      { base.alert with
        ports := ⟨base.alert.ports.meter,
          { base.alert.ports.network with
            classes := ((noClasses.set (.latched .tamper) ⟨true, 5⟩).set (.condition .lowCredit) ⟨true, 1⟩).set
              (.latched .powerRestored) ⟨true, 10⟩ }⟩,
        conditions := { base.alert.conditions with lowCredit := true } } }

theorem test_ack_stale : (answer .network (after (.alertAck .network 1#8 4#8) alerting)).head? = some 0xE#8 := by decide
theorem test_ack_ok :
    ((after (.alertAck .network 1#8 5#8) alerting).alert.ports.network.selected) = some (.latched .powerRestored) := by decide
theorem test_query_selects_tamper : alerting.alert.ports.network.selected = some (.latched .tamper) := by decide

/-! ## States that meet the hypotheses of the statements -/

theorem quiet {s : State} (h : s.handed = []) :
    NoGapWaits s ∧ NoDebitWaits s ∧ NoAccrualWaits s ∧ ∀ p, NoFrameWaits p s := by
  simp [NoGapWaits, NoDebitWaits, NoAccrualWaits, NoFrameWaits, h]

theorem idle_base : Idle base := ⟨by decide, rfl, by decide⟩

theorem ready_base : Ready .meter base ∧ Ready .network base := ⟨⟨by decide, by decide⟩, by decide, by decide⟩

theorem witness_EveryCommandAnswers : mainDomain .clockMinute = true ∧ (failed true true).supmon.supply ≠ .mainGood := by decide

theorem witness_UnusableFramesDiscarded :
    byteSum [0xA5#8, 10#8, 0#8, 0#8, 33#8, 0#8, 31#8, 0#8, 0#8, 0#8, 0#8, 17#8] = 0#8 ∧ mainGood base = true ∧
      (List.replicate 11 0xA5#8).length ≠ 12 ∧ byteSum (List.replicate 12 0xA5#8) ≠ 0#8 := by decide

/-- Ep 33, En 31 with sequence number 10. -/
def report6 : Report := { seq := 10#8, magnetic := false, ep := 33, en := 31, ex := 0, ip := 0 }
def bytes6 : List Byte := [0xA5#8, 10#8, 0#8, 0#8, 33#8, 0#8, 31#8, 0#8, 0#8, 0#8, 0#8, 17#8]

set_option maxRecDepth 4000 in
/-- After a report with the sequence number 9, and before any report. -/
theorem witness_RealReportsTaken :
    readReport bytes6 0 = some report6 ∧ mainGood (linked 9#8 40 base) = true ∧ NoDetection (linked 9#8 40 base) ∧
      (linked 9#8 40 base).mlr.lastSeq = some (report6.seq - 1#8) ∧ NoDetection base ∧ base.mlr.link ≠ .synced :=
  ⟨by decide, by decide, by unfold NoDetection; decide, by decide, by unfold NoDetection; decide, by decide⟩

set_option maxRecDepth 4000 in
/-- A gap of 10 and, at the boundaries, of 8 and 9 reports, and a duplicate. -/
theorem witness_GapReportsFilled :
    readReport bytes6 0 = some report6 ∧ mainGood (linked 255#8 40 base) = true ∧ NoDetection (linked 255#8 40 base) ∧
      (linked 255#8 40 base).mlr.link = .synced ∧ (linked 255#8 40 base).mlr.eLast = some 40 ∧
      (report6.seq - 255#8 - 1#8).toNat = 10 ∧ (report6.seq - 1#8 - 1#8).toNat = 8 ∧
      (report6.seq - 0#8 - 1#8).toNat = 9 ∧ (report6.seq - 10#8 - 1#8).toNat = 255 :=
  ⟨by decide, by decide, by unfold NoDetection; decide, by decide⟩

def streaks (unbalanced balanced reverse rearm overload : Nat) (episode raised : Bool) : State :=
  { base with mlr := { base.mlr with unbalanced := unbalanced, balanced := balanced, reverse := reverse, rearm := rearm,
                                     overload := overload, episode := episode, reverseRaised := raised } }

theorem witness_TimersAndDetections :
    (mainGood (silent base) = true ∧ (silent base).mlr.silence.running = true ∧ 5000 ≤ (silent base).mlr.silence.ms) ∧
    (base.mlr.silence.ms < 5000 ∧ base.mlr.linkCut.running = false) ∧ Idle base ∧
    (mainGood lost = true ∧ lost.mlr.linkCut.running = true ∧ 60000 ≤ lost.mlr.linkCut.ms) ∧
    ((streaks 30 0 0 0 0 false false).mlr.episode = false ∧ 30 ≤ (streaks 30 0 0 0 0 false false).mlr.unbalanced) ∧
    ((streaks 0 30 0 0 0 true false).mlr.episode = true ∧ 30 ≤ (streaks 0 30 0 0 0 true false).mlr.balanced) ∧
    ((streaks 0 0 10 0 0 false false).mlr.reverseRaised = false ∧ 10 ≤ (streaks 0 0 10 0 0 false false).mlr.reverse) ∧
    ((streaks 0 0 0 10 0 false true).mlr.reverseRaised = true ∧ 10 ≤ (streaks 0 0 0 10 0 false true).mlr.rearm) ∧
    (mainGood (streaks 0 0 0 0 5 false false) = true ∧ 5 ≤ (streaks 0 0 0 0 5 false false).mlr.overload) :=
  ⟨by decide, by decide, idle_base, by decide⟩

theorem witness_ExhaustionLevel :
    ((evening 0).bill.emergency = .inUse ∧ base.bill.emergency ≠ .inUse ∧ base.active.valid = true ∧ mainGood base = true ∧
      base.sw.set.credit = false) ∧ NoGapWaits base :=
  ⟨by decide, (quiet rfl).1⟩

/-- A debit that reaches the floor exactly, and one that does not. -/
theorem witness_DebitPricesEnergy :
    (mainGood example2 = true ∧ NoGapWaits example2) ∧ NoGapWaits (billed (balanceMin + 7) 7500 0 0 0 example2) ∧
      (7500 + 27 * 2500) / 10000 = 7 ∧ (billed (balanceMin + 7) 7500 0 0 0 example2).bill.b - 7 = balanceMin :=
  ⟨⟨by decide, (quiet rfl).1⟩, (quiet rfl).1, by decide⟩

theorem witness_AccrualsAndMinutes :
    mainGood base = true ∧ NoGapWaits (base.take (.standingAccrual 1#32)) ∧ NoGapWaits (base.take (.gapAccrual 1#32)) ∧
      base.bill.h < (1#32).toNat ∧ (0#32).toNat ≤ base.bill.h ∧ NoGapWaits base :=
  ⟨by decide, (quiet rfl).1, (quiet rfl).1, by decide, by decide, (quiet rfl).1⟩

def offered (e : Emergency) : State := { base with bill := { base.bill with emergency := e } }

theorem witness_EmergencyTaken :
    (Ready .meter (offered .available) ∧ NoGapWaits (offered .available) ∧ (offered .available).bill.emergency = .available) ∧
      Ready .meter base ∧ base.bill.emergency ≠ .available :=
  ⟨⟨⟨by decide, by decide⟩, (quiet rfl).1, by decide⟩, ready_base.1, by decide⟩

theorem witness_ResponsesFramed : (Reply.mk .ok (List.replicate 254 0#8)).data.length ≤ 254 :=
  Nat.le_of_eq List.length_replicate

set_option maxRecDepth 4000 in
/-- No response owed, one and two; a command that 10.4 gives to the other port. -/
theorem witness_PortTestsInOrder :
    (commandParts (.confirmReconnect .network) = some (.network, 0x21#8, []) ∧ mainGood base = true ∧
      base.ports.line.network.owed = [] ∧ permission 0x21#8 .network = some false) ∧
    ((after (.readCredit .meter) base).ports.line.meter.owed.length = 1 ∧ mainGood (after (.readCredit .meter) base) = true ∧
      (after (.readCredit .meter) (after (.readCredit .meter) base)).ports.line.meter.owed.length = 2) ∧
    byteSum (0xC3#8 :: [1#8, 0x7F#8, 0xBD#8]) = 0#8 ∧ permission 0x7F#8 .meter = none ∧
    byteSum (0xC3#8 :: [1#8, 0x7F#8, 0#8]) ≠ 0#8 ∧
    byteSum (0xC3#8 :: [2#8, 0x02#8, 0#8, 0x39#8]) = 0#8 ∧ permission 0x02#8 .meter = some true ∧
    readArguments .meter 0x02#8 (([2#8, 0x02#8, 0#8, 0x39#8].drop 2).dropLast) = none := by decide

theorem witness_ReadsAnswered :
    (Ready .meter base ∧ Ready .network base) ∧ Instr.readTotals .meter ∈ [Instr.readTotals .meter, .readCredit .meter] ∧
      ∃ first n, Instr.readLog .network 1#32 4#8 = .readLog .network first n :=
  ⟨ready_base, by decide, 1#32, 4#8, rfl⟩

theorem witness_StatusAnswered : Ready .meter base ∧ Ready .network base := ready_base

theorem default_passes : ∀ g, GroupPasses Tariff.default g := by
  intro g
  unfold GroupPasses
  split <;> simp [ProfileRises, Tariff.default]

def assembled (t : Tariff) : State := { base with tariff := { base.tariff with slot := .assembling t } }
def misordered : Tariff := { Tariff.default with workday := [⟨0, .b0⟩, ⟨420, .b1⟩, ⟨400, .b2⟩] }

/-- A tariff that passes, one whose WORKDAY fails first, and an empty slot. -/
theorem witness_OpenAndCommit :
    (Ready .network (assembled Tariff.default) ∧ (assembled Tariff.default).tariff.slot = .assembling Tariff.default ∧
      ∀ g, GroupPasses Tariff.default g) ∧
    ((assembled misordered).tariff.slot = .assembling misordered ∧ ¬GroupPasses misordered 3 ∧
      ∀ f, f < 3 → GroupPasses misordered f) ∧
    (Ready .network base ∧ ∀ t, base.tariff.slot ≠ .assembling t) := by
  refine ⟨⟨⟨by decide, by decide⟩, rfl, default_passes⟩, ⟨rfl, by simp [GroupPasses, ProfileRises, misordered], ?_⟩,
    ready_base.2, by simp [base, State.reset]⟩
  intro f hf
  have h : f = 0 ∨ f = 1 ∨ f = 2 := by omega
  rcases h with rfl | rfl | rfl <;> trivial

theorem witness_CancelEmptiesSlot : Ready .network base ∧ base.tariff.slot = .empty := ⟨ready_base.2, rfl⟩

theorem witness_PutReplacesGroup :
    (Ready .network (assembled Tariff.default) ∧ (assembled Tariff.default).tariff.slot = .assembling Tariff.default) ∧
      (putGroup 1#8 [0#8, 17#8] Tariff.default).isSome = true ∧ putGroup 1#8 [] Tariff.default = none ∧
      putGroup 9#8 [] Tariff.default = none ∧ ∀ t, base.tariff.slot ≠ .assembling t :=
  ⟨⟨⟨by decide, by decide⟩, rfl⟩, by decide, by decide, by decide, by simp [base, State.reset]⟩

theorem witness_GroupLayoutsAgree :
    (Tariff.default.inRange = true ∧ 1 ≤ (1#8 : Byte).toNat ∧ (8#8 : Byte).toNat ≤ 8) ∧
      putGroup 1#8 [0#8, 17#8] Tariff.default = some { Tariff.default with id := 17 } ∧
      Ready .network (assembled Tariff.default) :=
  ⟨by decide, by decide, by decide, by decide⟩

def imageWriting (again : Bool) : State :=
  { base with tariff := { base.tariff with imageState := .writing, imageWriting := some ⟨Tariff.default, 3⟩,
                                           imageRequest := again } }

theorem witness_ActivationAndImage :
    (mainGood dueTariff = true ∧ dueTariff.tariff.slot = .armed (flat 0 0 100000 0 0 0 []) 500000 ∧
      dueTariff.cal.valid = true ∧ 500000 ≤ dueTariff.cal.t ∧ dueTariff.mlr.overload < 5) ∧
    NoGapWaits dueTariff ∧ (NoGapWaits base ∧ ∀ n time, base.tariff.slot ≠ .armed n time) ∧
    (mainGood (imageWriting true) = true ∧ (imageWriting true).tariff.imageWriting = some ⟨Tariff.default, 3⟩ ∧
      (imageWriting true).tariff.imageRequest = true ∧ (imageWriting false).tariff.imageRequest = false) :=
  ⟨by decide, (quiet rfl).1, ⟨(quiet rfl).1, by simp [base, State.reset]⟩, by decide⟩

/-- Every outcome of the intake, with digits at both ends of their range. -/
theorem witness_CodeIntake :
    (Ready .meter base ∧ base.identity.working.provisioned = false) ∧
    (Ready .meter provisioned ∧ provisioned.identity.working.key ≠ none ∧ provisioned.tariff.commissioned = true ∧
      (provisioned.code.lockout.get .meter).penalty = 0 ∧ provisioned.code.queue.length < 4) ∧
    (∀ b ∈ List.replicate 11 0x30#8 ++ List.replicate 11 0x39#8, 0x30 ≤ b.toNat ∧ b.toNat ≤ 0x39) ∧
    (∃ b ∈ [0x3A#8], b.toNat < 0x30 ∨ 0x39 < b.toNat) :=
  ⟨⟨ready_base.1, by decide⟩, ⟨⟨by decide, by decide⟩, by decide⟩, by decide, by decide⟩

def waitingCode : State := { provisioned with code := { base.code with queue := [entry] } }
def deciphering (digits : List Nat) : State :=
  { base with code := { base.code with flight := some ⟨⟨.meter, 0#8, digits⟩, 0, .deciphering 5⟩ } }

/-- A token key and its four slices from the most significant end. -/
theorem witness_CipherInverse :
    (0x123456789ABCDEF0123456789ABCDEF01234#144).toNat =
      (((0x123456789#36).toNat * 2 ^ 36 + (0xABCDEF012#36).toNat) * 2 ^ 36 + (0x3456789AB#36).toNat) * 2 ^ 36 +
        (0xCDEF01234#36).toNat := by decide

/-- 2^72 - 1 and 2^72 as digits. -/
theorem witness_EngineDeciphers :
    (mainGood waitingCode = true ∧ waitingCode.code.flight = none ∧ waitingCode.code.queue = [entry] ∧
      waitingCode.identity.working.key = some 5) ∧
    codeValue [4, 7, 2, 2, 3, 6, 6, 4, 8, 2, 8, 6, 9, 6, 4, 5, 2, 1, 3, 6, 9, 5] < 2 ^ 72 ∧
    2 ^ 72 ≤ codeValue [4, 7, 2, 2, 3, 6, 6, 4, 8, 2, 8, 6, 9, 6, 4, 5, 2, 1, 3, 6, 9, 6] ∧
    (mainGood (deciphering [1]) = true ∧ (deciphering [1]).code.flight = some ⟨⟨.meter, 0#8, [1]⟩, 0, .deciphering 5⟩) := by
  decide

theorem witness_JudgingRefuses :
    (mainGood (failing Lockout.clear) = true ∧ (failing Lockout.clear).code.flight = some ⟨entry, 0, .judging none⟩) ∧
    NoGapWaits (failing Lockout.clear) ∧
    (mainGood (judging 1 1 0 base) = true ∧ base.code.lowMark < 1 ∧ 1 ∉ base.code.accepted) ∧
    NoGapWaits (judging 1 1 0 base) ∧ ListSound listed.code.lowMark listed.code.accepted :=
  ⟨by decide, (quiet rfl).1, by decide, (quiet rfl).1, by unfold ListSound; decide⟩

/-- A code that fills the balance to MAXCRED exactly. -/
theorem witness_CreditCodeApplied :
    let s := judging 1 77 2000 (billed 98000000 0 0 0 0 example2)
    (mainGood s = true ∧ PassesTests ⟨1, 77, 2000, 2238⟩ s ∧
      s.code.flight = some ⟨entry, 0, .judging (some ⟨1, 77, 2000, 2238⟩)⟩ ∧
      s.bill.b + 2000000 ≤ s.active.charges.maxCredit) ∧ NoGapWaits s :=
  ⟨⟨by decide, by unfold PassesTests; decide, by decide, by decide⟩, (quiet rfl).1⟩

theorem witness_DebtAndTenancyApplied :
    let s := judging 4 77 0 base
    (mainGood s = true ∧ PassesTests ⟨4, 77, 0, 259⟩ s ∧
      s.code.flight = some ⟨entry, 0, .judging (some ⟨4, 77, 0, 259⟩)⟩) ∧ NoGapWaits s ∧
      PassesTests ⟨2, 77, 1000000000, (14 + 231 + 1000000000) % 4093⟩ base :=
  ⟨⟨by decide, by unfold PassesTests; decide, by decide⟩, (quiet rfl).1, by unfold PassesTests; decide⟩

theorem witness_PenaltiesCount :
    (mainGood (failing ⟨4, 6, 0⟩) = true ∧ (failing ⟨4, 6, 0⟩).code.flight = some ⟨entry, 0, .judging none⟩ ∧
      ((failing ⟨4, 6, 0⟩).code.lockout.get .meter).failures = 4 ∧ ((failing ⟨4, 6, 0⟩).code.lockout.get .meter).penalty = 0) ∧
    (mainGood (judging 1 1 0 base) = true ∧
      (judging 1 1 0 base).code.flight = some ⟨entry, 0, .judging (some ⟨1, 1, 0, 10⟩)⟩ ∧
      (after .codeJudging (judging 1 1 0 base)).code.flight = none) ∧
    ((failing ⟨5, 1, 0⟩).code.lockout.get .meter).failures = 5 ∧ ((failing ⟨5, 1, 0⟩).code.lockout.get .meter).penalty = 0 := by
  decide

theorem witness_TicketsAndFloor :
    Ready .network busyEngine ∧ Ready .meter busyEngine ∧
      busyEngine.code.queue = [] ++ ⟨.network, 0#8, List.replicate 22 0⟩ :: [⟨.meter, 1#8, List.replicate 22 0⟩] ∧
      (Ready .network base ∧ base.tariff.commissioned = true) ∧
      (Ready .network State.reset ∧ State.reset.tariff.commissioned = false) ∧
      (16777215#32).toNat ≤ 16777215 ∧ 16777215 < (16777216#32).toNat :=
  ⟨⟨by decide, by decide⟩, ⟨by decide, by decide⟩, rfl, ⟨ready_base.2, by decide⟩, ⟨⟨by decide, by decide⟩, by decide⟩,
    by decide, by decide⟩

def restoring (retention : Bool) (origin : RestoreOrigin) : State :=
  { base with supmon := { base.supmon with supply := .restoring, origin := some origin, retention := retention,
                                           restoreTimer := ⟨true, 64⟩ } }

def operating (st : SwitchState) (ph : OpPhase) : State :=
  { base with sw := { base.sw with state := st, phase := some ph, opTimer := ⟨true, 60⟩ } }

/-- A switch that stays CLOSED under the fault flag, with two members in the set. -/
def faulted : State :=
  { base with sw := { base.sw with fault := true, set := { DemandSet.none with credit := true, remote := true } } }

theorem witness_DemandRules :
    (mainGood base = true ∧ base.sw.set.has .credit = false ∧ base.sw.set.has .credit ≠ true ∧ base.sw.state = .closed) ∧
      (restoring true .pin).supmon.supply = .restoring ∧ (failed true true).supmon.supply = .mainFailed ∧
      (mainGood faulted = true ∧ faulted.sw.set.has .credit ≠ false ∧ faulted.sw.state = .closed ∧
        faulted.sw.fault = true ∧ (faulted.sw.set.put .credit false).isEmpty = false) ∧
      (mainGood (operating .closing .pulse) = true ∧ (operating .closing .pulse).sw.set.has .credit ≠ true ∧
        (operating .closing .pulse).sw.state = .closing ∧ (operating .closing .pulse).sw.phase = some .pulse) ∧
      (mainGood (operating .closing .settle) = true ∧ (operating .closing .settle).sw.phase ≠ some .pulse) := by
  decide

/-- A dead time from the other coil's pulse, and one that is over. -/
def deadFor (ms : Nat) : State :=
  { base with sw := { base.sw with state := .opening, phase := some .deadTime, deadCoil := some .closeCoil, deadMs := ms } }

theorem witness_PermitsAndPhases :
    ((operating .opening .pulse).sw.coil = some .openCoil ∧ mainGood (operating .opening .pulse) = true ∧
      (operating .opening .pulse).sw.phase = some .pulse ∧ 60 ≤ (operating .opening .pulse).sw.opTimer.ms) ∧
    (hasPermits (deadFor 20) = true ∧ 20 ≤ (deadFor 20).sw.deadMs ∧ hasPermits (deadFor 19) = true ∧
      (deadFor 19).sw.deadMs < 20 ∧ (deadFor 19).sw.deadCoil ≠ none ∧ (deadFor 19).sw.deadCoil ≠ (deadFor 19).sw.coil) ∧
    (Idle (deadFor 19) ∧ base.sw.phase ≠ some .pulse) ∧
    ((operating .opening .deadTime).sw.phase = some .deadTime ∧ hasPermits (operating .opening .deadTime) = true) ∧
    (mainGood (failed true true) = false) :=
  ⟨by decide, by decide, ⟨⟨by decide, rfl, by decide⟩, by decide⟩, by decide, by decide⟩

/-- A third opening attempt that fails against a believed position OPENED. -/
def believedOpened : State := { welded 3 with sw := { (welded 3).sw with position := .opened } }

theorem witness_SettleChecks :
    (mainGood (welded 3) = true ∧ (welded 3).sw.phase = some .settle ∧ (welded 3).sw.state = .opening ∧
      (welded 3).pins.lsense = true ∧ 100 ≤ (welded 3).sw.opTimer.ms) ∧ (operating .opening .settle).sw.opTimer.ms < 100 ∧
    ((operating .closing .settle).sw.state = .closing ∧ (operating .closing .settle).pins.lsense = true ∧
      (operating .closing .settle).sw.set.isEmpty = true) ∧
    (believedOpened.sw.state = .opening ∧ believedOpened.sw.position = .opened ∧ believedOpened.pins.lsense = true ∧
      3 ≤ believedOpened.sw.attempts) := by decide

theorem witness_ReconnectOrders :
    (Ready .meter armed ∧ armed.sw.state = .armed) ∧ (Ready .meter base ∧ base.sw.state ≠ .armed) ∧ Ready .network armed ∧
      1 < (2#8 : Byte).toNat ∧ (1#8 : Byte).toNat ≤ 1 ∧
      (Ready .network faulted ∧ faulted.sw.state = .closed ∧ faulted.sw.fault = true ∧ faulted.sw.set.remote = true) ∧
      (Ready .network (operating .closing .pulse) ∧ (operating .closing .pulse).sw.state = .closing ∧
        (operating .closing .pulse).sw.set.isEmpty = true) :=
  ⟨⟨⟨by decide, by decide⟩, by decide⟩, ⟨ready_base.1, by decide⟩, ⟨by decide, by decide⟩, by decide, by decide,
    ⟨⟨by decide, by decide⟩, by decide⟩, ⟨by decide, by decide⟩, by decide⟩

def watched : State :=
  { armed with sw := { armed.sw with streak := 3, bypass := ⟨true, 2000⟩, overload := ⟨true, 30000⟩, holdOff := ⟨true, 10000⟩ } }

/-- An ARMED switch that is believed closed while LSENSE is low. -/
def believedClosed : State := { watched with sw := { watched.sw with position := .closed } }

theorem witness_TimersAndWatches :
    (mainGood watched = true ∧ watched.sw.holdOff.running = true ∧ 10000 ≤ watched.sw.holdOff.ms ∧
      watched.supmon.brownOut = false ∧ watched.sw.overload.running = true ∧ watched.sw.overload.ms % 1000 = 0 ∧
      watched.active.policy.restoreDelay ≤ watched.sw.overload.ms / 1000 ∧ 2000 ≤ watched.sw.bypass.ms ∧ watched.sw.state = .armed ∧ watched.sw.fault = false ∧ 3 ≤ watched.sw.streak ∧
      watched.sw.bypass.running = true ∧ watched.sw.bypassRaised = false ∧ watched.sw.position = .opened ∧
      watched.pins.lsense = false) ∧
      (believedClosed.sw.state = .armed ∧ 3 ≤ believedClosed.sw.streak ∧ believedClosed.sw.position = .closed) ∧ Idle base ∧
      base.sw.holdOff.running = false ∧ base.sw.overload.running = false ∧ base.sw.bypass.running = false :=
  ⟨by decide, by decide, idle_base, by decide⟩

/-- The first event, and an event at saturation that was cleared. -/
theorem witness_TamperEventNumbered :
    mainGood base = true ∧ mainGood (masked max32 max32 max32 false .closed) = true ∧
      (masked max32 max32 max32 false .closed).tamper.tsClear = max32 := by decide

def debouncing : State :=
  { base with pins := { base.pins with covers := ⟨.opened, .closed⟩ },
              tamper := { base.tamper with debounce := ⟨⟨true, 20⟩, .stopped⟩ } }

theorem witness_CoversWatched :
    (mainGood debouncing = true ∧ (debouncing.tamper.debounce.get .cover).running = true ∧
      20 ≤ (debouncing.tamper.debounce.get .cover).ms ∧ (base.tamper.debounce.get .cover).running = false ∧
      debouncing.pins.covers.get .cover = .opened ∧ debouncing.tamper.debounced.get .cover = .closed) ∧
    ((failed true false).supmon.supply ≠ .mainGood ∧ (failed true false).tamper.sampling.running = true ∧
      250 ≤ (failed true false).tamper.sampling.ms) ∧ Idle base :=
  ⟨by decide, by decide, idle_base⟩

def magnet (active : Bool) : State :=
  { base with tamper := { base.tamper with magnetic := active, presence := ⟨!active, 2000⟩, release := ⟨active, 10000⟩ } }

/-- The event is of kind MAGNETIC, locks under bit 2 of the mask, and leaves its record (R126, R128). -/
theorem test_magnetic_event :
    let s := after .magneticPresenceExpiry (magnet false)
    s.log.staging.map (·.body.tamper) = [some ⟨1, some .magnetic⟩] ∧ s.tamper.magnetic = true := by decide

theorem witness_MagneticWatched :
    (mainGood (magnet false) = true ∧ (magnet false).tamper.presence.running = true ∧
      2000 ≤ (magnet false).tamper.presence.ms ∧ (magnet true).tamper.release.running = true ∧
      10000 ≤ (magnet true).tamper.release.ms ∧ (magnet true).tamper.magnetic = true) ∧ Idle base ∧
      base.tamper.presence.running = false ∧ base.tamper.release.running = false :=
  ⟨by decide, idle_base, by decide⟩

/-- Every outcome at its boundary: 8 above 7, 5 below 6, 7 barred, 6 and 7 applied. -/
theorem witness_RemoteClearance :
    Ready .network (masked 7 6 3 true .closed) ∧ (masked 7 6 3 true .closed).tamper.ts < (8#32).toNat ∧
      (5#32).toNat < (masked 7 6 3 true .closed).tamper.tsLock ∧
      ((masked 7 6 3 true .opened).active.policy.lockout.getLsbD 1 = true ∧
        (masked 7 6 3 true .opened).tamper.debounced.terminal = .opened) ∧
      ((6#32).toNat ≤ (masked 7 6 3 true .closed).tamper.ts ∧ (masked 7 6 3 true .closed).tamper.tsLock ≤ (6#32).toNat ∧
        (masked 7 6 3 true .closed).tamper.debounced.terminal = .closed ∧
        (masked 7 6 3 true .closed).tamper.debounced.cover = .closed ∧ (masked 7 6 3 true .closed).tamper.magnetic = false) :=
  ⟨⟨by decide, by decide⟩, by decide⟩

theorem witness_ClearanceCodeApplied :
    let s := judging 3 77 7 (masked 7 6 3 true .closed)
    mainGood s = true ∧ s.code.flight = some ⟨entry, 0, .judging (some ⟨3, 77, 7, 259⟩)⟩ ∧ PassesTests ⟨3, 77, 7, 259⟩ s ∧
      7 ≤ s.tamper.ts ∧ s.tamper.tsLock ≤ 7 :=
  ⟨by decide, by decide, by unfold PassesTests; decide, by decide, by decide⟩

def waiting (r : Record) : State :=
  { base with tamper := { base.tamper with hold := [r] }, sw := { base.sw with waiting := [r] },
              cal := { base.cal with hold := [r] } }

theorem witness_EvidenceOffered :
    (isEvidence .powerFail = false ∧ base.log.next = some 4 ∧ base.log.staging.length < 8 ∧ base.tamper.hold = [] ∧
      base.sw.waiting = [] ∧ base.cal.hold = []) ∧
    (mainGood base = true ∧ (evidence 1).body.kind = .tamper) ∧
    (mainGood (waiting (evidence 1).body) = true ∧ (waiting (evidence 1).body).tamper.hold = [(evidence 1).body] ∧
      (waiting (evidence 1).body).log.next = some 4 ∧ (waiting (evidence 1).body).log.staging.length < 8) := by decide

set_option maxRecDepth 8000 in
/-- A full log with one routine record; evidence at the cap; a record write in progress. -/
theorem witness_RecordWrites :
    (mainGood (logged fullLog [routine 1029]) = true ∧ (logged fullLog [routine 1029]).log.writer = .idle ∧
      (logged fullLog [routine 1029]).log.markRequest = false ∧ 128 ≤ fullLog.length ∧
      (logged fullLog [routine 1029]).log.staging = routine 1029 :: []) ∧
    fullLog = [evidence 901, evidence 902] ++ routine 903 :: fullLog.drop 3 ∧
    64 ≤ (logged (evidence 970 :: fullLog) [evidence 1029]).log.uncollected ∧
    (logged (evidence 970 :: fullLog) [evidence 1029, evidence 1030, routine 1031]).log.staging =
      [evidence 1029, evidence 1030] ++ routine 1031 :: [] ∧
    (after .logWriteStart (logged [] [routine 1029])).log.writer = .record 0 ∧
    (after .logWriteStart (logged [] [routine 1029])).log.staging = routine 1029 :: [] := by decide

def marking (a b : Option MarkCopy) : State :=
  { base with log := { base.log with heldMark := 9, markA := a, markB := b, markRequest := true } }

theorem witness_CollectAndMark :
    Ready .network base ∧
      (mainGood (marking (some ⟨5, 1⟩) (some ⟨3, 2⟩)) = true ∧ (marking (some ⟨5, 1⟩) (some ⟨3, 2⟩)).log.writer = .idle ∧
        (marking (some ⟨5, 1⟩) (some ⟨3, 2⟩)).log.markRequest = true) ∧
      (mainGood (after .markWriteStart (marking none (some ⟨3, 2⟩))) = true ∧
        (after .markWriteStart (marking none (some ⟨3, 2⟩))).log.writer = .mark .a ⟨9, 3⟩ 0) :=
  ⟨ready_base.2, by decide, by decide⟩

theorem witness_LogReadAndThreshold :
    Ready .meter base ∧ Ready .network base ∧ base.log.records.Pairwise (fun x y => x.number < y.number) ∧
      1 ≤ (1#8 : Byte).toNat ∧ (4#8 : Byte).toNat ≤ 4 ∧ 4 < (5#8 : Byte).toNat ∧ (16#8 : Byte).toNat ∈ [16, 32, 48, 64] ∧
      (17#8 : Byte).toNat ∉ [16, 32, 48, 64] :=
  ⟨ready_base.1, ready_base.2, by decide⟩

theorem witness_ClockTickIssues :
    (failed true true).supmon.supply ≠ .mainGood ∧ base.supmon.supply = .mainGood ∧ mainGood base = true := by decide

/-- A standing charge of one day that brings B to B_MIN. -/
def nearFloor : State :=
  { withTariff (flat 0 1000 0 0 0 0 []) (billed (balanceMin + 1) 0 0 0 0 base) with
    cal := { base.cal with t := 86400, valid := true } }

/-- B_MIN is reached, and BALANCE_FLOOR comes before CLOCK_SET (R20, R158). -/
theorem test_clock_set_at_floor :
    let s := after (.clockSet .network 500000#32 0#16) nearFloor
    s.bill.b = balanceMin ∧ s.bill.floor = true ∧ s.log.staging.map (·.body.kind) = [.balanceFloor, .clockSet] := by decide

/-- The offsets at both ends of their range, one above and one between. -/
theorem witness_ClockSetMoves :
    Ready .network base ∧ NoGapWaits base ∧ NoAccrualWaits base ∧ (∀ n time, base.tariff.slot = .armed n time → 0 < time) ∧
      -720 ≤ (0xFD30#16).toInt ∧ (0xFD30#16).toInt % 15 = 0 ∧ (840#16).toInt ≤ 840 ∧ 840 < (855#16).toInt ∧
      (7#16).toInt % 15 ≠ 0 ∧ nearFloor.bill.h < nearFloor.cal.t ∧
      (Ready .network dueTariff ∧ NoGapWaits dueTariff ∧ NoAccrualWaits dueTariff ∧
        dueTariff.tariff.slot = .armed (flat 0 0 100000 0 0 0 []) 500000 ∧ 500000 ≤ (500000#32).toNat ∧
        dueTariff.mlr.overload < 5) :=
  ⟨ready_base.2, (quiet rfl).1, (quiet rfl).2.2.1, by simp [base, State.reset], by decide, by decide, by decide, by decide,
    by decide, by decide, ⟨by decide, by decide⟩, (quiet rfl).1, (quiet rfl).2.2.1, by decide⟩

theorem witness_LocalTimeDerived :
    4294967295 < 2 ^ 32 ∧ offsetTaken (-720) = true ∧ offsetTaken 840 = true ∧ localDay 0 (-720) = -1 ∧
      (evening 0).cal.valid = true := by decide

theorem witness_LookupsAnswered :
    lookups.valid = true ∧ (Ready .meter (evening 0) ∧ (evening 0).cal.valid = true) ∧
      (Ready .meter State.reset ∧ State.reset.cal.valid = false) :=
  ⟨by decide, ⟨⟨by decide, by decide⟩, by decide⟩, ⟨by decide, by decide⟩, by decide⟩

theorem witness_SupplyEvents :
    mainGood base = true ∧ (failed true true).supmon.supply = .mainFailed ∧
      (restoring true .pin).supmon.supply = .restoring ∧ (restoring true .pin).supmon.origin = some .pin ∧
      (restoring true .outage).supmon.origin ≠ some .pin ∧
      (mainGood (operating .closing .pulse) = true ∧ (operating .closing .pulse).sw.phase = some .pulse) ∧
      (mainGood (deadFor 19) = true ∧ (deadFor 19).sw.phase = some .deadTime) ∧
      (mainGood (operating .opening .waitPermit) = true ∧ (operating .opening .waitPermit).sw.coil = some .openCoil ∧
        (operating .opening .waitPermit).pins.crdy = true ∧ (operating .opening .waitPermit).pins.cinhn = true ∧
        (operating .opening .waitPermit).sw.deadCoil = none) := by decide

/-- Nothing waits; a debit waits; a gap accrual waits. -/
theorem witness_MainDomainStops :
    (mainGood base = true ∧ NoGapWaits base ∧ NoDebitWaits base) ∧
    (mainGood { base with handed := [.debitRequest 7] } = true ∧ NoGapWaits { base with handed := [.debitRequest 7] }) ∧
    (∃ u, exec (.debitRequest 7) { base with handed := [.debitRequest 7] } = .next u) ∧
    (∃ u, exec (.gapAccrual 60) { base with handed := [.gapAccrual 60] } = .next u) ∧
    (NoGapWaits { base with handed := [.clockMinute] ++ .debitRequest 7 :: [] } ∧
      (∀ e, Instr.debitRequest e ∉ [Instr.clockMinute]) ∧
      ∃ u, exec (.debitRequest 7) { base with handed := [.clockMinute] ++ .debitRequest 7 :: [] } = .next u) :=
  ⟨⟨by decide, (quiet rfl).1, (quiet rfl).2.1⟩, ⟨by decide, by simp [NoGapWaits]⟩, ⟨_, rfl⟩, ⟨_, rfl⟩,
    by simp [NoGapWaits], by simp, _, rfl⟩

/-- A warm restore with both cover latches set, and one with an unknown position. -/
def heldLatches : State :=
  { restoring true .outage with tamper := { base.tamper with latch := ⟨some ⟨5, true⟩, some ⟨6, true⟩⟩ } }
def unresolved : State :=
  { restoring true .outage with sw := { base.sw with state := .unknown, position := .unknown } }

/-- A cold restore with a checkpoint whose set is not empty, and with a held request. -/
def coldWith (set : DemandSet) (confirm lsense : Bool) (held : List Instr) : State :=
  { restoring false .outage with
    supmon := { (restoring false .outage).supmon with
      ring := [.valid { checkpointAt 99 with set := set, confirm := confirm }] }
    pins := { base.pins with lsense := lsense }
    handed := held }

/-- A cold restore with two passing copies of the mark, and a checkpoint whose record counter is exhausted. -/
def coldMarked : State :=
  { coldWith DemandSet.none true true [] with
    supmon := { (restoring false .outage).supmon with ring := [.valid { checkpointAt 99 with counter := 0 }] }
    log := { base.log with markA := some ⟨3, 7⟩, markB := some ⟨3, 8⟩ } }

def creditOnly : DemandSet := { DemandSet.none with credit := true }

/-- R114, step 2: a set that is not empty opens the relay, whatever the confirmation flag of the checkpoint. -/
theorem test_cold_restore_opens :
    (after (.restoreEnd true false) (coldWith { DemandSet.none with remote := true } false true [])).sw.state = .opening ∧
      (after (.restoreEnd true false) (coldWith { DemandSet.none with remote := true } false true [])).sw.confirm = true := by
  decide

/-- R114, step 3: an empty set takes the position from LSENSE. -/
theorem test_cold_restore_senses :
    (after (.restoreEnd true false) (coldWith DemandSet.none true false [])).sw.position = .opened ∧
      (after (.restoreEnd true false) (coldWith DemandSet.none true true [])).sw.position = .closed := by decide

theorem witness_RestoresSelectState :
    (RestoreDue (restoring true .pin) ∧ (restoring true .pin).supmon.retention = true ∧
      (restoring true .pin).tamper.latch = ⟨none, none⟩ ∧ (restoring true .pin).handed = [] ∧
      (restoring true .pin).sw.state = .closed) ∧
    (RestoreDue unresolved ∧ unresolved.sw.state = .unknown ∧ unresolved.sw.set.isEmpty = true ∧
      unresolved.pins.lsense = true) ∧
    (RestoreDue heldLatches ∧ heldLatches.log.next = some 4 ∧ heldLatches.log.staging.length ≤ 4) ∧
    (RestoreDue (restoring false .outage) ∧ governing fullRing.supmon.ring = some (checkpointAt 99) ∧
      (checkpointAt 99).counter ≠ 0) ∧
    base.supmon.supply ≠ .restoring ∧
    ((restoring false .outage).supmon.supply = .restoring ∧ (restoring false .outage).supmon.retention = false ∧
      governing (restoring false .outage).supmon.ring = none) ∧
    (RestoreDue (coldWith creditOnly true true [.demandSetRequest .remote true]) ∧
      (governing (coldWith creditOnly true true []).supmon.ring).map (·.set.isEmpty) = some false) ∧
    (RestoreDue (coldWith DemandSet.none true false []) ∧
      (governing (coldWith DemandSet.none true false []).supmon.ring).map (·.set.isEmpty) = some true ∧
      (coldWith DemandSet.none true false []).log.markA = none) ∧
    (RestoreDue coldMarked ∧ (governing coldMarked.supmon.ring).map (·.counter) = some 0 ∧
      coldMarked.log.markA.map (·.count) = some 7 ∧ coldMarked.log.markB.map (·.count) = some 8) := by
  unfold RestoreDue
  decide

theorem witness_CheckpointWrites :
    (mainGood fullRing = true ∧ fullRing.supmon.writer = .idle ∧ fullRing.supmon.request = true ∧ fullRing.supmon.ring ≠ []) ∧
    mainGood { base with supmon := { base.supmon with writer := .writing 0 (checkpointAt 100) 3 } } = true ∧
    fullRing.supmon.request = true ∧ base.supmon.request = false ∧
    busyEngine.code.flight = some ⟨entry, 0, .persisting ⟨1, 1001, 2000⟩ (some 0) true⟩ := by decide

theorem witness_CommandFramesAgree :
    ((Instr.setAlertLevels .meter (List.replicate 12 7#8) 0#8).wellFormed = true ∧
      commandParts (.setAlertLevels .meter (List.replicate 12 7#8) 0#8) =
        some (.meter, 0x12#8, List.replicate 12 7#8 ++ [0#8]) ∧ permission 0x12#8 .meter = some true) ∧
    (Line.fresh.receiver = .hunting ∧ (∀ b ∈ [0#8, 0xFF#8], b ≠ 0xC3#8) ∧ (List.replicate 59 0xC3#8).length ≤ 59) := by decide

def receiving (r : Receiver) (bs : List Byte) : State :=
  { base with ports := { base.ports with line := ⟨{ Line.fresh with receiver := r, received := bs },
                                                  { Line.fresh with receiver := r, received := bs }⟩,
                                         interByte := ⟨true, 20⟩ } }

/-- An idle part 19 ms after the last byte of an unfinished frame. -/
def gapRunning : State :=
  { receiving .length [] with ports := { (receiving .length []).ports with interByte := ⟨true, 19⟩ } }

theorem witness_ReceiverStates :
    (mainGood base = true ∧ NoFrameWaits .network base ∧ NoFrameWaits .meter base ∧ base.ports.line.network.receiver = .hunting) ∧
    ((receiving .length []).ports.line.network.receiver = .length ∧ NoFrameWaits .network (receiving .length [])) ∧
    ((receiving (.body 1) [1#8, 2#8]).ports.line.network.receiver = .body 1 ∧
      1 + 2 ≤ (receiving (.body 1) [1#8, 2#8]).ports.line.network.received.length + 1) ∧
    ((receiving .length []).ports.line.meter.receiver ≠ .hunting ∧ (receiving .length []).ports.interByte.running = true ∧
      20 ≤ (receiving .length []).ports.interByte.ms) ∧
    ((failed true true).supmon.supply ≠ .mainGood ∧ Idle (after (.readCredit .network) base) ∧
      (after (.readCredit .network) base).ports.line.network.sent <
        ((after (.readCredit .network) base).ports.line.network.owed.headD []).length) ∧
    { base.ports with deaf := true }.deaf = true ∧
    (base.ports.stale = false ∧ { base.ports with stale := true }.stale = true) ∧
    ((receiving .length []).ports.line.meter.receiver = .length ∧ (receiving .length []).ports.deaf = false ∧
      (60#8 : Byte).toNat ≤ 60 ∧ 60 < (61#8 : Byte).toNat ∧
      (receiving (.body 1) [1#8, 2#8]).ports.line.meter.receiver = .body 1 ∧
      1 + 2 ≤ (receiving (.body 1) [1#8, 2#8]).ports.line.meter.received.length + 1 ∧
      (receiving (.body 1) [1#8]).ports.line.meter.received.length + 1 < 1 + 2) ∧
    (Idle gapRunning ∧ gapRunning.ports.interByte.running = true) :=
  ⟨⟨by decide, (quiet rfl).2.2.2 _, (quiet rfl).2.2.2 _, by decide⟩, ⟨by decide, (quiet rfl).2.2.2 _⟩, by decide, by decide,
    ⟨by decide, ⟨by decide, rfl, by decide⟩, by decide⟩, rfl, by decide, by decide, ⟨by decide, rfl, by decide⟩, by decide⟩

def lockedPart : State := { base with identity := { base.identity with working := ⟨some 1, some 5, true, true⟩ } }

/-- A provisioned part with an identity write in progress. -/
def rewriting : State :=
  { provisioned with identity := { provisioned.identity with writing := some ⟨.a, ⟨IdentityRecord.none, 1⟩, 3⟩ } }

theorem witness_IdentityKept :
    (Ready .network base ∧ base.identity.working.locked = false ∧ base.identity.working.provisioned = false) ∧
    (Ready .network provisioned ∧ provisioned.identity.working.provisioned = true) ∧
    (Ready .network lockedPart ∧ lockedPart.identity.working.locked = true) ∧
    (9999999999999#48).toNat ≤ 9999999999999 ∧ 9999999999999 < (10000000000000#48).toNat ∧
    ((after (.lockIdentity .network) provisioned).identity.writing.isSome = true ∧
      (after (.lockIdentity .network) provisioned).identity.again = false) ∧
    ((after (.lockIdentity .network) rewriting).identity.again = true ∧
      (after (.lockIdentity .network) rewriting).identity.writing.isSome = true) :=
  ⟨⟨ready_base.2, by decide, by decide⟩, ⟨⟨by decide, by decide⟩, by decide⟩, ⟨⟨by decide, by decide⟩, by decide⟩, by decide⟩

theorem witness_AlertsKept :
    mainGood base = true ∧ (Ready .network alerting ∧ alertClassOf (1#8 : Byte).toNat = some (.latched .tamper) ∧
      alertClassOf (12#8 : Byte).toNat = some (.latched .powerRestored)) ∧
      (alerting.alert.ports.network.classes.get (.latched .tamper)).pending = true ∧ 12 < (13#8 : Byte).toNat ∧
      (List.replicate 12 7#8).length = 12 ∧ (7#8 : Byte).toNat ≤ 7 ∧ 7 < (8#8 : Byte).toNat :=
  ⟨by decide, ⟨⟨by decide, by decide⟩, by decide⟩, by decide⟩

theorem witness_ConditionsPresented :
    mainGood base = true ∧ base.alert.conditions.get .lowCredit = false ∧ alerting.alert.conditions.get .lowCredit = true := by
  decide

theorem witness_SequencesStayOrdered : TamperOrdered base ∧ ∃ t, step base = .next t := by
  refine ⟨⟨by simp [SequencesOrdered, base, State.reset], ?_⟩, _, rfl⟩
  simp [checkpoints, base, State.reset, slotContents]

theorem witness_CodeStaysBounded : (CodesBounded base ∧ QueuesBounded base) ∧ ∃ t, step base = .next t := by
  refine ⟨⟨⟨?_, ?_, by decide⟩, by simp [QueuesBounded, base, State.reset, Line.fresh]⟩, _, rfl⟩
  · simp [ListSound, base, State.reset]
  · simp [checkpoints, base, State.reset, slotContents]

theorem witness_SwitchStaysSafe :
    (SwitchSafe (operating .opening .pulse) ∧ ∃ t, step (operating .opening .pulse) = .next t) ∧
      SwitchSafe faulted ∧ ∃ t, step faulted = .next t :=
  ⟨⟨by unfold SwitchSafe; decide, _, rfl⟩, by unfold SwitchSafe; decide, _, rfl⟩

theorem witness_MoneyAndTariffsStaySound : MoneyAndTariffsSound base ∧ ∃ t, step base = .next t := by
  refine ⟨⟨by unfold MoneyInRange; decide, by decide, trivial, (by decide : Tariff.default.valid = true), ?_, ?_⟩, _, rfl⟩
  · simp [base, State.reset]
  · simp [checkpoints, base, State.reset, slotContents]

theorem witness_LogStaysSound : LogSound base ∧ ∃ t, step base = .next t := by
  refine ⟨?_, _, rfl⟩
  simp [LogSound, base, State.reset, copiedMark, governingMark, WriterSound, MarkAgrees, max32, EvidenceLog.uncollectedUnder]

end Sys2Proof.Machine.Tests
end

