-- ==== Sys2Proof/Proofs/Exhaustion.lean ====
section
/-! PROOF. The exhaustion level L, its range under a valid tariff, and the level that a clock minute tests B against
(02, 2.7: R35 to R39). -/

namespace Sys2Proof.Machine

/-! ## The level L -/

theorem exhaustion_of_inUse {s : State} (h : s.bill.emergency = .inUse) :
    exhaustion s = -(s.active.charges.emergency : Int) := by
  simp [exhaustion, h]

theorem exhaustion_of_not_inUse {s : State} (h : s.bill.emergency ≠ .inUse) : exhaustion s = 0 := by
  cases he : s.bill.emergency with
  | inUse => exact absurd he h
  | unavailable | available => simp [exhaustion, he]

/-- L reads the active tariff, and of BILL only whether the emergency state is IN_USE (R35). -/
theorem exhaustion_congr {s t : State} (htariff : t.tariff = s.tariff)
    (huse : t.bill.emergency = .inUse ↔ s.bill.emergency = .inUse) : exhaustion t = exhaustion s := by
  by_cases h : s.bill.emergency = .inUse
  · simp only [exhaustion_of_inUse h, exhaustion_of_inUse (huse.mpr h), State.active, htariff]
  · rw [exhaustion_of_not_inUse h, exhaustion_of_not_inUse (mt huse.mp h)]

/-- The tariff's limits on EC and FA, the two amounts below zero that B may be compared with (03, 3.1). -/
theorem Tariff.emergency_allowance_le_of_valid {t : Tariff} (h : t.valid = true) :
    t.charges.emergency ≤ 100000000 ∧ t.friendly.allowance ≤ 100000000 := by
  simp only [Tariff.valid, Tariff.inRange, Bool.and_eq_true, decide_eq_true_eq] at h
  tauto

theorem exhaustion_range {s : State} (h : s.active.charges.emergency ≤ 100000000) :
    -100000000 ≤ exhaustion s ∧ exhaustion s ≤ 0 := by
  by_cases huse : s.bill.emergency = .inUse
  · rw [exhaustion_of_inUse huse]
    omega
  · rw [exhaustion_of_not_inUse huse]
    decide

/-! ## The test of B -/

/-- The level below which an evaluation adds CREDIT to the set: L, or L - FA in a friendly period (R36, R37). -/
def creditLevel (s : State) : Int :=
  if friendlyNow s = true then exhaustion s - s.active.friendly.allowance else exhaustion s

theorem friendlyNow_congr {s t : State} (htariff : t.tariff = s.tariff) (hcal : t.cal = s.cal) :
    friendlyNow t = friendlyNow s := by
  simp only [friendlyNow, State.active, htariff, hcal]

theorem creditLevel_congr {s t : State} (htariff : t.tariff = s.tariff) (hcal : t.cal = s.cal)
    (huse : t.bill.emergency = .inUse ↔ s.bill.emergency = .inUse) : creditLevel t = creditLevel s := by
  simp only [creditLevel, friendlyNow_congr htariff hcal, exhaustion_congr htariff huse, State.active, htariff]

theorem creditLevel_le_exhaustion (s : State) : creditLevel s ≤ exhaustion s := by
  unfold creditLevel
  split <;> omega

/-- CREDIT after an evaluation: absent at L and above it; below L present, unless a friendly period defers a demand that is
not made yet (R36, R37). -/
theorem evaluateCredit_credit (s : State) :
    (evaluateCredit s).sw.set.credit =
      if exhaustion s ≤ s.bill.b then false
      else !(friendlyNow s && !s.sw.set.credit && decide (exhaustion s - s.active.friendly.allowance ≤ s.bill.b)) := by
  unfold evaluateCredit
  by_cases hlevel : exhaustion s ≤ s.bill.b
  · simp [hlevel, DemandSet.put]
  · simp only [hlevel, not_le.mp hlevel, decide_true, Bool.and_true, if_false, present_sw]
    split
    next hdefer =>
      have habsent : s.sw.set.credit = false := by simp_all
      rw [hdefer, habsent]
      rfl
    next hdemand =>
      rw [Bool.eq_false_iff.mpr hdemand]
      simp [DemandSet.put]

theorem evaluateCredit_credit_iff {s : State} (habsent : s.sw.set.credit = false) :
    (evaluateCredit s).sw.set.credit = true ↔ s.bill.b < creditLevel s := by
  rw [evaluateCredit_credit, habsent]
  by_cases hlevel : exhaustion s ≤ s.bill.b
  · have hnot : ¬ s.bill.b < creditLevel s := not_lt.mpr ((creditLevel_le_exhaustion s).trans hlevel)
    simp [hlevel, hnot]
  · by_cases hfriendly : friendlyNow s = true
    · simp [creditLevel, hfriendly, hlevel, lt_sub_iff_add_lt]
    · simp [creditLevel, hfriendly, hlevel, not_le.mp hlevel]

/-! ## The evaluation and the clock minute -/

/-- The recomputation of R31 neither enters nor leaves IN_USE. -/
theorem recomputed_inUse_iff (s : State) : recomputed s = .inUse ↔ s.bill.emergency = .inUse := by
  unfold recomputed
  split
  · simp [*]
  · split <;> simp [*]

@[simp] theorem exhaustion_evaluate (s : State) : exhaustion (evaluate s) = exhaustion s :=
  exhaustion_congr (evaluate_tariff s) (by rw [evaluate_emergency, recomputed_inUse_iff])

/-- The emergency state and LOW_CREDIT, which R38 takes before CREDIT, move neither B nor the level. -/
theorem evaluate_credit_iff {s : State} (habsent : s.sw.set.credit = false) :
    (evaluate s).sw.set.credit = true ↔ s.bill.b < creditLevel s := by
  unfold evaluate
  rw [evaluateCredit_credit_iff, creditLevel_congr (s := s)]
  exacts [Iff.rfl, rfl, rfl, recomputed_inUse_iff s, habsent]

/-- A clock minute is an evaluation when no gap accrual waits before it (R39, R45). -/
theorem exec_clockMinute {s : State} (hgood : mainGood s = true) (hgap : NoGapWaits s) :
    exec .clockMinute s = .next (evaluate (s.take .clockMinute)) := by
  change execClockMinute s = _
  rw [execClockMinute, inMain_good hgood, settleGap_none (noGapWaits_take hgap)]

/-- Settles O7, by the frame of L under an evaluation and the case split of R37 on B against L. -/
theorem exhaustionLevel : Obligations.ExhaustionLevel := by
  refine ⟨fun s => ⟨exhaustion_of_inUse, exhaustion_of_not_inUse, fun hvalid => ?_⟩, fun s hgood hgap habsent => ?_⟩
  · obtain ⟨hec, hfa⟩ := Tariff.emergency_allowance_le_of_valid hvalid
    obtain ⟨hlo, hhi⟩ := exhaustion_range hec
    omega
  · exact ⟨_, exec_clockMinute hgood hgap, exhaustion_evaluate (s.take .clockMinute),
      evaluate_credit_iff (s := s.take .clockMinute) habsent⟩

end Sys2Proof.Machine
end

/-! PROOF. TARIFF_CANCEL on a ready network port (03, 3.3: R54). -/

namespace Sys2Proof.Machine

/-- A slot that holds what is put in it stays as it is: R54's repeat of a cancel. -/
theorem setSlot_of_slot_eq {slot : PendingSlot} {s : State} (h : s.tariff.slot = slot) : setSlot slot s = s := by
  subst h
  rfl

/-- A cancel puts EMPTY into the slot, whatever the slot held (R54). -/
theorem exec_tariffCancel {s : State} (h : Ready .network s) :
    exec (.tariffCancel .network) s =
      .next (respond .network (.bare .ok) (setSlot .empty (s.take (.tariffCancel .network)))) := by
  change execTariffCancel .network s = _
  exact runCommand_ready h

/-- Settles O16: the state behind the answer is the taken state with its slot emptied. -/
theorem cancelEmptiesSlot : Obligations.CancelEmptiesSlot := by
  intro s hready
  refine ⟨setSlot .empty (s.take (.tariffCancel .network)), exec_tariffCancel hready, ?frame, ?slot, ?rest, ?repeated⟩
  case frame => rfl
  case slot => rw [setSlot_tariff]
  case rest => rw [setSlot_tariff, State.take_tariff]
  case repeated => exact setSlot_of_slot_eq (s := s.take (.tariffCancel .network))

end Sys2Proof.Machine

/-! PROOF. Local time, its ranges, and the lookups that a day number and a minute decide (08: R155; 03: R47, R48). -/

namespace Sys2Proof.Machine

/-! ## Local time -/

/-- The remainder of R155 lies in 0 to 6 also before day 0, so toNat loses nothing. -/
theorem localWeekday_cast (t : Nat) (o : Int) : (localWeekday t o : Int) = localDay t o % 7 :=
  Int.toNat_of_nonneg (Int.emod_nonneg _ (by decide))

theorem localWeekday_lt (t : Nat) (o : Int) : localWeekday t o < 7 := by
  have hcast := localWeekday_cast t o
  omega

theorem localMinute_cast (t : Nat) (o : Int) : (localMinute t o : Int) = localSeconds t o % 86400 / 60 :=
  Int.toNat_of_nonneg (Int.ediv_nonneg (Int.emod_nonneg _ (by decide)) (by decide))

theorem localMinute_lt (t : Nat) (o : Int) : localMinute t o < 1440 := by
  have hcast := localMinute_cast t o
  omega

/-- -1 is congruent to 6 modulo 7 (R155). -/
theorem localWeekday_of_localDay_neg_one {t : Nat} {o : Int} (hday : localDay t o = -1) : localWeekday t o = 6 := by
  rw [localWeekday, hday]
  rfl

/-! ## The ranges under an offset that CLOCK_SET takes -/

theorem offsetTaken_iff (o : Int) : offsetTaken o = true ↔ -720 ≤ o ∧ o ≤ 840 ∧ o % 15 = 0 := by
  simp only [offsetTaken, Bool.and_eq_true, decide_eq_true_eq, and_assoc]

theorem localSeconds_range {t : Nat} {o : Int} (ht : t < 2 ^ 32) (ho : offsetTaken o = true) :
    -43200 ≤ localSeconds t o ∧ localSeconds t o ≤ 4295017695 := by
  obtain ⟨hlo, hhi, -⟩ := (offsetTaken_iff o).mp ho
  unfold localSeconds
  omega

theorem localDay_range {t : Nat} {o : Int} (ht : t < 2 ^ 32) (ho : offsetTaken o = true) :
    -1 ≤ localDay t o ∧ localDay t o ≤ 49710 := by
  obtain ⟨hlo, hhi⟩ := localSeconds_range ht ho
  unfold localDay
  omega

/-- The largest negative offset is half a day, so day -1 is the local day only before noon of day 0. -/
theorem early_of_localDay_neg_one {t : Nat} {o : Int} (ho : offsetTaken o = true) (hday : localDay t o = -1) :
    t < 43200 ∧ o < 0 := by
  obtain ⟨hlo, -, -⟩ := (offsetTaken_iff o).mp ho
  unfold localDay localSeconds at hday
  omega

/-! ## The day type and the band -/

/-- Special dates are day numbers from 0 on. -/
theorem specialDate_of_neg (tar : Tariff) {day : Int} (hday : day < 0) : specialDate tar day = false := by
  simp only [specialDate, List.any_eq_false, decide_eq_true_eq]
  intro d _
  omega

theorem dayType_restday_iff (tar : Tariff) (day : Int) (weekday : Nat) :
    dayType tar day weekday = .restday ↔
      specialDate tar day = true ∨ tar.restDays.mask.getLsbD weekday = true := by
  rw [← Bool.or_eq_true, dayType]
  split
  next hrest => exact iff_of_true rfl hrest
  next hwork => exact iff_of_false (by decide) hwork

/-- The band of a valid clock is the one that the profile of the day type gives at the local minute (R48). -/
theorem bandUnder_valid (tar : Tariff) (t : Nat) (o : Int) :
    bandUnder tar t o true =
      bandAt (if dayType tar (localDay t o) (localWeekday t o) = .restday then tar.restday else tar.workday)
        (localMinute t o) := by
  rw [bandUnder, if_pos rfl]
  cases dayType tar (localDay t o) (localWeekday t o) with
  | workday | restday => rfl

/-- Settles O44, by the ranges of the offsets CLOCK_SET takes and the case split of the band on the day type. -/
theorem localTimeDerived : Obligations.LocalTimeDerived := by
  refine ⟨fun t o => ?formula, rfl, fun t o ht ho => ?range, fun tar => ?dayMinusOne, fun s => ⟨rfl, rfl, ?band⟩⟩
  case formula =>
    exact ⟨rfl, rfl, localWeekday_cast t o, localMinute_cast t o, localWeekday_lt t o, localMinute_lt t o⟩
  case range =>
    obtain ⟨hsecLo, hsecHi⟩ := localSeconds_range ht ho
    obtain ⟨hdayLo, hdayHi⟩ := localDay_range ht ho
    refine ⟨hsecLo, hsecHi, hdayLo, hdayHi, fun hday => ?_⟩
    obtain ⟨hearly, hwest⟩ := early_of_localDay_neg_one ho hday
    exact ⟨hearly, hwest, localWeekday_of_localDay_neg_one hday⟩
  case dayMinusOne =>
    have hnever : specialDate tar (-1) = false := specialDate_of_neg tar (by decide)
    exact ⟨hnever, by simp [dayType_restday_iff, hnever]⟩
  case band =>
    rintro hvalid day weekday rfl rfl
    rw [bandInForce, hvalid, bandUnder_valid]

end Sys2Proof.Machine

/-! PROOF. Bytes and the numbers they spell, both ways, and the layouts of the tariff groups (12_formats.md: R197, 12.4). -/

namespace Sys2Proof.Machine

/-! ## Numbers as bytes -/

@[simp] theorem length_beNat (k w : Nat) : (beNat k w).length = k := by
  induction k with
  | zero => rfl
  | succ k ih => simp [beNat, ih]

@[simp] theorem length_beInt (k : Nat) (x : Int) : (beInt k x).length = k := length_beNat _ _

theorem ofBe_append (a b : List Byte) : ofBe (a ++ b) = ofBe a * 256 ^ b.length + ofBe b := by
  induction b using List.reverseRecOn with
  | nil => simp [ofBe]
  | append_singleton b x ih =>
    have hsnoc : ∀ l : List Byte, ofBe (l ++ [x]) = ofBe l * 256 + x.toNat := fun l => by simp [ofBe]
    rw [← List.append_assoc, hsnoc, hsnoc, ih, List.length_append, List.length_singleton, pow_succ]
    ring

@[simp] theorem ofBe_nil : ofBe [] = 0 := rfl

theorem ofBe_cons (x : Byte) (l : List Byte) : ofBe (x :: l) = x.toNat * 256 ^ l.length + ofBe l := by
  have h := ofBe_append [x] l
  simpa [ofBe] using h

theorem ofBe_lt (l : List Byte) : ofBe l < 256 ^ l.length := by
  induction l with
  | nil => simp
  | cons x l ih =>
    rw [ofBe_cons, List.length_cons, pow_succ]
    have hx : x.toNat < 256 := x.isLt
    nlinarith

theorem ofBe_beNat (k w : Nat) : ofBe (beNat k w) = w % 256 ^ k := by
  induction k with
  | zero => simp [beNat, Nat.mod_one]
  | succ k ih =>
    rw [beNat, ofBe_cons, ih, length_beNat, BitVec.toNat_ofNat, Nat.pow_succ 256 k, Nat.mod_mul]
    ring

theorem ofBe_beNat_of_lt {k w : Nat} (h : w < 256 ^ k) : ofBe (beNat k w) = w := by
  rw [ofBe_beNat, Nat.mod_eq_of_lt h]

/-- A number modulo 256^k has the bytes of the number. -/
theorem beNat_add_mul (k w m : Nat) : beNat k (m * 256 ^ k + w) = beNat k w := by
  induction k generalizing m with
  | zero => rfl
  | succ k ih =>
    have hhigh : m * 256 ^ (k + 1) + w = m * 256 * 256 ^ k + w := by ring
    rw [beNat, beNat, hhigh, ih, Nat.add_comm, Nat.add_mul_div_right _ _ (by positivity)]
    congr 1
    apply BitVec.eq_of_toNat_eq
    simp [Nat.add_mul_mod_self_right]

theorem beNat_ofBe (l : List Byte) : beNat l.length (ofBe l) = l := by
  induction l with
  | nil => rfl
  | cons x l ih =>
    rw [List.length_cons, beNat, ofBe_cons, beNat_add_mul, ih]
    congr 1
    rw [Nat.add_comm, Nat.add_mul_div_right _ _ (by positivity), Nat.div_eq_of_lt (ofBe_lt l)]
    simp

theorem beNat_one_toNat (b : Byte) : beNat 1 b.toNat = [b] := by
  simpa [ofBe_cons] using beNat_ofBe [b]

theorem beNat_one (w : Nat) : beNat 1 w = [BitVec.ofNat 8 w] := by simp [beNat]

/-! ## Pieces of a layout -/

theorem drop_beNat_append {k n : Nat} (h : k ≤ n) (w : Nat) (rest : List Byte) :
    (beNat k w ++ rest).drop n = rest.drop (n - k) := by
  simp [List.drop_append, List.drop_eq_nil_of_le, h]

theorem take_beNat_append (k w : Nat) (rest : List Byte) : (beNat k w ++ rest).take k = beNat k w := by
  simp

theorem take_beNat (k w : Nat) : (beNat k w).take k = beNat k w := by simp

/-! ## The fields of a tariff in their ranges, group by group (03, 3.1) -/

def PricesInRange (p : PerBand Nat) : Prop := p.b0 ≤ 99999 ∧ p.b1 ≤ 99999 ∧ p.b2 ≤ 99999 ∧ p.b3 ≤ 99999

def ProfileInRange (ps : List SwitchPoint) : Prop := 1 ≤ ps.length ∧ ps.length ≤ 8 ∧ ∀ p ∈ ps, p.minute ≤ 1439

def RestDaysInRange (r : RestDays) : Prop := r.dates.length ≤ 16 ∧ ∀ d ∈ r.dates, d < 2 ^ 16

def ChargesInRange (c : Charges) : Prop :=
  c.standing ≤ 100000000 ∧ c.emergency ≤ 100000000 ∧ c.lowCredit ≤ 100000000 ∧ 1000 ≤ c.maxCredit ∧
    c.maxCredit ≤ moneyMax ∧ c.share ≤ 900

def WindowInRange (w : Window) : Prop := w.start ≤ 1439 ∧ 1 ≤ w.stop ∧ w.stop ≤ 1440

def FriendlyInRange (f : Friendly) : Prop :=
  f.windows.length ≤ 4 ∧ (∀ w ∈ f.windows, WindowInRange w) ∧ f.allowance ≤ 100000000

def PolicyInRange (p : Policy) : Prop :=
  (p.ilim = 0 ∨ 100 ≤ p.ilim ∧ p.ilim ≤ 12000) ∧ 30 ≤ p.restoreDelay ∧ p.restoreDelay ≤ 3600 ∧ p.mfix < 2 ^ 16

theorem Tariff.inRange_iff (t : Tariff) :
    t.inRange = true ↔
      t.id < 2 ^ 16 ∧ PricesInRange t.prices ∧ ProfileInRange t.workday ∧ ProfileInRange t.restday ∧
        RestDaysInRange t.restDays ∧ ChargesInRange t.charges ∧ FriendlyInRange t.friendly ∧ PolicyInRange t.policy := by
  simp only [Tariff.inRange, PricesInRange, ProfileInRange, RestDaysInRange, ChargesInRange, FriendlyInRange, WindowInRange,
    PolicyInRange, Bool.and_eq_true, Bool.or_eq_true, decide_eq_true_eq, List.all_eq_true, and_assoc]

/-! ## What TARIFF_PUT reads, and what READ_TARIFF sends: each group's bytes spell exactly the values in range (12.4) -/

def pricesBytes (p : PerBand Nat) : List Byte := beNat 3 p.b0 ++ beNat 3 p.b1 ++ beNat 3 p.b2 ++ beNat 3 p.b3

def pointBytes (p : SwitchPoint) : List Byte := beNat 2 p.minute ++ beNat 1 (bandCode p.band)

def restDaysBytes (r : RestDays) : List Byte :=
  beNat 1 r.mask.toNat ++ beNat 1 r.dates.length ++ r.dates.flatMap (beNat 2)

def chargesBytes (c : Charges) : List Byte :=
  beNat 4 c.standing ++ beNat 4 c.emergency ++ beNat 4 c.lowCredit ++ beNat 5 c.maxCredit ++ beNat 2 c.share

def windowBytes (w : Window) : List Byte := beNat 1 w.mask.toNat ++ beNat 2 w.start ++ beNat 2 w.stop

def friendlyBytes (f : Friendly) : List Byte :=
  beNat 1 f.windows.length ++ f.windows.flatMap windowBytes ++ beNat 4 f.allowance

def policyBytes (p : Policy) : List Byte :=
  beNat 2 p.ilim ++ beNat 2 p.restoreDelay ++ beNat 1 (reverseModeCode p.reverseMode) ++ beNat 2 p.mfix ++
    beNat 1 p.lockout.toNat

theorem bandOf_iff (b : Byte) (x : Band) : bandOf b = some x ↔ beNat 1 (bandCode x) = [b] := by
  rw [beNat_one, List.singleton_inj]
  unfold bandOf
  constructor
  · intro h
    apply BitVec.eq_of_toNat_eq
    split at h <;> cases h <;> simp [bandCode, *]
  · rintro rfl
    cases x <;> rfl

theorem beNat_two (a b : Byte) : beNat 2 (ofBe [a, b]) = [a, b] := beNat_ofBe [a, b]

theorem beNat_three (a b c : Byte) : beNat 3 (ofBe [a, b, c]) = [a, b, c] := beNat_ofBe [a, b, c]

theorem exists_two {w : Nat} (h : w < 256 ^ 2) : ∃ a b, beNat 2 w = [a, b] ∧ ofBe [a, b] = w :=
  ⟨_, _, rfl, ofBe_beNat_of_lt h⟩

theorem exists_three {w : Nat} (h : w < 256 ^ 3) : ∃ a b c, beNat 3 w = [a, b, c] ∧ ofBe [a, b, c] = w :=
  ⟨_, _, _, rfl, ofBe_beNat_of_lt h⟩

theorem readPrices_iff (data : List Byte) (p : PerBand Nat) :
    readPrices data = some p ↔ PricesInRange p ∧ data = pricesBytes p := by
  unfold readPrices pricesBytes
  constructor
  · intro h
    split at h
    · rw [Option.ite_none_right_eq_some] at h
      obtain ⟨hrange, heq⟩ := h
      cases heq
      exact ⟨hrange, by simp only [beNat_three]; rfl⟩
    · cases h
  · rintro ⟨hrange, rfl⟩
    obtain ⟨h0, h1, h2, h3⟩ := hrange
    obtain ⟨a2, a1, a0, ha, hav⟩ := exists_three (w := p.b0) (by omega)
    obtain ⟨b2, b1, b0, hb, hbv⟩ := exists_three (w := p.b1) (by omega)
    obtain ⟨c2, c1, c0, hc, hcv⟩ := exists_three (w := p.b2) (by omega)
    obtain ⟨d2, d1, d0, hd, hdv⟩ := exists_three (w := p.b3) (by omega)
    simp [ha, hb, hc, hd, hav, hbv, hcv, hdv, h0, h1, h2, h3]

theorem readSwitchPoints_some : ∀ {data : List Byte} {ps : List SwitchPoint}, readSwitchPoints data = some ps →
    (∀ p ∈ ps, p.minute ≤ 1439) ∧ data = ps.flatMap pointBytes
  | [], ps, h => by
    cases h
    simp
  | [_], _, h => by cases h
  | [_, _], _, h => by cases h
  | m1 :: m0 :: b :: rest, ps, h => by
    unfold readSwitchPoints at h
    split at h
    next band qs hband hrest =>
      rw [Option.ite_none_right_eq_some] at h
      obtain ⟨hminute, heq⟩ := h
      cases heq
      obtain ⟨hqs, rfl⟩ := readSwitchPoints_some hrest
      refine ⟨List.forall_mem_cons.mpr ⟨hminute, hqs⟩, ?_⟩
      simp [pointBytes, beNat_two, (bandOf_iff b band).mp hband]
    next => cases h

theorem readSwitchPoints_flatMap {ps : List SwitchPoint} (h : ∀ p ∈ ps, p.minute ≤ 1439) :
    readSwitchPoints (ps.flatMap pointBytes) = some ps := by
  induction ps with
  | nil => rfl
  | cons p ps ih =>
    obtain ⟨hminute, hps⟩ := List.forall_mem_cons.mp h
    obtain ⟨m1, m0, hm, hmv⟩ := exists_two (w := p.minute) (by omega)
    have hband : bandOf (BitVec.ofNat 8 (bandCode p.band)) = some p.band := by
      rw [bandOf_iff, beNat_one]
    have hbytes : (p :: ps).flatMap pointBytes =
        m1 :: m0 :: BitVec.ofNat 8 (bandCode p.band) :: ps.flatMap pointBytes := by
      simp [pointBytes, hm, beNat_one]
    rw [hbytes, readSwitchPoints, hband, ih hps]
    simp [hmv, hminute]

theorem readProfile_iff (data : List Byte) (ps : List SwitchPoint) :
    readProfile data = some ps ↔ ProfileInRange ps ∧ data = profileBytes ps := by
  unfold readProfile profileBytes
  constructor
  · intro h
    split at h
    next c rest =>
      split at h
      next qs hqs =>
        rw [Option.ite_none_right_eq_some] at h
        obtain ⟨⟨hlo, hhi, hlen⟩, heq⟩ := h
        cases heq
        obtain ⟨hminutes, rfl⟩ := readSwitchPoints_some hqs
        refine ⟨⟨by omega, by omega, hminutes⟩, ?_⟩
        rw [hlen, beNat_one_toNat]
        rfl
      next => cases h
    next => cases h
  · rintro ⟨⟨hlo, hhi, hminutes⟩, rfl⟩
    rw [beNat_one, List.singleton_append]
    change (match readSwitchPoints (ps.flatMap pointBytes) with | some ps => _ | none => _) = _
    rw [readSwitchPoints_flatMap hminutes]
    have hcount : (BitVec.ofNat 8 ps.length).toNat = ps.length := by
      rw [BitVec.toNat_ofNat]
      omega
    simp [hcount, hlo, hhi]

theorem readDates_some : ∀ {data : List Byte} {ds : List Nat}, readDates data = some ds →
    (∀ d ∈ ds, d < 2 ^ 16) ∧ data = ds.flatMap (beNat 2)
  | [], ds, h => by
    cases h
    simp
  | [_], _, h => by cases h
  | d1 :: d0 :: rest, ds, h => by
    rw [readDates, Option.map_eq_some_iff] at h
    obtain ⟨es, hes, rfl⟩ := h
    obtain ⟨hrange, rfl⟩ := readDates_some hes
    refine ⟨List.forall_mem_cons.mpr ⟨(ofBe_lt [d1, d0]).trans_eq (by norm_num), hrange⟩, ?_⟩
    simp [beNat_two]

theorem readDates_flatMap {ds : List Nat} (h : ∀ d ∈ ds, d < 2 ^ 16) : readDates (ds.flatMap (beNat 2)) = some ds := by
  induction ds with
  | nil => rfl
  | cons d ds ih =>
    obtain ⟨hd, hds⟩ := List.forall_mem_cons.mp h
    obtain ⟨d1, d0, hm, hv⟩ := exists_two (w := d) hd
    rw [List.flatMap_cons, hm]
    simp only [List.cons_append, List.nil_append, readDates, ih hds, Option.map_some, hv]

/-- A byte with bit 7 clear is the seven bits below it. -/
theorem setWidth_seven {m : Byte} (h : m.getLsbD 7 = false) : (m.setWidth 7).toNat = m.toNat := by
  have hmsb : m.msb = false := by simpa [BitVec.msb_eq_getLsbD_last] using h
  have hlt := BitVec.msb_eq_false_iff_two_mul_lt.mp hmsb
  rw [BitVec.toNat_setWidth]
  omega

theorem byte_of_seven (m : BitVec 7) :
    (BitVec.ofNat 8 m.toNat).getLsbD 7 = false ∧ (BitVec.ofNat 8 m.toNat).setWidth 7 = m := by
  have hm : m.toNat < 128 := m.isLt
  have hbyte : (BitVec.ofNat 8 m.toNat).toNat = m.toNat := by
    rw [BitVec.toNat_ofNat]
    omega
  refine ⟨?_, BitVec.eq_of_toNat_eq ?_⟩
  · rw [BitVec.getLsbD, hbyte]
    exact Nat.testBit_lt_two_pow hm
  · rw [BitVec.toNat_setWidth, hbyte]
    omega

theorem readRestDays_iff (data : List Byte) (r : RestDays) :
    readRestDays data = some r ↔ RestDaysInRange r ∧ data = restDaysBytes r := by
  unfold readRestDays restDaysBytes
  constructor
  · intro h
    split at h
    next m c rest =>
      split at h
      next ds hds =>
        rw [Option.ite_none_right_eq_some] at h
        obtain ⟨⟨hbit, hcount, hlen⟩, heq⟩ := h
        cases heq
        obtain ⟨hdates, rfl⟩ := readDates_some hds
        refine ⟨⟨by simp only; omega, hdates⟩, ?_⟩
        simp only [setWidth_seven hbit, hlen, beNat_one_toNat]
        rfl
      next => cases h
    next => cases h
  · rintro ⟨⟨hlen, hdates⟩, rfl⟩
    rw [beNat_one, beNat_one]
    simp only [List.cons_append, List.nil_append, readDates_flatMap hdates]
    have hcount : (BitVec.ofNat 8 r.dates.length).toNat = r.dates.length := by
      rw [BitVec.toNat_ofNat]
      omega
    simp [hcount, hlen]

theorem readCharges_iff (data : List Byte) (c : Charges) :
    readCharges data = some c ↔ ChargesInRange c ∧ data = chargesBytes c := by
  unfold readCharges chargesBytes
  simp only
  constructor
  · intro h
    rw [Option.ite_none_right_eq_some] at h
    obtain ⟨⟨hlen, hrange⟩, heq⟩ := h
    cases heq
    refine ⟨hrange, ?_⟩
    have hpiece : ∀ a k, a + k ≤ 19 → beNat k (ofBe ((data.drop a).take k)) = (data.drop a).take k := by
      intro a k hk
      have hlength : ((data.drop a).take k).length = k := by
        rw [List.length_take, List.length_drop]
        omega
      have := beNat_ofBe ((data.drop a).take k)
      rwa [hlength] at this
    have h0 := hpiece 0 4 (by omega)
    rw [List.drop_zero] at h0
    rw [h0, hpiece 4 4 (by omega), hpiece 8 4 (by omega), hpiece 12 5 (by omega), hpiece 17 2 (by omega)]
    have hend : (data.drop 17).take 2 = data.drop 17 := List.take_of_length_le (by rw [List.length_drop]; omega)
    rw [hend, List.append_assoc, ← List.drop_drop (i := 5) (j := 12), List.take_append_drop, List.append_assoc,
      ← List.drop_drop (i := 4) (j := 8), List.take_append_drop, List.append_assoc,
      ← List.drop_drop (i := 4) (j := 4), List.take_append_drop, List.take_append_drop]
  · rintro ⟨hrange, rfl⟩
    obtain ⟨hs, he, hl, hlo, hhi, hf⟩ := id hrange
    simp only [moneyMax] at hhi
    simp only [List.append_assoc, drop_beNat_append, take_beNat_append, take_beNat, Nat.reduceLeDiff, Nat.reduceSub,
      List.drop_zero]
    rw [ofBe_beNat_of_lt (k := 4) (w := c.standing) (by omega), ofBe_beNat_of_lt (k := 4) (w := c.emergency) (by omega),
      ofBe_beNat_of_lt (k := 4) (w := c.lowCredit) (by omega), ofBe_beNat_of_lt (k := 5) (w := c.maxCredit) (by omega),
      ofBe_beNat_of_lt (k := 2) (w := c.share) (by omega), if_pos]
    exact ⟨by simp, hs, he, hl, hlo, hhi, hf⟩

theorem readWindows_some : ∀ {data : List Byte} {ws : List Window}, readWindows data = some ws →
    (∀ w ∈ ws, WindowInRange w) ∧ data = ws.flatMap windowBytes
  | [], ws, h => by
    cases h
    simp
  | [_], _, h => by cases h
  | [_, _], _, h => by cases h
  | [_, _, _], _, h => by cases h
  | [_, _, _, _], _, h => by cases h
  | m :: s1 :: s0 :: e1 :: e0 :: rest, ws, h => by
    unfold readWindows at h
    split at h
    next vs hrest =>
      rw [Option.ite_none_right_eq_some] at h
      obtain ⟨hrange, heq⟩ := h
      cases heq
      obtain ⟨hvs, rfl⟩ := readWindows_some hrest
      refine ⟨List.forall_mem_cons.mpr ⟨hrange, hvs⟩, ?_⟩
      simp [windowBytes, beNat_two, beNat_one]
    next => cases h

theorem readWindows_flatMap {ws : List Window} (h : ∀ w ∈ ws, WindowInRange w) :
    readWindows (ws.flatMap windowBytes) = some ws := by
  induction ws with
  | nil => rfl
  | cons w ws ih =>
    obtain ⟨⟨hstart, hlo, hhi⟩, hws⟩ := List.forall_mem_cons.mp h
    obtain ⟨s1, s0, hs, hsv⟩ := exists_two (w := w.start) (by omega)
    obtain ⟨e1, e0, he, hev⟩ := exists_two (w := w.stop) (by omega)
    have hbytes : (w :: ws).flatMap windowBytes = w.mask :: s1 :: s0 :: e1 :: e0 :: ws.flatMap windowBytes := by
      simp [windowBytes, hs, he, beNat_one_toNat]
    rw [hbytes, readWindows, ih hws]
    simp [hsv, hev, hstart, hlo, hhi]

theorem length_flatMap_windowBytes (ws : List Window) : (ws.flatMap windowBytes).length = 5 * ws.length := by
  induction ws with
  | nil => rfl
  | cons w ws ih =>
    rw [List.flatMap_cons, List.length_append, ih]
    simp [windowBytes]
    omega

theorem readFriendly_iff (data : List Byte) (f : Friendly) :
    readFriendly data = some f ↔ FriendlyInRange f ∧ data = friendlyBytes f := by
  unfold readFriendly friendlyBytes
  constructor
  · intro h
    split at h
    next c rest =>
      split at h
      next ws hws =>
        simp only at h
        rw [Option.ite_none_right_eq_some] at h
        obtain ⟨⟨hcount, hlen, hallow⟩, heq⟩ := h
        cases heq
        obtain ⟨hrange, hbytes⟩ := readWindows_some hws
        have hlength : ws.length = c.toNat := by
          have := congrArg List.length hbytes
          rw [length_flatMap_windowBytes, List.length_take] at this
          omega
        have hallowance : beNat 4 (ofBe (rest.drop (5 * c.toNat))) = rest.drop (5 * c.toNat) := by
          have hfour : (rest.drop (5 * c.toNat)).length = 4 := by
            rw [List.length_drop]
            omega
          have := beNat_ofBe (rest.drop (5 * c.toNat))
          rwa [hfour] at this
        refine ⟨⟨hlength.le.trans hcount, hrange, hallow⟩, ?_⟩
        rw [hlength, beNat_one_toNat, ← hbytes, hallowance, List.append_assoc, List.take_append_drop]
        rfl
      next => cases h
    next => cases h
  · rintro ⟨⟨hcount, hrange, hallow⟩, rfl⟩
    have hc : (BitVec.ofNat 8 f.windows.length).toNat = f.windows.length := by
      rw [BitVec.toNat_ofNat]
      omega
    have hlen := length_flatMap_windowBytes f.windows
    rw [beNat_one]
    simp only [List.cons_append, List.nil_append, hc]
    rw [← hlen, List.take_left, List.drop_left, readWindows_flatMap hrange]
    simp only
    rw [ofBe_beNat_of_lt (k := 4) (w := f.allowance) (by omega), if_pos]
    exact ⟨hcount, by simp, hallow⟩

theorem reverseModeCode_iff (m : Byte) (x : ReverseMode) :
    m.toNat ≤ 1 ∧ (if m.toNat = 0 then ReverseMode.ignore else .chargeAsImport) = x ↔ [m] = beNat 1 (reverseModeCode x) := by
  rw [beNat_one, List.singleton_inj]
  constructor
  · rintro ⟨hle, rfl⟩
    apply BitVec.eq_of_toNat_eq
    split
    next h => simpa [reverseModeCode] using h
    next h =>
      simp [reverseModeCode]
      omega
  · rintro rfl
    cases x <;> decide

theorem readPolicy_iff (data : List Byte) (x : Policy) :
    readPolicy data = some x ↔ PolicyInRange x ∧ data = policyBytes x := by
  unfold readPolicy policyBytes
  constructor
  · intro h
    split at h
    next i1 i0 d1 d0 m f1 f0 k =>
      simp only at h
      rw [Option.ite_none_right_eq_some] at h
      obtain ⟨⟨hilim, hlo, hhi, hmode, hbit⟩, heq⟩ := h
      cases heq
      refine ⟨⟨hilim, hlo, hhi, (ofBe_lt [f1, f0]).trans_eq (by norm_num)⟩, ?_⟩
      simp only [beNat_two, setWidth_seven hbit, beNat_one_toNat, ← (reverseModeCode_iff m _).mp ⟨hmode, rfl⟩]
      rfl
    next => cases h
  · rintro ⟨⟨hilim, hlo, hhi, hmfix⟩, rfl⟩
    obtain ⟨i1, i0, hi, hiv⟩ := exists_two (w := x.ilim) (by omega)
    obtain ⟨d1, d0, hd, hdv⟩ := exists_two (w := x.restoreDelay) (by omega)
    obtain ⟨f1, f0, hf, hfv⟩ := exists_two (w := x.mfix) (hmfix.trans_eq (by norm_num))
    obtain ⟨hmode, hmodev⟩ := (reverseModeCode_iff (BitVec.ofNat 8 (reverseModeCode x.reverseMode)) x.reverseMode).mpr
      (beNat_one _).symm
    obtain ⟨hbit, hmask⟩ := byte_of_seven x.lockout
    simp only [hi, hd, hf, beNat_one, List.cons_append, List.nil_append, hiv, hdv, hfv, hmodev, hmask]
    rw [if_pos ⟨hilim, hlo, hhi, hmode, hbit⟩]

/-! ## TARIFF_PUT group by group (R51, R52) -/

/-- The range of one group's fields. -/
def GroupInRange (g : Nat) (t : Tariff) : Prop :=
  match g with
  | 1 => t.id < 2 ^ 16
  | 2 => PricesInRange t.prices
  | 3 => ProfileInRange t.workday
  | 4 => ProfileInRange t.restday
  | 5 => RestDaysInRange t.restDays
  | 6 => ChargesInRange t.charges
  | 7 => FriendlyInRange t.friendly
  | 8 => PolicyInRange t.policy
  | _ => True

theorem inRange_iff_groups (t : Tariff) : t.inRange = true ↔ ∀ g, GroupInRange g t := by
  rw [Tariff.inRange_iff]
  constructor
  · rintro ⟨h1, h2, h3, h4, h5, h6, h7, h8⟩ g
    unfold GroupInRange
    split <;> first | assumption | trivial
  · intro h
    exact ⟨h 1, h 2, h 3, h 4, h 5, h 6, h 7, h 8⟩

/-- A group that is read is put, when its bytes spell exactly the values in range. -/
theorem map_put_iff {α : Type} {read : List Byte → Option α} {InRange : α → Prop} {bytes : α → List Byte}
    (h : ∀ data x, read data = some x ↔ InRange x ∧ data = bytes x) (get : Tariff → α) (put : α → Tariff → Tariff)
    (hget : ∀ x t, get (put x t) = x) (data : List Byte) (t t' : Tariff) :
    (read data).map (fun x => put x t) = some t' ↔
      InRange (get t') ∧ data = bytes (get t') ∧ t' = put (get t') t := by
  rw [Option.map_eq_some_iff]
  constructor
  · rintro ⟨x, hread, rfl⟩
    rw [hget]
    obtain ⟨hrange, hdata⟩ := (h data x).mp hread
    exact ⟨hrange, hdata, rfl⟩
  · rintro ⟨hrange, hdata, heq⟩
    exact ⟨get t', (h data _).mpr ⟨hrange, hdata⟩, heq.symm⟩

theorem putId_iff (data : List Byte) (t t' : Tariff) :
    (match data with | [i1, i0] => some { t with id := ofBe [i1, i0] } | _ => none) = some t' ↔
      t'.id < 2 ^ 16 ∧ data = beNat 2 t'.id ∧ t' = { t with id := t'.id } := by
  constructor
  · intro h
    split at h
    next i1 i0 =>
      cases h
      exact ⟨(ofBe_lt [i1, i0]).trans_eq (by norm_num), (beNat_two i1 i0).symm, rfl⟩
    next => cases h
  · rintro ⟨hrange, rfl, heq⟩
    obtain ⟨i1, i0, hi, hiv⟩ := exists_two (w := t'.id) (hrange.trans_eq (by norm_num))
    rw [hi]
    simp only [hiv]
    rw [← heq]

/-- TARIFF_PUT takes exactly the bytes that a group in range sends, and puts that group alone (R51, R52, 12.4). -/
theorem putGroup_iff (g : Byte) (data : List Byte) (t t' : Tariff) :
    putGroup g data t = some t' ↔
      (1 ≤ g.toNat ∧ g.toNat ≤ 8) ∧ GroupInRange g.toNat t' ∧ data = groupBytes g t' ∧ t' = copyGroup g.toNat t' t := by
  unfold putGroup groupBytes
  generalize g.toNat = n
  match n with
  | 0 => simp
  | 1 => exact (putId_iff data t t').trans (and_iff_right (by decide)).symm
  | 2 =>
    exact (map_put_iff readPrices_iff (·.prices) (fun x t => { t with prices := x }) (fun _ _ => rfl) data t t').trans
      (and_iff_right (by decide)).symm
  | 3 =>
    exact (map_put_iff readProfile_iff (·.workday) (fun x t => { t with workday := x }) (fun _ _ => rfl) data t t').trans
      (and_iff_right (by decide)).symm
  | 4 =>
    exact (map_put_iff readProfile_iff (·.restday) (fun x t => { t with restday := x }) (fun _ _ => rfl) data t t').trans
      (and_iff_right (by decide)).symm
  | 5 =>
    exact (map_put_iff readRestDays_iff (·.restDays) (fun x t => { t with restDays := x }) (fun _ _ => rfl) data t t').trans
      (and_iff_right (by decide)).symm
  | 6 =>
    exact (map_put_iff readCharges_iff (·.charges) (fun x t => { t with charges := x }) (fun _ _ => rfl) data t t').trans
      (and_iff_right (by decide)).symm
  | 7 =>
    exact (map_put_iff readFriendly_iff (·.friendly) (fun x t => { t with friendly := x }) (fun _ _ => rfl) data t t').trans
      (and_iff_right (by decide)).symm
  | 8 =>
    exact (map_put_iff readPolicy_iff (·.policy) (fun x t => { t with policy := x }) (fun _ _ => rfl) data t t').trans
      (and_iff_right (by decide)).symm
  | n + 9 => simp

/-- What TARIFF_PUT takes leaves every field in range (R52). -/
theorem inRange_putGroup {g : Byte} {data : List Byte} {t t' : Tariff} (h : putGroup g data t = some t')
    (ht : t.inRange = true) : t'.inRange = true := by
  obtain ⟨⟨hlo, hhi⟩, hgroup, -, heq⟩ := (putGroup_iff g data t t').mp h
  rw [Tariff.inRange_iff] at *
  generalize g.toNat = n at *
  obtain ⟨h1, h2, h3, h4, h5, h6, h7, h8⟩ := ht
  rw [heq]
  match n with
  | 1 => exact ⟨hgroup, h2, h3, h4, h5, h6, h7, h8⟩
  | 2 => exact ⟨h1, hgroup, h3, h4, h5, h6, h7, h8⟩
  | 3 => exact ⟨h1, h2, hgroup, h4, h5, h6, h7, h8⟩
  | 4 => exact ⟨h1, h2, h3, hgroup, h5, h6, h7, h8⟩
  | 5 => exact ⟨h1, h2, h3, h4, hgroup, h6, h7, h8⟩
  | 6 => exact ⟨h1, h2, h3, h4, h5, hgroup, h7, h8⟩
  | 7 => exact ⟨h1, h2, h3, h4, h5, h6, hgroup, h8⟩
  | 8 => exact ⟨h1, h2, h3, h4, h5, h6, h7, hgroup⟩

/-- A group of a tariff in range is sent and put back (12.4). -/
theorem putGroup_groupBytes {g : Byte} {u : Tariff} (t : Tariff) (hu : u.inRange = true) (hlo : 1 ≤ g.toNat)
    (hhi : g.toNat ≤ 8) : putGroup g (groupBytes g u) t = some (copyGroup g.toNat u t) := by
  rw [putGroup_iff]
  refine ⟨⟨hlo, hhi⟩, ?_⟩
  have hgroup := (inRange_iff_groups u).mp hu g.toNat
  unfold groupBytes
  generalize g.toNat = n at *
  match n with
  | 1 | 2 | 3 | 4 | 5 | 6 | 7 | 8 => exact ⟨hgroup, rfl, rfl⟩

/-! ## The whole-record tests (R53) -/

theorem increasing_iff (l : List Nat) : increasing l = true ↔ l.Pairwise (· < ·) := by
  rw [← List.isChain_iff_pairwise]
  induction l with
  | nil => simp [increasing]
  | cons a l ih =>
    cases l with
    | nil => simp [increasing]
    | cons b rest => rw [increasing, Bool.and_eq_true, decide_eq_true_eq, ih, List.isChain_cons_cons]

theorem profileSound_iff (ps : List SwitchPoint) : profileSound ps = true ↔ ProfileRises ps := by
  rw [profileSound.eq_def, Bool.and_eq_true, increasing_iff, ProfileRises]
  cases ps <;> simp

theorem groupPasses_of_lt_three (t : Tariff) {g : Nat} (h : g < 3) : GroupPasses t g := by
  unfold GroupPasses
  split <;> first | omega | trivial

/-- The first failing group does not pass its whole-record test, every lower one does, and without one all pass (R53). -/
theorem firstFailingGroup_cases (t : Tariff) :
    (firstFailingGroup t = none ∧ ∀ g, GroupPasses t g) ∨
      ∃ g, firstFailingGroup t = some g ∧ ¬GroupPasses t g ∧ ∀ f, f < g → GroupPasses t f := by
  have hstep : ∀ {n : Nat}, (∀ f, f < n → GroupPasses t f) → GroupPasses t n → ∀ f, f < n + 1 → GroupPasses t f := by
    intro n hn hp f hf
    obtain hlt | rfl := Nat.lt_succ_iff_lt_or_eq.mp hf
    · exact hn f hlt
    · exact hp
  have below3 : ∀ f, f < 3 → GroupPasses t f := fun f hf => groupPasses_of_lt_three t hf
  have hwindows : t.friendly.windows.all (fun w => decide (w.start < w.stop)) = true ↔ GroupPasses t 7 := by
    simp [GroupPasses]
  have hlow : decide (t.charges.lowCredit ≤ t.charges.maxCredit) = true ↔ GroupPasses t 6 := decide_eq_true_iff
  have hdates : increasing t.restDays.dates = true ↔ GroupPasses t 5 := increasing_iff _
  have hrest : profileSound t.restday = true ↔ GroupPasses t 4 := profileSound_iff _
  have hwork : profileSound t.workday = true ↔ GroupPasses t 3 := profileSound_iff _
  unfold firstFailingGroup
  split
  next h => exact .inr ⟨3, rfl, by simpa [← hwork] using h, below3⟩
  next h =>
  have below4 := hstep below3 (hwork.mp (by simpa using h))
  split
  next h => exact .inr ⟨4, rfl, by simpa [← hrest] using h, below4⟩
  next h =>
  have below5 := hstep below4 (hrest.mp (by simpa using h))
  split
  next h => exact .inr ⟨5, rfl, by simpa [← hdates] using h, below5⟩
  next h =>
  have below6 := hstep below5 (hdates.mp (by simpa using h))
  split
  next h => exact .inr ⟨6, rfl, by simpa [← hlow] using h, below6⟩
  next h =>
  have below7 := hstep below6 (hlow.mp (by simpa using h))
  split
  next h => exact .inr ⟨7, rfl, by simpa [← hwindows] using h, below7⟩
  next h =>
  have below8 := hstep below7 (hwindows.mp (by simpa using h))
  refine .inl ⟨rfl, fun g => ?_⟩
  obtain hlt | hge := lt_or_ge g 8
  · exact below8 g hlt
  · unfold GroupPasses
    split <;> first | omega | trivial

theorem firstFailingGroup_eq_none_iff {t : Tariff} : firstFailingGroup t = none ↔ ∀ g, GroupPasses t g := by
  rcases firstFailingGroup_cases t with ⟨hnone, hall⟩ | ⟨g, hsome, hfails, -⟩
  · exact iff_of_true hnone hall
  · exact iff_of_false (by simp [hsome]) fun hall => hfails (hall g)

theorem firstFailingGroup_eq_some {t : Tariff} {g : Nat} (hfails : ¬GroupPasses t g) (hlower : ∀ f, f < g → GroupPasses t f) :
    firstFailingGroup t = some g := by
  rcases firstFailingGroup_cases t with ⟨-, hall⟩ | ⟨g', hsome, hfails', hlower'⟩
  · exact absurd (hall g) hfails
  · have heq : g' = g := by
      by_contra hne
      rcases Nat.lt_or_gt_of_ne hne with hlt | hlt
      · exact hfails' (hlower g' hlt)
      · exact hfails (hlower' g hlt)
    rw [hsome, heq]

/-! ## The obligations on the commands of the tariff session -/

theorem inRange_of_valid {t : Tariff} (h : t.valid = true) : t.inRange = true := by
  simp only [Tariff.valid, Bool.and_eq_true] at h
  exact h.1

theorem valid_of_passes {t : Tariff} (hrange : t.inRange = true) (h : firstFailingGroup t = none) : t.valid = true := by
  simp [Tariff.valid, hrange, h]

/-- Settles O15: the two commands are the bodies of a ready network port, and the first failing group is the one named. -/
theorem openAndCommit : Obligations.OpenAndCommit := by
  refine ⟨fun id s hready => ?opened, fun time s hready => ?_⟩
  case opened =>
    change execTariffOpen .network id s = _
    exact runCommand_ready hready
  have hexec : exec (.tariffCommit .network time) s =
      .next (respond .network (commitTariff time (s.take (.tariffCommit .network time))).2
        (commitTariff time (s.take (.tariffCommit .network time))).1) := runCommand_ready hready
  refine ⟨fun t hslot hall => ?armed, fun t g hslot hfails hlower => ?failing, fun hno => ?refused⟩
  case armed =>
    rw [hexec]
    simp only [commitTariff, State.take_tariff, hslot, firstFailingGroup_eq_none_iff.mpr hall]
    rfl
  case failing =>
    rw [hexec]
    simp only [commitTariff, State.take_tariff, hslot, firstFailingGroup_eq_some hfails hlower, beNat_one]
  case refused =>
    rw [hexec]
    cases hs : s.tariff.slot with
    | assembling t => exact absurd hs (hno t)
    | empty | armed _ _ => simp [commitTariff, hs]

/-- Settles O17: what is put is the group that its bytes spell. -/
theorem putReplacesGroup : Obligations.PutReplacesGroup := by
  intro g data s hready
  have hexec : exec (.tariffPut .network g data) s =
      .next (respond .network (putTariff g data (s.take (.tariffPut .network g data))).2
        (putTariff g data (s.take (.tariffPut .network g data))).1) := runCommand_ready hready
  refine ⟨fun t t' hslot hput => ?_, fun t hslot hput => ?_, fun hno => ?_⟩
  · obtain ⟨⟨hlo, hhi⟩, -, -, heq⟩ := (putGroup_iff g data t t').mp hput
    refine ⟨?_, hlo, hhi, heq, inRange_putGroup hput⟩
    rw [hexec]
    simp only [putTariff, State.take_tariff, hslot, hput]
    rfl
  · rw [hexec]
    simp only [putTariff, State.take_tariff, hslot, hput]
  · rw [hexec]
    cases hs : s.tariff.slot with
    | assembling t => exact absurd hs (hno t)
    | empty | armed _ _ => simp [putTariff, hs]

/-- Settles O18: the layouts agree because the bytes of each group spell exactly the values in range. -/
theorem groupLayoutsAgree : Obligations.GroupLayoutsAgree := by
  refine ⟨fun g u t hu hlo hhi => putGroup_groupBytes t hu hlo hhi, fun g data t t' hput => ?taken, fun p sel g s hready => ?_⟩
  case taken =>
    obtain ⟨-, -, hdata, -⟩ := (putGroup_iff g data t t').mp hput
    exact hdata.symm
  intro c tail
  have hexec : exec c s = .next (respond p
      (match tariffBytes sel g (s.take c) with | some d => ⟨.ok, d⟩ | none => .bare .badArgument) (s.take c)) := by
    change execReadTariff p sel g s = _
    rw [execReadTariff, runCommand_ready hready]
    change Host.Outcome.next _ = _
    cases tariffBytes sel g (s.take c) <;> rfl
  have htail : ∀ id, tariffTail id s.tariff = tail id := by
    intro id
    simp only [tariffTail, tail]
    cases s.tariff.slot <;> cases s.tariff.commissioned <;> simp [slotCode, beOption, beNat, flagByte, flagBits]
  rw [hexec]
  refine ⟨fun hlo hhi => ⟨fun hsel => ?_, fun hsel hslot => ?_, fun t hsel hslot => ?_⟩, fun hbad => ?_⟩
  · subst hsel
    simp [tariffBytes, hlo, hhi, htail, State.active]
  · subst hsel
    simp [tariffBytes, hlo, hhi, hslot, ← htail]
  · subst hsel
    obtain hs | ⟨time, hs⟩ := hslot <;> simp [tariffBytes, hlo, hhi, hs, ← htail]
  · have hnone : tariffBytes sel g (s.take c) = none := by
      unfold tariffBytes
      split
      next hrange =>
        split
        · omega
        · omega
        · rfl
      next => rfl
    rw [hnone]

end Sys2Proof.Machine

/-! PROOF. What the bounds of LOG rest on: the offers of records, the writer, collecting and the restore (07: R140 to R151). -/

namespace Sys2Proof.Machine

/-! ## The log apart from its agreement with the mark -/

/-- LogSound without the agreement of the log copy with the held mark, which only a running main domain owes (R146). -/
def LogCore (l : EvidenceLog) : Prop :=
  l.records.length ≤ logMax ∧ l.staging.length ≤ stagingMax ∧
    ((l.records ++ l.staging).map (·.number)).Pairwise (· < ·) ∧
    (∀ n, l.next = some n → n ≤ max32 ∧ ∀ r ∈ l.records ++ l.staging, r.number < n) ∧
    copiedMark l ≤ l.heldMark ∧ l.uncollectedUnder (copiedMark l) ≤ uncollectedMax ∧ WriterSound l

theorem logSound_iff (s : State) : LogSound s ↔ LogCore s.log ∧ (mainGood s = true → MarkAgrees s.log) := by
  simp only [LogSound, LogCore, and_assoc]

/-- What an offer leaves of LOG: all but the staging queue, the next number and the two counts (R140, R144). -/
def SameLog (l m : EvidenceLog) : Prop :=
  m = { l with staging := m.staging, next := m.next, overflow := m.overflow, dropped := m.dropped }

theorem SameLog.refl (l : EvidenceLog) : SameLog l l := rfl

theorem SameLog.trans {l m n : EvidenceLog} (h : SameLog l m) (k : SameLog m n) : SameLog l n := by
  unfold SameLog at *
  rw [k, h]

theorem SameLog.markAgrees {l m : EvidenceLog} (h : SameLog l m) (ha : MarkAgrees l) : MarkAgrees m := by
  rw [h]
  exact ha

/-! ## Offers -/

/-- LogCore reads neither count, nor the threshold. -/
theorem LogCore.of_counts {l : EvidenceLog} (h : LogCore l) (o d t : Nat) :
    LogCore { l with overflow := o, dropped := d, threshold := t } := h

/-- A record that joins the tail of the staging queue leaves the head to a write in progress. -/
theorem WriterSound.append {l : EvidenceLog} (h : WriterSound l) (x : LogRecord) (n : Option Nat) :
    WriterSound { l with staging := l.staging ++ [x], next := n } := by
  cases hw : l.writer with
  | idle => simp [WriterSound]
  | mark p c ms =>
    simp only [WriterSound, hw] at h ⊢
    cases p <;> exact h
  | record ms =>
    simp only [WriterSound, hw] at h ⊢
    obtain ⟨hlen, hhead⟩ := h
    cases hs : l.staging with
    | nil => simp [hs] at hhead
    | cons r rest =>
      simp only [hs] at hhead
      exact ⟨hlen, hhead⟩

theorem logCore_accept {l : EvidenceLog} {n : Nat} (h : LogCore l) (hn : l.next = some n) (hroom : l.room = true)
    (r : Record) : LogCore (l.accept n r) := by
  obtain ⟨hrecords, hstaging, horder, hnext, hheld, hcap, hwriter⟩ := h
  obtain ⟨hmax, hbelow⟩ := hnext n hn
  simp only [EvidenceLog.room, decide_eq_true_eq] at hroom
  refine ⟨hrecords, ?_, ?_, ?_, hheld, hcap, hwriter.append _ _⟩
  · simp only [EvidenceLog.accept, List.length_append, List.length_singleton]
    omega
  · simp only [EvidenceLog.accept, ← List.append_assoc]
    rw [List.map_append, List.pairwise_append]
    refine ⟨horder, List.pairwise_singleton _ _, ?_⟩
    simp only [List.forall_mem_map, List.map_singleton, List.mem_singleton, forall_eq]
    exact hbelow
  · simp only [EvidenceLog.accept, ← List.append_assoc]
    intro m hm
    split at hm
    · cases hm
    · obtain rfl : n + 1 = m := by simpa using hm
      refine ⟨by omega, fun x hx => ?_⟩
      rcases List.mem_append.mp hx with hx | hx
      · exact (hbelow x hx).trans (Nat.lt_succ_self n)
      · obtain rfl : x = ⟨n, r⟩ := by simpa using hx
        exact Nat.lt_succ_self n

theorem logCore_offerRoutine {l : EvidenceLog} (h : LogCore l) (w : Bool) (r : Record) : LogCore (l.offerRoutine w r) := by
  unfold EvidenceLog.offerRoutine
  split
  next n hn =>
    split
    next hroom => exact logCore_accept h hn (by simp_all) r
    next => exact h.of_counts _ _ _
  next => exact h.of_counts _ _ _

theorem sameLog_offerRoutine (l : EvidenceLog) (w : Bool) (r : Record) : SameLog l (l.offerRoutine w r) := by
  unfold EvidenceLog.offerRoutine
  split
  · split <;> rfl
  · rfl

theorem logCore_offerEvidence {l m : EvidenceLog} {r : Record} (h : LogCore l) (hm : l.offerEvidence r = some m) :
    LogCore m := by
  unfold EvidenceLog.offerEvidence at hm
  split at hm
  next n hn =>
    split at hm
    next hroom => cases hm; exact logCore_accept h hn hroom r
    next => cases hm
  next => cases hm; exact h.of_counts _ _ _

theorem sameLog_offerEvidence {l m : EvidenceLog} {r : Record} (hm : l.offerEvidence r = some m) : SameLog l m := by
  unfold EvidenceLog.offerEvidence at hm
  split at hm
  · split at hm <;> cases hm
    rfl
  · cases hm
    rfl

/-- An origin's hold and LOG after it stages evidence: LOG has taken an offer, or has only counted, and the hold stays within
its cap (R101, R128, R159). -/
theorem stageFrom_cases (l : EvidenceLog) (hold : List Record) {cap : Nat} (hcap : 1 ≤ cap) (r : Record) :
    ((l.stageFrom hold cap r).2 = l ∨ (l.stageFrom hold cap r).2 = l.overflowOne ∨
      l.offerEvidence r = some (l.stageFrom hold cap r).2) ∧
    (hold.length ≤ cap → (l.stageFrom hold cap r).1.length ≤ cap) := by
  unfold EvidenceLog.stageFrom
  split
  · split
    next l' hl' => exact ⟨.inr (.inr hl'), id⟩
    next => exact ⟨.inl rfl, fun _ => hcap⟩
  · split
    next hlt => exact ⟨.inl rfl, fun _ => by simpa using hlt⟩
    next => exact ⟨.inr (.inl rfl), id⟩

theorem logCore_stageFrom {l : EvidenceLog} (h : LogCore l) (hold : List Record) {cap : Nat} (hcap : 1 ≤ cap) (r : Record) :
    LogCore (l.stageFrom hold cap r).2 := by
  rcases (stageFrom_cases l hold hcap r).1 with heq | heq | heq
  · rwa [heq]
  · rw [heq]
    exact h.of_counts _ _ _
  · exact logCore_offerEvidence h heq

theorem sameLog_stageFrom (l : EvidenceLog) (hold : List Record) {cap : Nat} (hcap : 1 ≤ cap) (r : Record) :
    SameLog l (l.stageFrom hold cap r).2 := by
  rcases (stageFrom_cases l hold hcap r).1 with heq | heq | heq
  · rw [heq]; rfl
  · rw [heq]; rfl
  · exact sameLog_offerEvidence heq

/-- What a further offer of waiting evidence does: LOG takes the oldest record, or nothing changes (R141). -/
theorem reoffer_cases (l : EvidenceLog) (hold : List Record) :
    l.reoffer hold = (hold, l) ∨
      ∃ r rest m, hold = r :: rest ∧ l.offerEvidence r = some m ∧ l.reoffer hold = (rest, m) := by
  cases hold with
  | nil => exact .inl rfl
  | cons r rest =>
    cases hoffer : l.offerEvidence r with
    | none => exact .inl (by simp [EvidenceLog.reoffer, hoffer])
    | some m => exact .inr ⟨r, rest, m, rfl, hoffer, by simp [EvidenceLog.reoffer, hoffer]⟩

theorem logCore_reoffer {l : EvidenceLog} (h : LogCore l) (hold : List Record) : LogCore (l.reoffer hold).2 := by
  rcases reoffer_cases l hold with heq | ⟨r, rest, m, -, hoffer, heq⟩ <;> rw [heq]
  · exact h
  · exact logCore_offerEvidence h hoffer

theorem sameLog_reoffer (l : EvidenceLog) (hold : List Record) : SameLog l (l.reoffer hold).2 := by
  rcases reoffer_cases l hold with heq | ⟨r, rest, m, -, hoffer, heq⟩ <;> rw [heq]
  · rfl
  · exact sameLog_offerEvidence hoffer

theorem reoffer_length (l : EvidenceLog) (hold : List Record) : (l.reoffer hold).1.length ≤ hold.length := by
  rcases reoffer_cases l hold with heq | ⟨r, rest, m, rfl, -, heq⟩ <;> rw [heq]
  simp

/-! ## The writer -/

theorem uncollectedUnder_anti (l : EvidenceLog) {a b : Nat} (h : a ≤ b) :
    l.uncollectedUnder b ≤ l.uncollectedUnder a := by
  unfold EvidenceLog.uncollectedUnder
  refine (List.monotone_filter_right _ fun r hr => ?_).length_le
  simp only [Bool.and_eq_true, decide_eq_true_eq] at hr ⊢
  exact ⟨hr.1, by omega⟩

/-- The cap test removes evidence from the head alone, and stops at a record that it lets pass (R144). -/
theorem capTest_fst (u : Nat) (l : List LogRecord) (o : Nat) :
    (capTest u l o).1 = l.dropWhile (fun r => isEvidence r.body.kind && decide (uncollectedMax ≤ u)) := by
  induction l generalizing o with
  | nil => rfl
  | cons r rest ih =>
    unfold capTest
    split <;> simp_all

theorem capTest_head {u o : Nat} {l rest : List LogRecord} {r : LogRecord} (h : (capTest u l o).1 = r :: rest)
    (hev : isEvidence r.body.kind = true) : u < uncollectedMax := by
  induction l generalizing o with
  | nil => cases h
  | cons x xs ih =>
    unfold capTest at h
    split at h
    · exact ih h
    next hpass =>
      obtain ⟨rfl, -⟩ : x = r ∧ xs = rest := by simpa using h
      simpa [hev] using hpass

/-- A full log under its cap holds a record that may give way (R142). -/
theorem makePlace_length {l : EvidenceLog} {mark : Nat} (hlen : l.records.length ≤ logMax)
    (hcap : l.uncollectedUnder mark ≤ uncollectedMax) : (makePlace mark l.records).length < logMax := by
  unfold makePlace
  split
  · assumption
  · have hfull : ∃ r ∈ l.records, givesWay mark r = true := by
      by_contra hnone
      push Not at hnone
      have hall : l.records.filter (fun r => isEvidence r.body.kind && decide (mark < r.number)) = l.records := by
        rw [List.filter_eq_self]
        intro r hr
        have := hnone r hr
        simpa [givesWay] using this
      rw [EvidenceLog.uncollectedUnder, hall] at hcap
      simp only [uncollectedMax, logMax] at *
      omega
    obtain ⟨r, hr, hgives⟩ := hfull
    have := List.length_eraseP_of_mem hr hgives
    simp only [logMax] at *
    omega

theorem makePlace_sublist (mark : Nat) (l : List LogRecord) : (makePlace mark l).Sublist l := by
  unfold makePlace
  split
  · exact List.Sublist.refl _
  · exact List.eraseP_sublist

theorem uncollectedUnder_of_sublist {l m : EvidenceLog} (h : m.records.Sublist l.records) (mark : Nat) :
    m.uncollectedUnder mark ≤ l.uncollectedUnder mark :=
  (h.filter _).length_le

/-- LOG with fewer records and fewer staged ones, and its writer as told. -/
theorem logCore_shrink {l : EvidenceLog} (h : LogCore l) {records staging : List LogRecord} (hr : records.Sublist l.records)
    (hs : staging.Sublist l.staging) {o : Nat} {w : LogWriter} {b : Bool}
    (hw : WriterSound { l with records := records, staging := staging, overflow := o, writer := w, markRequest := b }) :
    LogCore { l with records := records, staging := staging, overflow := o, writer := w, markRequest := b } := by
  obtain ⟨hrecords, hstaging, horder, hnext, hheld, hcap, -⟩ := h
  have hsub := hr.append hs
  refine ⟨hr.length_le.trans hrecords, hs.length_le.trans hstaging, horder.sublist (hsub.map _), fun n hn => ?_, hheld,
    (uncollectedUnder_of_sublist (l := l) hr _).trans hcap, hw⟩
  obtain ⟨hmax, hbelow⟩ := hnext n hn
  exact ⟨hmax, fun r hr => hbelow r (hsub.subset hr)⟩

/-- The idle writer takes a record only where a place and the cap allow it (R142, R144). -/
theorem logCore_startRecord {l : EvidenceLog} (h : LogCore l) (hidle : l.writer = .idle) (hmark : copiedMark l = l.heldMark) :
    LogCore l.startRecord := by
  obtain ⟨hlen, -, -, -, -, hcap, -⟩ := id h
  have hsub : (capTest l.uncollected l.staging l.overflow).1.Sublist l.staging := by
    rw [capTest_fst]
    exact List.dropWhile_sublist _
  unfold EvidenceLog.startRecord
  simp only
  split
  · exact logCore_shrink h (List.Sublist.refl _) hsub (by simp [WriterSound, hidle])
  next hne =>
    refine logCore_shrink h (makePlace_sublist _ _) hsub ⟨makePlace_length hlen (hmark ▸ hcap), ?_⟩
    split
    next hnil => simp_all
    next r rest hcons =>
      intro hev
      have hroom : l.uncollectedUnder (copiedMark l) < uncollectedMax := by
        rw [hmark]
        exact capTest_head hcons hev
      exact (uncollectedUnder_of_sublist (l := l) (makePlace_sublist _ _) _).trans_lt hroom

theorem markAgrees_startRecord {l : EvidenceLog} (hidle : l.writer = .idle) (h : MarkAgrees l) :
    MarkAgrees l.startRecord := by
  simp only [MarkAgrees, hidle] at h
  unfold EvidenceLog.startRecord
  simp only
  split
  · simp only [MarkAgrees, hidle]
    exact h
  · exact h

/-- The staged record that was written becomes the newest of the log (R142, R143). -/
theorem logCore_completeRecord {l : EvidenceLog} {ms : Nat} {r : LogRecord} {rest : List LogRecord} (h : LogCore l)
    (hw : l.writer = .record ms) (hs : l.staging = r :: rest) :
    LogCore { l with records := l.records ++ [r], staging := rest, writer := .idle } := by
  obtain ⟨hrecords, hstaging, horder, hnext, hheld, hcap, hwriter⟩ := h
  simp only [WriterSound, hw, hs] at hwriter
  obtain ⟨hlen, hroom⟩ := hwriter
  have happend : l.records ++ [r] ++ rest = l.records ++ l.staging := by simp [hs]
  refine ⟨by simpa using hlen, ?_, ?_, ?_, hheld, ?_, trivial⟩
  · rw [hs] at hstaging
    exact (Nat.le_succ _).trans hstaging
  · simpa only [happend] using horder
  · simpa only [happend] using hnext
  · have hcopied : copiedMark { l with records := l.records ++ [r], staging := rest, writer := .idle } = copiedMark l := rfl
    rw [hcopied, EvidenceLog.uncollectedUnder, List.filter_append, List.length_append]
    by_cases hev : isEvidence r.body.kind = true
    · have := hroom hev
      rw [EvidenceLog.uncollectedUnder] at this
      have hone := List.length_filter_le (fun r => isEvidence r.body.kind && decide (copiedMark l < r.number)) [r]
      simp only [List.length_singleton] at hone
      omega
    · simpa [hev, EvidenceLog.uncollectedUnder] using hcap

theorem markAgrees_completeRecord {l : EvidenceLog} {ms : Nat} (hw : l.writer = .record ms) (h : MarkAgrees l)
    (records staging : List LogRecord) :
    MarkAgrees { l with records := records, staging := staging, writer := .idle } := by
  simp only [MarkAgrees, hw] at h
  exact h

/-! ## The mark -/

/-- The older place fails its check or is not the one that governs, so a mark write leaves the log copy of the mark
(R146). -/
theorem copiedMark_startMark (l : EvidenceLog) : copiedMark l.startMark = copiedMark l := by
  have hput : copiedMark l.startMark = copiedMark (l.putMark (olderPlace l.countA l.countB) none) := rfl
  rw [hput]
  unfold copiedMark governingMark EvidenceLog.countA EvidenceLog.countB
  cases ha : l.markA with
  | none => cases hb : l.markB <;> simp [olderPlace, EvidenceLog.putMark, hb]
  | some x =>
    cases hb : l.markB with
    | none => simp [olderPlace, EvidenceLog.putMark, ha]
    | some y => by_cases hlt : x.count < y.count <;> simp [olderPlace, EvidenceLog.putMark, ha, hb, hlt]

theorem logCore_startMark {l : EvidenceLog} (h : LogCore l) : LogCore l.startMark := by
  obtain ⟨hrecords, hstaging, horder, hnext, hheld, hcap, -⟩ := h
  have hcopied := copiedMark_startMark l
  have hsame : l.startMark.heldMark = l.heldMark ∧ l.startMark.records = l.records ∧ l.startMark.staging = l.staging ∧
      l.startMark.next = l.next := by
    unfold EvidenceLog.startMark EvidenceLog.putMark
    simp only
    split <;> exact ⟨rfl, rfl, rfl, rfl⟩
  obtain ⟨hmark, hrec, hsta, hnxt⟩ := hsame
  refine ⟨by rwa [hrec], by rwa [hsta], by rwa [hrec, hsta], by rwa [hrec, hsta, hnxt], by rwa [hcopied, hmark], ?_, ?_⟩
  · rw [hcopied]
    unfold EvidenceLog.uncollectedUnder at *
    rwa [hrec]
  · have hwrite : l.startMark.writer = .mark (olderPlace l.countA l.countB)
        ⟨l.heldMark, nextCount l.countA l.countB (olderPlace l.countA l.countB)⟩ 0 := rfl
    simp only [WriterSound, hwrite]
    refine ⟨?_, ?_, by rw [hcopied]; exact hheld, by rw [hmark], fun _ => hmark.symm⟩
    · unfold EvidenceLog.startMark placeOf
      cases olderPlace l.countA l.countB <;> rfl
    · intro n hn
      unfold EvidenceLog.startMark otherCount at hn
      cases hp : olderPlace l.countA l.countB <;> simp only [hp, EvidenceLog.putMark] at hn ⊢
      · simp [nextCount, EvidenceLog.countB, hn]
      · simp [nextCount, EvidenceLog.countA, hn]

/-- A completed mark write governs, because its count is above the other place's (R146). -/
theorem copiedMark_putMark {l : EvidenceLog} {p : Place} {c : MarkCopy}
    (hcount : ∀ n, otherCount l p = some n → n < c.count) : copiedMark (l.putMark p (some c)) = c.mark := by
  cases p
  · cases hb : l.markB with
    | none => simp [copiedMark, EvidenceLog.putMark, governingMark, hb]
    | some y =>
      have hlt : y.count < c.count := hcount y.count (by simp [otherCount, hb])
      simp [copiedMark, EvidenceLog.putMark, governingMark, hb, Nat.not_lt.mpr hlt.le]
  · cases ha : l.markA with
    | none => simp [copiedMark, EvidenceLog.putMark, governingMark, ha]
    | some x =>
      have hlt : x.count < c.count := hcount x.count (by simp [otherCount, ha])
      simp [copiedMark, EvidenceLog.putMark, governingMark, ha, hlt]

theorem putMark_frame (l : EvidenceLog) (p : Place) (x : Option MarkCopy) :
    (l.putMark p x).records = l.records ∧ (l.putMark p x).staging = l.staging ∧ (l.putMark p x).next = l.next ∧
      (l.putMark p x).heldMark = l.heldMark ∧ (l.putMark p x).markRequest = l.markRequest := by
  cases p <;> exact ⟨rfl, rfl, rfl, rfl, rfl⟩

theorem copiedMark_completeMark {l : EvidenceLog} {p : Place} {c : MarkCopy}
    (hcount : ∀ n, otherCount l p = some n → n < c.count) :
    copiedMark { l.putMark p (some c) with writer := .idle } = c.mark := copiedMark_putMark hcount

theorem logSound_completeMark {l : EvidenceLog} (h : LogCore l) (ha : MarkAgrees l) :
    LogCore l.completeMark ∧ MarkAgrees l.completeMark := by
  unfold EvidenceLog.completeMark
  split
  next p c ms hw =>
    split
    · obtain ⟨hrecords, hstaging, horder, hnext, hheld, hcap, hwriter⟩ := h
      simp only [WriterSound, hw] at hwriter
      obtain ⟨-, hcount, hlow, hhigh, hsame⟩ := hwriter
      obtain ⟨hrec, hsta, hnxt, hmark, hreq⟩ := putMark_frame l p (some c)
      have hcopied := copiedMark_completeMark (l := l) hcount
      refine ⟨⟨by rwa [hrec], by rwa [hsta], by rwa [hrec, hsta], by rwa [hrec, hsta, hnxt], by rwa [hcopied, hmark], ?_,
        trivial⟩, ?_⟩
      · rw [hcopied]
        refine le_trans ?_ hcap
        refine le_trans (le_of_eq ?_) (uncollectedUnder_anti l hlow)
        simp [EvidenceLog.uncollectedUnder, hrec]
      · change (l.putMark p (some c)).markRequest = false → copiedMark _ = (l.putMark p (some c)).heldMark
        rw [hcopied, hmark, hreq]
        exact hsame
    · exact ⟨h, ha⟩
  next => exact ⟨h, ha⟩
  next => exact ⟨h, ha⟩

/-- A collect raises the held mark, and asks for a mark write when it does (R145, R146). -/
theorem markAfter_ge (l : EvidenceLog) (n : Nat) : l.heldMark ≤ l.markAfter n := by
  unfold EvidenceLog.markAfter
  split
  · exact le_max_left _ _
  · exact le_rfl

theorem logSound_collect {l : EvidenceLog} (h : LogCore l) (ha : MarkAgrees l) (n : Nat) :
    LogCore (l.collect n) ∧ MarkAgrees (l.collect n) := by
  obtain ⟨hrecords, hstaging, horder, hnext, hheld, hcap, hwriter⟩ := h
  have hge := markAfter_ge l n
  have hheld' : copiedMark l ≤ l.markAfter n := hheld.trans hge
  have hkept : (l.markRequest || decide (l.heldMark < l.markAfter n)) = false →
      l.markRequest = false ∧ l.markAfter n = l.heldMark := by
    simp only [Bool.or_eq_false_iff, decide_eq_false_iff_not]
    exact fun hreq => ⟨hreq.1, by omega⟩
  refine ⟨⟨hrecords, hstaging, horder, hnext, hheld', hcap, ?_⟩, ?_⟩
  · cases hw : l.writer with
    | idle => simp [WriterSound, EvidenceLog.collect, hw]
    | record ms =>
      simp only [WriterSound, hw] at hwriter
      simp only [WriterSound, EvidenceLog.collect, hw]
      exact hwriter
    | mark p c ms =>
      simp only [WriterSound, hw] at hwriter
      obtain ⟨hplace, hcount, hlow, hhigh, hsame⟩ := hwriter
      simp only [WriterSound, EvidenceLog.collect, hw]
      refine ⟨?_, ?_, hlow, hhigh.trans hge, fun hreq => ?_⟩
      · cases p <;> exact hplace
      · cases p <;> exact hcount
      · obtain ⟨hno, hmark⟩ := hkept hreq
        rw [hmark]
        exact hsame hno
  · cases hw : l.writer with
    | mark p c ms => simp [MarkAgrees, EvidenceLog.collect, hw]
    | idle | record ms =>
      simp only [MarkAgrees, hw] at ha
      simp only [MarkAgrees, EvidenceLog.collect, hw]
      intro hreq
      obtain ⟨hno, hmark⟩ := hkept hreq
      rw [hmark]
      exact ha hno

/-! ## The main domain stops and resumes -/

theorem LogCore.lose {l : EvidenceLog} (h : LogCore l) : LogCore { l with writer := .idle, markRequest := false } := by
  obtain ⟨hrecords, hstaging, horder, hnext, hheld, hcap, -⟩ := h
  exact ⟨hrecords, hstaging, horder, hnext, hheld, hcap, trivial⟩

theorem logCore_tickLog {l : EvidenceLog} (h : LogCore l) : LogCore (tickLog l) := by
  obtain ⟨hrecords, hstaging, horder, hnext, hheld, hcap, hwriter⟩ := h
  unfold tickLog
  split
  · exact ⟨hrecords, hstaging, horder, hnext, hheld, hcap, hwriter⟩
  next hw =>
    simp only [WriterSound, hw] at hwriter
    exact ⟨hrecords, hstaging, horder, hnext, hheld, hcap, hwriter⟩
  next p c ms hw =>
    simp only [WriterSound, hw] at hwriter
    refine ⟨hrecords, hstaging, horder, hnext, hheld, hcap, ?_⟩
    cases p <;> exact hwriter

theorem markAgrees_tickLog {l : EvidenceLog} (h : MarkAgrees l) : MarkAgrees (tickLog l) := by
  unfold tickLog
  split
  · exact h
  next hw =>
    simp only [MarkAgrees, hw] at h
    exact h
  next => trivial

theorem number_le_getLast {l : List LogRecord} (hsorted : (l.map (·.number)).Pairwise (· < ·)) {r : LogRecord}
    (hr : r ∈ l) : ∃ last, l.getLast? = some last ∧ r.number ≤ last.number := by
  obtain ⟨init, last, rfl⟩ : ∃ init last, l = init ++ [last] :=
    ⟨l.dropLast, l.getLast (List.ne_nil_of_mem hr), (List.dropLast_append_getLast _).symm⟩
  refine ⟨last, List.getLast?_concat .., ?_⟩
  rw [List.map_append, List.pairwise_append] at hsorted
  obtain ⟨-, -, hlt⟩ := hsorted
  rcases List.mem_append.mp hr with hr | hr
  · exact (hlt _ (List.mem_map_of_mem hr) _ (by simp)).le
  · obtain rfl : r = last := by simpa using hr
    exact le_rfl

/-- The next number of a cold restore lies above every record of the log (R151). -/
theorem coldNext_above {counter : Option Nat} {l : EvidenceLog} {n : Nat} (hsorted : (l.records.map (·.number)).Pairwise (· < ·))
    (h : coldNext counter l = some n) : n ≤ max32 ∧ ∀ r ∈ l.records, r.number < n := by
  have hbound : n ≤ max32 ∧ ∀ last, l.records.getLast? = some last → last.number < n := by
    unfold coldNext at h
    simp only at h
    split at h
    · cases h
    all_goals
      rw [Option.ite_none_right_eq_some] at h
      obtain ⟨hmax, heq⟩ := h
      cases heq
      refine ⟨hmax, fun last hlast => ?_⟩
      simp only [hlast]
      omega
  refine ⟨hbound.1, fun r hr => ?_⟩
  obtain ⟨last, hlast, hle⟩ := number_le_getLast hsorted hr
  exact hle.trans_lt (hbound.2 last hlast)

theorem logCore_coldLog {l : EvidenceLog} (h : LogCore l) (hidle : l.writer = .idle) (counter : Option Nat) :
    LogCore (coldLog counter l) := by
  obtain ⟨hrecords, hstaging, horder, hnext, hheld, hcap, hwriter⟩ := h
  have hsorted : (l.records.map (·.number)).Pairwise (· < ·) := by
    rw [List.map_append, List.pairwise_append] at horder
    exact horder.1
  refine ⟨hrecords, Nat.zero_le _, ?_, ?_, le_rfl, hcap, ?_⟩
  · simpa [coldLog] using hsorted
  · simpa [coldLog] using fun n hn => coldNext_above hsorted hn
  · simp [WriterSound, coldLog, hidle]

end Sys2Proof.Machine

/-! PROOF. What keeps SWITCH safe: the permits, the rules of 5.3, an operation's phases and their ends (05: R94 to R102). -/

namespace Sys2Proof.Machine

/-! ## Safety of the phases apart from the rules of 5.3 -/

/-- The part of SwitchSafe that speaks of phases and pulses alone, and not of the open-demand set. -/
def PhaseSafe (s : State) : Prop :=
  (s.sw.phase.isSome = true ↔ s.sw.state = .opening ∨ s.sw.state = .closing) ∧
    (s.sw.phase = some .pulse → mainGood s = true ∧ s.supmon.brownOut = false ∧ s.pins.cinhn = true) ∧
    (s.sw.phase = some .pulse → s.sw.state = .closing → s.sw.holdOff.running = false) ∧
    (s.sw.phase = some .pulse → ∀ c, s.sw.deadCoil = some c → s.sw.coil ≠ some c → 20 ≤ s.sw.deadMs)

/-- The part of SwitchSafe that speaks of the open-demand set: what the rules of 5.3 leave (R94, R95, R102). -/
def SetSettled (w : Switch) : Prop :=
  (w.state = .closing ∨ w.state = .armed → w.set.isEmpty = true) ∧
    (w.state = .closed → w.set.isEmpty = true ∨ w.fault = true)

theorem switchSafe_iff (s : State) : SwitchSafe s ↔ PhaseSafe s ∧ SetSettled s.sw := by
  constructor
  · rintro ⟨hphase, hset, hpower, hhold, hclosed, hdead⟩
    exact ⟨⟨hphase, hpower, hhold, hdead⟩, hset, hclosed⟩
  · rintro ⟨⟨hphase, hpower, hhold, hdead⟩, hset, hclosed⟩
    exact ⟨hphase, hset, hpower, hhold, hclosed, hdead⟩

/-- Without a pulse nothing is asked of the power, the inhibit, the hold-off or the dead time. -/
theorem phaseSafe_of_not_pulse {s : State} (hphase : s.sw.phase.isSome = true ↔ s.sw.state = .opening ∨ s.sw.state = .closing)
    (h : s.sw.phase ≠ some .pulse) : PhaseSafe s :=
  ⟨hphase, fun hp => absurd hp h, fun hp => absurd hp h, fun hp => absurd hp h⟩

/-- SwitchSafe reads of SWITCH the set, the state, the phase, the fault flag, the dead-time reference and whether the hold-off
runs, and beside SWITCH the supply state, the brown-out flag and the inhibit. -/
theorem SwitchSafe.congr {s t : State} (h : SwitchSafe s) (hset : t.sw.set = s.sw.set) (hstate : t.sw.state = s.sw.state)
    (hphase : t.sw.phase = s.sw.phase) (hfault : t.sw.fault = s.sw.fault) (hcoil : t.sw.deadCoil = s.sw.deadCoil)
    (hdead : s.sw.deadMs ≤ t.sw.deadMs ∨ 20 ≤ t.sw.deadMs) (hhold : t.sw.holdOff.running = s.sw.holdOff.running)
    (hsupply : t.supmon.supply = s.supmon.supply) (hbrown : t.supmon.brownOut = s.supmon.brownOut)
    (hinhibit : t.pins.cinhn = s.pins.cinhn) : SwitchSafe t := by
  have hwcoil : t.sw.coil = s.sw.coil := by simp only [Switch.coil, hstate]
  unfold SwitchSafe mainGood at *
  rw [hset, hstate, hphase, hfault, hcoil, hhold, hsupply, hbrown, hinhibit, hwcoil]
  obtain ⟨h1, h2, h3, h4, h5, h6⟩ := h
  refine ⟨h1, h2, h3, h4, h5, fun hp c hc hne => ?_⟩
  have := h6 hp c hc hne
  omega

/-! ## The phases go on -/

/-- What WAIT_PERMIT and DEAD_TIME do at once: nothing, a wait in DEAD_TIME, or a pulse with every permit and the dead time
met (R96, R97). -/
theorem advance_cases (w : Switch) (ok : Coil → Bool) :
    w.advance ok = w ∨
      (∃ c, w.coil = some c ∧ w.phase.isSome = true ∧ w.advance ok = { w with phase := some .deadTime }) ∨
      ∃ c, w.coil = some c ∧ w.phase.isSome = true ∧ ok c = true ∧ w.deadTimeMet c = true ∧
        w.advance ok = { w with phase := some .pulse, opTimer := .started } := by
  unfold Switch.advance
  split
  · exact .inl rfl
  next c hc =>
    split
    next h =>
      obtain ⟨hphase, hok⟩ := h
      have hsome : w.phase.isSome = true := by rcases hphase with hp | hp <;> simp [hp]
      split
      next hmet => exact .inr (.inr ⟨c, hc, hsome, hok, hmet, rfl⟩)
      next => exact .inr (.inl ⟨c, hc, hsome, rfl⟩)
    next => exact .inl rfl

theorem coil_eq_some_iff (w : Switch) (c : Coil) :
    w.coil = some c ↔ (w.state = .opening ∧ c = .openCoil) ∨ (w.state = .closing ∧ c = .closeCoil) := by
  unfold Switch.coil
  cases w.state <;> cases c <;> simp

/-- A pulse that starts with every permit and the dead time met is safe (R96, R97). -/
theorem phaseSafe_startPulse {s : State} (h : PhaseSafe s) {c : Coil} (hc : s.sw.coil = some c)
    (hsome : s.sw.phase.isSome = true) (hok : permits s c = true) (hmet : s.sw.deadTimeMet c = true) :
    PhaseSafe { s with sw := { s.sw with phase := some .pulse, opTimer := .started } } := by
  simp only [permits, Bool.and_eq_true, Bool.not_eq_true'] at hok
  obtain ⟨⟨⟨-, hinhibit⟩, hgood, hbrown⟩, hcoil⟩ := hok
  refine ⟨⟨fun _ => h.1.mp hsome, fun _ => rfl⟩, fun _ => ⟨hgood, hbrown, hinhibit⟩, fun _ hclosing => ?_, fun _ d hd hne => ?_⟩
  · obtain ⟨hopen, -⟩ | ⟨-, rfl⟩ := (coil_eq_some_iff _ _).mp hc
    · simp_all
    · simpa using hcoil
  · change s.sw.deadCoil = some d at hd
    change s.sw.coil ≠ some d at hne
    change 20 ≤ s.sw.deadMs
    simp only [Switch.deadTimeMet, hd, deadTimeMs, Bool.or_eq_true, decide_eq_true_eq] at hmet
    rcases hmet with rfl | hms
    · exact absurd hc hne
    · exact of_decide_eq_true hms

theorem phaseSafe_settleSwitch {w : Switch} {s : State} (h : PhaseSafe { s with sw := w }) : PhaseSafe (settleSwitch w s) := by
  have hsw : PhaseSafe { s with sw := w.advance (permits { s with sw := w }) } := by
    rcases advance_cases w (permits { s with sw := w }) with heq | ⟨c, hc, hsome, heq⟩ | ⟨c, hc, hsome, hok, hmet, heq⟩ <;>
      rw [heq]
    · exact h
    · exact phaseSafe_of_not_pulse ⟨fun _ => h.1.mp hsome, fun _ => rfl⟩ (by simp)
    · exact phaseSafe_startPulse h hc hsome hok hmet
  exact hsw

@[simp] theorem advance_state (w : Switch) (ok : Coil → Bool) : (w.advance ok).state = w.state := by
  rcases advance_cases w ok with heq | ⟨c, -, -, heq⟩ | ⟨c, -, -, -, -, heq⟩ <;> rw [heq]

@[simp] theorem advance_fault (w : Switch) (ok : Coil → Bool) : (w.advance ok).fault = w.fault := by
  rcases advance_cases w ok with heq | ⟨c, -, -, heq⟩ | ⟨c, -, -, -, -, heq⟩ <;> rw [heq]

@[simp] theorem advance_waiting (w : Switch) (ok : Coil → Bool) : (w.advance ok).waiting = w.waiting := by
  rcases advance_cases w ok with heq | ⟨c, -, -, heq⟩ | ⟨c, -, -, -, -, heq⟩ <;> rw [heq]

theorem switchSafe_settleSwitch {w : Switch} {s : State} (h : SwitchSafe { s with sw := w }) :
    SwitchSafe (settleSwitch w s) := by
  rw [switchSafe_iff] at *
  refine ⟨phaseSafe_settleSwitch h.1, ?_⟩
  simpa only [SetSettled, settleSwitch, advance_state, advance_set, advance_fault] using h.2

/-! ## The rules of 5.3 -/

@[simp] theorem cutPulse_waiting (w : Switch) : w.cutPulse.waiting = w.waiting := by
  unfold Switch.cutPulse
  split <;> rfl

@[simp] theorem rules_waiting (w : Switch) (j : Bool) : (w.rules j).waiting = w.waiting := by
  unfold Switch.rules Switch.abandonClosing Switch.startOpening Switch.startClosing Switch.operate
  split <;> (try split) <;> (try split) <;> simp

/-- What the rules of 5.3 do to the state: an operation starts in WAIT_PERMIT or in DEAD_TIME, or SWITCH rests with its phase
as it was; and in every case the set is settled (R94, R95, R102). -/
theorem rules_cases (w : Switch) (j : Bool) :
    SetSettled (w.rules j) ∧
      (w.rules j = w ∨
        ((w.rules j).state = .opening ∨ (w.rules j).state = .closing) ∧
          ((w.rules j).phase = some .waitPermit ∨ (w.rules j).phase = some .deadTime) ∨
        (w.state = .opened ∨ w.state = .armed) ∧ ((w.rules j).state = .opened ∨ (w.rules j).state = .armed) ∧
          (w.rules j).phase = w.phase) := by
  have hsettled : w.state = .opening ∨ w.state = .unknown → SetSettled w := by
    rintro (h | h) <;> simp [SetSettled, h]
  unfold Switch.rules
  split
  next hs =>
    split
    next => exact ⟨by simp [SetSettled, Switch.startOpening, Switch.operate],
      .inr (.inl ⟨.inl rfl, .inl rfl⟩)⟩
    next hno =>
      refine ⟨?_, .inl rfl⟩
      simp only [SetSettled, hs]
      cases he : w.set.isEmpty <;> simp_all
  next hs =>
    split
    next => exact ⟨by simp [SetSettled, Switch.abandonClosing, Switch.operate], .inr (.inl ⟨.inl rfl, .inr rfl⟩)⟩
    next hno => exact ⟨by simp_all [SetSettled], .inl rfl⟩
  next hs =>
    split
    next he =>
      split
      next => exact ⟨by simp [SetSettled, he], .inr (.inr ⟨.inl hs, .inr rfl, rfl⟩)⟩
      next => exact ⟨by simp [SetSettled, Switch.startClosing, Switch.operate, he], .inr (.inl ⟨.inr rfl, .inl rfl⟩)⟩
    next => exact ⟨by simp [SetSettled, hs], .inl rfl⟩
  next hs =>
    split
    next => exact ⟨by simp [SetSettled], .inr (.inr ⟨.inr hs, .inl rfl, rfl⟩)⟩
    next he =>
      split
      next => exact ⟨by simp_all [SetSettled], .inl rfl⟩
      next => exact ⟨by simp_all [SetSettled, Switch.startClosing, Switch.operate], .inr (.inl ⟨.inr rfl, .inl rfl⟩)⟩
  next hs => exact ⟨hsettled (.inl hs), .inl rfl⟩
  next hs => exact ⟨hsettled (.inr hs), .inl rfl⟩

theorem switchSafe_rules {s : State} (h : PhaseSafe s) (j : Bool) : SwitchSafe { s with sw := s.sw.rules j } := by
  rw [switchSafe_iff]
  obtain ⟨hsettled, hcase⟩ := rules_cases s.sw j
  refine ⟨?_, hsettled⟩
  rcases hcase with heq | ⟨hstate, hphase⟩ | ⟨hbefore, hafter, hphase⟩
  · rw [heq]
    exact h
  · exact phaseSafe_of_not_pulse ⟨fun _ => hstate, fun _ => by rcases hphase with hp | hp <;> simp [hp]⟩
      (by rcases hphase with hp | hp <;> simp [hp])
  · have hnone : s.sw.phase = none := by
      rw [← Option.not_isSome_iff_eq_none, h.1]
      rcases hbefore with hs | hs <;> simp [hs]
    exact phaseSafe_of_not_pulse
      (by rcases hafter with hs | hs <;> simp [hs, hphase, hnone]) (by simp [hphase, hnone])

theorem switchSafe_applyRules {s : State} (h : PhaseSafe s) (j : Bool) : SwitchSafe (applyRules j s) :=
  switchSafe_settleSwitch (switchSafe_rules h j)

theorem switchSafe_demand {s : State} (h : SwitchSafe s) (m : Member) (b : Bool) : SwitchSafe (demand m b s) := by
  unfold demand
  split
  · exact h
  · have hput : PhaseSafe { s with sw := { s.sw with set := s.sw.set.put m b } } := ((switchSafe_iff s).mp h).1
    have hrules := switchSafe_applyRules hput b
    simp only
    split
    · exact hrules
    · exact hrules

theorem switchSafe_remoteRelease {s : State} (h : SwitchSafe s) (close : Bool) : SwitchSafe (remoteRelease close s) := by
  have hphase : PhaseSafe s := ((switchSafe_iff s).mp h).1
  refine switchSafe_applyRules ?_ false
  exact hphase

/-! ## Permits and pulses -/

/-- A withheld permit leaves the set, and no pulse where it cuts (R96, R99). -/
theorem losePermit_cases (w : Switch) (cuts : Bool) :
    w.losePermit cuts = w ∧ (cuts = true → w.phase ≠ some .pulse) ∨
      w.phase.isSome = true ∧ (w.losePermit cuts).phase = some .waitPermit ∧ (w.losePermit cuts).state = w.state ∧
        (w.losePermit cuts).set = w.set ∧ (w.losePermit cuts).fault = w.fault ∧ (w.losePermit cuts).waiting = w.waiting ∧
        (w.losePermit cuts).holdOff = w.holdOff := by
  unfold Switch.losePermit
  split
  next hp => exact .inr ⟨by simp [hp], rfl, rfl, rfl, rfl, rfl, rfl⟩
  next hp =>
    split
    next => exact .inr ⟨by simp [hp], by simp [Switch.cutPulse, hp]⟩
    next hno => exact .inl ⟨rfl, fun hc => absurd hc hno⟩
  next hp _ => exact .inl ⟨rfl, fun _ => by assumption⟩

@[simp] theorem losePermit_waiting (w : Switch) (cuts : Bool) : (w.losePermit cuts).waiting = w.waiting := by
  rcases losePermit_cases w cuts with ⟨heq, -⟩ | ⟨-, -, -, -, -, heq, -⟩ <;> rw [heq]

@[simp] theorem losePermit_holdOff (w : Switch) (cuts : Bool) : (w.losePermit cuts).holdOff = w.holdOff := by
  rcases losePermit_cases w cuts with ⟨heq, -⟩ | ⟨-, -, -, -, -, -, heq⟩ <;> rw [heq]

/-- A withheld permit is safe, whatever it does to the power or the inhibit, if no pulse goes on against it. -/
theorem switchSafe_losePermit {s t : State} {cuts : Bool} (h : SwitchSafe s)
    (hsw : t.sw = { s.sw.losePermit cuts with holdOff := t.sw.holdOff })
    (hkept : s.sw.phase = some .pulse → cuts = false →
      t.sw.holdOff = s.sw.holdOff ∧ mainGood t = mainGood s ∧ t.supmon.brownOut = s.supmon.brownOut ∧
        t.pins.cinhn = s.pins.cinhn) : SwitchSafe t := by
  rw [switchSafe_iff] at *
  obtain ⟨⟨hphase, hpower, hhold, hdead⟩, hset⟩ := h
  rcases losePermit_cases s.sw cuts with ⟨heq, hno⟩ | ⟨hsome, hp, hstate, hsets, hfault, -, -⟩
  · rw [heq] at hsw
    have hst : t.sw.state = s.sw.state := by rw [hsw]
    have hph : t.sw.phase = s.sw.phase := by rw [hsw]
    refine ⟨?_, by rw [hsw]; exact hset⟩
    by_cases hpulse : s.sw.phase = some .pulse
    · have hcuts : cuts = false := by
        cases cuts
        · rfl
        · exact absurd hpulse (hno rfl)
      obtain ⟨hoff, hgood, hbrown, hinhibit⟩ := hkept hpulse hcuts
      have hsame : t.sw = s.sw := by rw [hsw, hoff]
      unfold PhaseSafe
      rw [hsame, hgood, hbrown, hinhibit]
      exact ⟨hphase, hpower, hhold, hdead⟩
    · exact phaseSafe_of_not_pulse (by rw [hst, hph]; exact hphase) (by rw [hph]; exact hpulse)
  · have hst : t.sw.state = s.sw.state := by rw [hsw]; exact hstate
    have hph : t.sw.phase = some .waitPermit := by rw [hsw]; exact hp
    refine ⟨phaseSafe_of_not_pulse ?_ (by simp [hph]), ?_⟩
    · rw [hst, hph]
      exact ⟨fun _ => hphase.mp hsome, fun _ => rfl⟩
    · rw [hsw]
      simp only [SetSettled, hstate, hsets, hfault]
      exact hset

theorem switchSafe_endPulse {s : State} (h : SwitchSafe s) (hp : s.sw.phase = some .pulse) :
    SwitchSafe { s with sw := s.sw.endPulse } := by
  rw [switchSafe_iff] at *
  obtain ⟨⟨hphase, -⟩, hset⟩ := h
  refine ⟨phaseSafe_of_not_pulse ⟨fun _ => hphase.mp (by simp [hp]), fun _ => rfl⟩ ?_, hset⟩
  change (some OpPhase.settle) ≠ some .pulse
  simp

/-- A rest in OPEN, in ARMED with an empty set, or in CLOSED with an empty set or the fault flag, is safe (R100, R101). -/
theorem switchSafe_rest {s : State} (hphase : s.sw.phase = none)
    (hstate : s.sw.state ≠ .opening ∧ s.sw.state ≠ .closing) (hset : SetSettled s.sw) : SwitchSafe s := by
  rw [switchSafe_iff]
  exact ⟨phaseSafe_of_not_pulse (by simp [hphase, hstate]) (by simp [hphase]), hset⟩

theorem phaseSafe_rest {s : State} (hphase : s.sw.phase = none)
    (hstate : s.sw.state ≠ .opening ∧ s.sw.state ≠ .closing) : PhaseSafe s :=
  phaseSafe_of_not_pulse (by simp [hphase, hstate]) (by simp [hphase])

/-- The confirmation starts a closing from ARMED, whose set is empty (R104). -/
theorem switchSafe_startClosing {s : State} (hset : s.sw.set.isEmpty = true) (b : Bool) :
    SwitchSafe (settleSwitch { s.sw.startClosing with confirm := b } s) := by
  refine switchSafe_settleSwitch ((switchSafe_iff _).mpr ⟨phaseSafe_of_not_pulse ?_ ?_, ?_⟩)
  · simp [Switch.startClosing, Switch.operate]
  · simp [Switch.startClosing, Switch.operate]
  · simp [SetSettled, Switch.startClosing, Switch.operate, hset]

theorem switchSafe_startOpening (s : State) : SwitchSafe (settleSwitch s.sw.startOpening s) := by
  refine switchSafe_settleSwitch ((switchSafe_iff _).mpr ⟨phaseSafe_of_not_pulse ?_ ?_, ?_⟩) <;>
    simp [SetSettled, Switch.startOpening, Switch.operate]

/-- The main domain stops: no operation goes on (R112). -/
theorem stop_rests (w : Switch) : w.stop.phase = none ∧ w.stop.state ≠ .opening ∧ w.stop.state ≠ .closing := by
  unfold Switch.stop
  simp only
  split <;> simp_all

theorem setSettled_stop {w : Switch} (h : SetSettled w) : SetSettled w.stop := by
  unfold Switch.stop
  simp only
  split <;> simp_all [SetSettled]

end Sys2Proof.Machine

/-! PROOF. What the operations that the blocks share keep of every invariant: one lemma for one operation (Machine/Ops). -/

namespace Sys2Proof.Machine

/-! ## The invariants by blocks -/

/-- The sequences of TAMPER itself are ordered (R126, R127). -/
def TamperHeld (m : Tamper) : Prop := SequencesOrdered m.ts m.tsLock m.tsClear

/-- The money and the tariffs of the part itself, without the checkpoints (02; 03, 3.1). -/
def MoneyHeld (b : Bill) (t : TariffStore) : Prop :=
  MoneyInRange b.b b.r b.q b.d ∧ t.active.valid = true ∧ SlotSound t.slot ∧ ImageSound t.image ∧
    ∀ w, t.imageWriting = some w → w.copy.valid = true

/-- CODE's list, queue and results, without the checkpoints (R68, R83). -/
def CodeHeld (c : CodeEngine) : Prop :=
  ListSound c.lowMark c.accepted ∧ c.queue.length ≤ codeQueueMax ∧ c.results.meter.length ≤ resultsMax ∧
    c.results.network.length ≤ resultsMax

/-- The holds of waiting evidence (R101, R128, R159). -/
def HoldsBounded (s : State) : Prop :=
  s.tamper.hold.length ≤ tamperHoldMax ∧ s.sw.waiting.length ≤ switchHoldMax ∧ s.cal.hold.length ≤ clockHoldMax

/-- The owed responses (R182). -/
def OwedBounded (x : Ports) : Prop := x.line.meter.owed.length ≤ 2 ∧ x.line.network.owed.length ≤ 2

theorem queuesBounded_iff (s : State) : QueuesBounded s ↔ HoldsBounded s ∧ OwedBounded s.ports := by
  unfold QueuesBounded HoldsBounded OwedBounded
  tauto

theorem SwitchSafe.frame {s t : State} (h : SwitchSafe s) (hsw : t.sw = s.sw)
    (hsupply : t.supmon.supply = s.supmon.supply) (hbrown : t.supmon.brownOut = s.supmon.brownOut)
    (hinhibit : t.pins.cinhn = s.pins.cinhn) : SwitchSafe t := by
  unfold SwitchSafe mainGood at *
  rwa [hsw, hsupply, hbrown, hinhibit]

/-- A locked identity stays in the working record (R187). -/
def LockedKept (s t : State) : Prop := s.identity.working.locked = true → t.identity.working = s.identity.working

theorem LockedKept.of_eq {s t : State} (h : t.identity.working = s.identity.working) : LockedKept s t := fun _ => h

theorem LockedKept.trans {s t u : State} (h : LockedKept s t) (k : LockedKept t u) : LockedKept s u := fun hs => by
  have ht := h hs
  exact (k (by rw [ht]; exact hs)).trans ht

/-- What an operation that the blocks share keeps: the ports, the pins, CODE and SUPMON but for the request flag, and of every
invariant the part it speaks of. -/
structure Keeps (s t : State) : Prop where
  pending : t.pending = s.pending := by simp
  ports : t.ports = s.ports := by simp
  pins : t.pins = s.pins := by simp
  code : t.code = s.code := by simp
  supmon : t.supmon = { s.supmon with request := t.supmon.request } := by simp
  sequences : TamperHeld s.tamper → TamperHeld t.tamper := by intro h; simpa [TamperHeld] using h
  switch : SwitchSafe s → SwitchSafe t := by intro h; exact h.frame (by simp) (by simp) (by simp) (by simp)
  money : MoneyHeld s.bill s.tariff → MoneyHeld t.bill t.tariff := by intro h; simpa [MoneyHeld] using h
  log : LogCore s.log → LogCore t.log := by intro h; simpa using h
  sameLog : SameLog s.log t.log := by simp [SameLog.refl]
  holds : HoldsBounded s → HoldsBounded t := by intro h; simpa [HoldsBounded] using h
  locked : LockedKept s t := by intro _; simp

theorem Keeps.refl (s : State) : Keeps s s where
  switch h := h

theorem Keeps.trans {s t u : State} (h : Keeps s t) (k : Keeps t u) : Keeps s u where
  pending := k.pending.trans h.pending
  ports := k.ports.trans h.ports
  pins := k.pins.trans h.pins
  code := k.code.trans h.code
  supmon := by rw [k.supmon, h.supmon]
  sequences := k.sequences ∘ h.sequences
  switch := k.switch ∘ h.switch
  money := k.money ∘ h.money
  log := k.log ∘ h.log
  sameLog := h.sameLog.trans k.sameLog
  holds := k.holds ∘ h.holds
  locked := h.locked.trans k.locked

theorem Keeps.mainGood {s t : State} (h : Keeps s t) : mainGood t = mainGood s := by
  unfold Machine.mainGood
  rw [h.supmon]

/-- A fold of operations that each keep keeps. -/
theorem Keeps.foldl {f : State → Instr → State} (h : ∀ s i, Keeps s (f s i)) (l : List Instr) (s : State) :
    Keeps s (l.foldl f s) := by
  induction l generalizing s with
  | nil => exact Keeps.refl s
  | cons i l ih => exact (h s i).trans (ih _)

/-! ## ALERT, the handed requests and the checkpoint request -/

theorem keeps_take (i : Instr) (s : State) : Keeps s (s.take i) where

theorem keeps_hand (is : List Instr) (s : State) : Keeps s (s.hand is) where

theorem keeps_present (c : ConditionClass) (b : Bool) (s : State) : Keeps s (present c b s) where

theorem keeps_occurrence (c : LatchedClass) (a b : Bool) (s : State) : Keeps s (occurrence c a b s) where

theorem keeps_requestCheckpoint (s : State) : Keeps s (requestCheckpoint s) where

theorem keeps_evaluateThreshold (s : State) : Keeps s (evaluateThreshold s) where

/-! ## Records -/

-- Keeps reads nothing of ALERT.
example (s : State) : Keeps s { s with alert := Alert.default } where

theorem keeps_stageRoutine (r : Record) (s : State) : Keeps s (stageRoutine r s) where
  log h := logCore_offerRoutine h _ r
  sameLog := sameLog_offerRoutine s.log _ r

theorem keeps_stageTamper (r : Record) (s : State) : Keeps s (stageTamper r s) where
  sequences h := h
  log h := logCore_stageFrom h s.tamper.hold (by decide) r
  sameLog := sameLog_stageFrom s.log s.tamper.hold (by decide) r
  holds h := ⟨(stageFrom_cases s.log s.tamper.hold (by decide) r).2 h.1, h.2⟩

theorem keeps_stageSwitch (r : Record) (s : State) : Keeps s (stageSwitch r s) where
  switch h := h
  log h := logCore_stageFrom h s.sw.waiting (by decide) r
  sameLog := sameLog_stageFrom s.log s.sw.waiting (by decide) r
  holds h := ⟨h.1, (stageFrom_cases s.log s.sw.waiting (by decide) r).2 h.2.1, h.2.2⟩

theorem keeps_stageCalendar (r : Record) (s : State) : Keeps s (stageCalendar r s) where
  log h := logCore_stageFrom h s.cal.hold (by decide) r
  sameLog := sameLog_stageFrom s.log s.cal.hold (by decide) r
  holds h := ⟨h.1, h.2.1, (stageFrom_cases s.log s.cal.hold (by decide) r).2 h.2.2⟩

theorem keeps_stageSupmon (r : Record) (s : State) : Keeps s (stageSupmon r s) := by
  unfold stageSupmon
  cases hoffer : s.log.offerEvidence r with
  | none => exact Keeps.refl s
  | some l =>
    exact { log := fun h => logCore_offerEvidence h hoffer, sameLog := sameLog_offerEvidence hoffer }

theorem keeps_stageEvidence (r : Record) (s : State) : Keeps s (stageEvidence r s) := by
  unfold stageEvidence
  split
  · exact keeps_stageTamper r s
  · exact keeps_stageTamper r s
  · exact keeps_stageSwitch r s
  · exact keeps_stageCalendar r s
  · exact keeps_stageSupmon r s

theorem keeps_reofferFrom (o : Origin) (s : State) : Keeps s (reofferFrom o s) := by
  unfold reofferFrom
  cases o with
  | tamper =>
    exact { sequences := fun h => h, log := fun h => logCore_reoffer h s.tamper.hold,
            sameLog := sameLog_reoffer s.log s.tamper.hold,
            switch := fun h => h, money := fun h => h,
            holds := fun h => ⟨(reoffer_length s.log s.tamper.hold).trans h.1, h.2⟩ }
  | switch =>
    exact { switch := fun h => h, log := fun h => logCore_reoffer h s.sw.waiting,
            sameLog := sameLog_reoffer s.log s.sw.waiting,
            sequences := fun h => h, money := fun h => h,
            holds := fun h => ⟨h.1, (reoffer_length s.log s.sw.waiting).trans h.2.1, h.2.2⟩ }
  | calendar =>
    exact { log := fun h => logCore_reoffer h s.cal.hold, sameLog := sameLog_reoffer s.log s.cal.hold,
            sequences := fun h => h, switch := fun h => h, money := fun h => h,
            holds := fun h => ⟨h.1, h.2.1, (reoffer_length s.log s.cal.hold).trans h.2.2⟩ }

/-! ## SWITCH -/

-- Keeps reads nothing of the requests that wait.
example (s : State) : Keeps s { s with handed := [] } where

@[simp] theorem settleSwitch_waiting (w : Switch) (s : State) : (settleSwitch w s).sw.waiting = w.waiting :=
  advance_waiting _ _

@[simp] theorem applyRules_waiting (j : Bool) (s : State) : (applyRules j s).sw.waiting = s.sw.waiting := by
  simp only [applyRules, settleSwitch_waiting, rules_waiting]

@[simp] theorem demand_waiting (m : Member) (b : Bool) (s : State) : (demand m b s).sw.waiting = s.sw.waiting := by
  unfold demand
  split
  · rfl
  · simp only
    split <;> simp

theorem keeps_settleSwitch {w : Switch} {s : State} (hw : w.waiting = s.sw.waiting)
    (h : SwitchSafe s → SwitchSafe (settleSwitch w s)) : Keeps s (settleSwitch w s) where
  switch := h
  holds h := by simpa [HoldsBounded, hw] using h

theorem keeps_demand (m : Member) (b : Bool) (s : State) : Keeps s (demand m b s) where
  switch h := switchSafe_demand h m b

theorem keeps_believe (p : Position) (n : Nat) (s : State) : Keeps s (believe p n s) := by
  have hmoved : Keeps s { s with sw := { s.sw with position := p } } := { switch := fun h => h }
  unfold believe
  simp only
  split
  · exact hmoved
  · exact hmoved.trans ((keeps_stageRoutine _ _).trans (keeps_occurrence _ _ _ _))

theorem believe_sw (p : Position) (n : Nat) (s : State) : (believe p n s).sw = { s.sw with position := p } := by
  unfold believe
  simp only
  split
  · rfl
  · simp

/-- A relay fault sets the fault flag and the believed position, and changes nothing else of SWITCH but its waiting records
(R101). -/
theorem relayFault_sw (n : Nat) (s : State) :
    (relayFault n s).sw =
      { s.sw with fault := true, position := sensed s, waiting := (relayFault n s).sw.waiting } := by
  simp only [relayFault, believe_sw, occurrence_sw, stageSwitch]

@[simp] theorem relayFault_fault (n : Nat) (s : State) : (relayFault n s).sw.fault = true := by rw [relayFault_sw]

@[simp] theorem relayFault_set (n : Nat) (s : State) : (relayFault n s).sw.set = s.sw.set := by rw [relayFault_sw]

@[simp] theorem relayFault_state (n : Nat) (s : State) : (relayFault n s).sw.state = s.sw.state := by rw [relayFault_sw]

theorem keeps_relayFault (n : Nat) (s : State) : Keeps s (relayFault n s) := by
  have hflag : Keeps s { s with sw := { s.sw with fault := true } } := by
    refine { switch := fun h => ?_ }
    obtain ⟨h1, h2, h3, h4, -, h6⟩ := h
    exact ⟨h1, h2, h3, h4, fun _ => .inr rfl, h6⟩
  exact hflag.trans ((keeps_stageSwitch _ _).trans ((keeps_occurrence _ _ _ _).trans (keeps_believe _ _ _)))

/-! ## BILL -/

-- Keeps reads nothing of the totals.
example (s : State) : Keeps s { s with totals := Totals.zero } where

theorem keeps_reduce (w : Nat) (s : State) : Keeps s (reduce w s) := by
  have hb : Keeps s { s with bill := { s.bill with
      b := max balanceMin (s.bill.b - w),
      floor := s.bill.floor || (decide (w ≠ 0) && decide (max balanceMin (s.bill.b - w) = balanceMin)) } } := by
    refine { money := fun h => ?_ }
    obtain ⟨⟨hlo, hhi, hr, hq, hd⟩, hrest⟩ := h
    exact ⟨⟨le_max_left _ _, max_le (hlo.trans hhi) (by omega), hr, hq, hd⟩, hrest⟩
  unfold reduce
  simp only
  split
  · exact hb.trans (keeps_stageRoutine _ _)
  · exact hb

theorem keeps_setEmergency (e : Emergency) (s : State) : Keeps s { s with bill := { s.bill with emergency := e } } where

theorem keeps_setDeferral (b : Bool) (s : State) : Keeps s { s with bill := { s.bill with deferral := b } } where

theorem keeps_evaluateCredit (s : State) : Keeps s (evaluateCredit s) := by
  unfold evaluateCredit
  simp only
  split
  · exact (keeps_setDeferral _ _).trans ((keeps_demand _ _ _).trans (keeps_present _ _ _))
  · split
    · exact (keeps_setDeferral _ _).trans (keeps_present _ _ _)
    · exact (keeps_setDeferral _ _).trans ((keeps_demand _ _ _).trans (keeps_present _ _ _))

theorem keeps_evaluate (s : State) : Keeps s (evaluate s) :=
  (keeps_setEmergency _ _).trans
    ((keeps_present _ _ _).trans ((keeps_present _ _ _).trans (keeps_evaluateCredit _)))

theorem keeps_accrueMoney (t : Nat) (s : State) : Keeps s (accrueMoney t s) := by
  unfold accrueMoney
  simp only
  split
  · refine Keeps.trans ?_ (keeps_reduce _ _)
    refine { money := fun h => ?_ }
    obtain ⟨⟨hlo, hhi, hr, -, hd⟩, hrest⟩ := h
    exact ⟨⟨hlo, hhi, hr, Nat.mod_lt _ (by decide), hd⟩, hrest⟩
  · exact Keeps.refl s

theorem keeps_accrue (t : Nat) (s : State) : Keeps s (accrue t s) := by
  unfold accrue
  split
  · exact (keeps_accrueMoney t s).trans (keeps_evaluate _)
  · exact Keeps.refl s

theorem keeps_gapAccrue (t : Nat) (s : State) : Keeps s (gapAccrue t s) :=
  (keeps_accrueMoney t s).trans (keeps_evaluate _)

theorem keeps_settleGap (s : State) : Keeps s (settleGap s) := by
  refine Keeps.foldl (fun s i => ?_) _ _
  split
  · exact (keeps_take _ _).trans (keeps_gapAccrue _ _)
  · exact Keeps.refl s

theorem keeps_debit (e : Nat) (s : State) : Keeps s (debit e s) := by
  unfold debit
  refine Keeps.trans ?_ ((keeps_reduce _ _).trans (keeps_evaluate _))
  refine { money := fun h => ?_ }
  obtain ⟨⟨hlo, hhi, -, hq, hd⟩, hrest⟩ := h
  exact ⟨⟨hlo, hhi, Nat.mod_lt _ (by decide), hq, hd⟩, hrest⟩

theorem keeps_drainDebits (s : State) : Keeps s (drainDebits s) := by
  refine (keeps_settleGap s).trans (Keeps.foldl (fun s i => ?_) _ _)
  split
  · exact (keeps_take _ _).trans (keeps_debit _ _)
  · exact Keeps.refl s

theorem keeps_settleAccruals (s : State) : Keeps s (settleAccruals s) := by
  refine Keeps.foldl (fun s i => ?_) _ _
  split
  · exact (keeps_take _ _).trans (keeps_accrue _ _)
  · exact Keeps.refl s

theorem keeps_rebase (t : Nat) (offset : Int) (s : State) : Keeps s (rebase t offset s) := by
  unfold rebase
  refine (keeps_accrueMoney s.cal.t s).trans (Keeps.trans ?_ (keeps_evaluate _))
  exact .mk

/-! ## TAMPER -/

-- Keeps reads nothing of the clock.
example (s : State) : Keeps s { s with cal := { s.cal with t := 0, valid := false } } where

/-- The tamper number moves up, and the lock with it (R126, R127). -/
theorem tamperHeld_numberEvent {mask : BitVec 7} {k : TamperKind} {m : Tamper} (h : TamperHeld m) :
    TamperHeld (numberEvent mask k m) := by
  obtain ⟨hlock, hclear, hmax⟩ := h
  unfold numberEvent TamperHeld SequencesOrdered
  simp only
  split
  · split <;> simp only [max32] at * <;> omega
  · simp only [max32] at *
    omega

theorem keeps_tamperEvent (k : TamperKind) (time : Nat) (valid : Bool) (s : State) :
    Keeps s (tamperEvent k time valid s) := by
  have hnumber : Keeps s { s with tamper := numberEvent s.active.policy.lockout k s.tamper } := by
    refine { sequences := tamperHeld_numberEvent, holds := fun h => ?_ }
    unfold numberEvent
    split <;> exact h
  unfold tamperEvent
  refine hnumber.trans (Keeps.trans (t := ite _ _ _) ?_
    ((keeps_stageTamper _ _).trans ((keeps_occurrence _ _ _ _).trans (keeps_requestCheckpoint _))))
  split
  · exact keeps_demand _ _ _
  · exact Keeps.refl _

/-- A clearance names at most the tamper number (R130, R131). -/
theorem keeps_applyClearance {c : Nat} {s : State} (hc : c ≤ s.tamper.ts) (code : Option CodePart) :
    Keeps s (applyClearance c code s) := by
  have hclear : Keeps s { s with tamper := { s.tamper with tsClear := c } } := by
    refine { sequences := fun h => ?_ }
    obtain ⟨hlock, -, hmax⟩ := h
    exact ⟨hlock, hc, hmax⟩
  exact hclear.trans ((keeps_demand _ _ _).trans (keeps_stageTamper _ _))

theorem le_ts_of_judgeClearance {c : Nat} {s : State} (h : judgeClearance c s = .accepted) : c ≤ s.tamper.ts := by
  unfold judgeClearance at h
  by_contra hlt
  simp [not_le.mp hlt] at h

theorem magneticTimers_frame (b : Bool) (m : Tamper) :
    magneticTimers b m = { m with presence := (magneticTimers b m).presence, release := (magneticTimers b m).release } := by
  unfold magneticTimers
  split <;> rfl

theorem keeps_watchMagnetic (s : State) : Keeps s (watchMagnetic s) := by
  unfold watchMagnetic
  rw [magneticTimers_frame]
  exact { sequences := fun h => h }

theorem keeps_handFlag (b : Bool) (s : State) : Keeps s (handFlag b s) := by
  have hflag : Keeps s { s with tamper := { s.tamper with feFlag := b } } := { sequences := fun h => h }
  exact hflag.trans (keeps_watchMagnetic _)

/-! ## TARIFF -/

-- Keeps reads nothing of the commissioned flag.
example (s : State) : Keeps s { s with tariff := { s.tariff with commissioned := true } } where

theorem moneyHeld_startImageWrite {b : Bill} {t : TariffStore} (h : MoneyHeld b t) : MoneyHeld b t.startImageWrite := by
  obtain ⟨hmoney, hactive, hslot, -, -⟩ := h
  refine ⟨hmoney, hactive, hslot, trivial, fun w hw => ?_⟩
  cases hw
  exact hactive

theorem keeps_requestImage (s : State) : Keeps s (requestImage s) := by
  refine { money := fun h => ?_ }
  unfold requestImage
  simp only
  split
  · exact h
  · exact moneyHeld_startImageWrite h
  · exact moneyHeld_startImageWrite h

theorem keeps_detectOverload (s : State) : Keeps s (detectOverload s) := by
  unfold detectOverload
  split
  · exact Keeps.trans (t := { s with mlr := { s.mlr with overload := 0 } }) {} (keeps_hand _ _)
  · exact Keeps.refl s

theorem keeps_activateMlr (s : State) : Keeps s (activateMlr s) := by
  unfold activateMlr
  split
  · exact (keeps_detectOverload s).trans .mk
  · exact Keeps.refl s

/-- The tariff that the activation test finds due is the ARMED one, which is valid (R57). -/
theorem dueTariff_some {s : State} {t : Tariff} (h : dueTariff s = some t) : ∃ time, s.tariff.slot = .armed t time := by
  unfold dueTariff at h
  split at h
  · rw [Option.ite_none_right_eq_some] at h
    obtain ⟨-, heq⟩ := h
    cases heq
    exact ⟨_, by assumption⟩
  · cases h
  · cases h

theorem keeps_replaceTariff {s : State} {t : Tariff} (h : dueTariff s = some t) : Keeps s (replaceTariff t s) := by
  have hactive : Keeps s { s with tariff := { s.tariff with active := t, slot := .empty, commissioned := true } } := by
    refine { money := fun hm => ?_ }
    obtain ⟨time, hslot⟩ := dueTariff_some h
    obtain ⟨hmoney, -, harmed, himage, hwriting⟩ := hm
    rw [hslot] at harmed
    exact ⟨hmoney, harmed, trivial, himage, hwriting⟩
  unfold replaceTariff
  simp only
  split
  · exact hactive
  · exact hactive.trans (keeps_demand _ _ _)

theorem keeps_activationTest (s : State) : Keeps s (activationTest s) := by
  unfold activationTest
  split
  next t ht =>
    exact (keeps_replaceTariff ht).trans ((keeps_stageRoutine _ _).trans ((keeps_occurrence _ _ _ _).trans
      ((keeps_requestCheckpoint _).trans ((keeps_requestImage _).trans ((keeps_activateMlr _).trans (keeps_evaluate _))))))
  next => exact Keeps.refl s

/-! ## MLR -/

-- Keeps reads nothing of MLR.
example (s : State) : Keeps s { s with mlr := Mlr.restored } where

theorem keeps_detectImbalance (s : State) : Keeps s (detectImbalance s) := by
  unfold detectImbalance
  split
  · exact Keeps.trans (t := { s with mlr := { s.mlr with episode := true, unbalanced := 0, balanced := 0 } }) .mk
      (keeps_hand _ _)
  · exact Keeps.refl s

theorem keeps_endImbalance (s : State) : Keeps s (endImbalance s) := by
  unfold endImbalance
  split
  · exact .mk
  · exact Keeps.refl s

theorem keeps_detectReverse (s : State) : Keeps s (detectReverse s) := by
  unfold detectReverse
  split
  · exact Keeps.trans (t := { s with mlr := { s.mlr with reverseRaised := true, reverse := 0, rearm := 0 } }) .mk
      (keeps_hand _ _)
  · exact Keeps.refl s

theorem keeps_rearmReverse (s : State) : Keeps s (rearmReverse s) := by
  unfold rearmReverse
  split
  · exact .mk
  · exact Keeps.refl s

/-- The energy-while-open fault leaves SWITCH open, or in CLOSED under the fault flag (R109). -/
theorem keeps_detectEnergy (s : State) : Keeps s (detectEnergy s) := by
  unfold detectEnergy
  split
  next hfound =>
    have hrests : s.sw.state ≠ .opening ∧ s.sw.state ≠ .closing := by
      simp only [energyFound, restsOpen, Bool.and_eq_true, Bool.or_eq_true, beq_iff_eq] at hfound
      obtain ⟨⟨hs | hs, -⟩, -⟩ := hfound <;> simp [hs]
    have hstreak : Keeps s { s with sw := { s.sw with streak := 0 } } := { switch := fun h => h }
    have hfault := hstreak.trans (keeps_relayFault 0 _)
    simp only
    split
    · refine hfault.trans (keeps_settleSwitch rfl fun h => switchSafe_settleSwitch ?_)
      have hphase : (relayFault 0 { s with sw := { s.sw with streak := 0 } }).sw.phase = none := by
        rw [← Option.not_isSome_iff_eq_none, h.1, relayFault_sw]
        simpa using hrests
      refine switchSafe_rest hphase (by simp) ?_
      rw [relayFault_sw]
      simp [SetSettled]
    · exact hfault.trans (keeps_settleSwitch rfl switchSafe_settleSwitch)
  next => exact Keeps.refl s

theorem keeps_settleDetectors (s : State) : Keeps s (settleDetectors s) :=
  (keeps_detectImbalance s).trans ((keeps_endImbalance _).trans ((keeps_detectReverse _).trans
    ((keeps_rearmReverse _).trans ((keeps_detectOverload _).trans (keeps_detectEnergy _)))))

theorem keeps_billFills (n e : Nat) (s : State) : Keeps s (billFills n e s) := by
  induction n generalizing s with
  | zero => exact Keeps.refl s
  | succ n ih =>
    have hcount : Keeps s { s with totals := { s.totals with billed := addTotal s.totals.billed e } } := .mk
    exact hcount.trans ((keeps_hand _ _).trans (ih _))

/-- A report moves of SWITCH only the energy-while-open streak (R109). -/
theorem watchEnergy_sw (ep : Nat) (w : Switch) : watchEnergy ep w = { w with streak := (watchEnergy ep w).streak } := by
  unfold watchEnergy
  split
  · rfl
  · split <;> rfl

theorem keeps_realReport (r : Report) (s : State) : Keeps s (realReport r s) := by
  unfold realReport
  refine Keeps.trans ?_ ((keeps_hand _ _).trans ((keeps_present _ _ _).trans (keeps_handFlag _ _)))
  rw [watchEnergy_sw]
  exact { switch := fun h => h }

theorem keeps_judgeReport (r : Report) (s : State) : Keeps s (judgeReport r s) := by
  unfold judgeReport
  split
  next last _ _ =>
    simp only
    split
    · exact Keeps.refl s
    · refine (keeps_billFills (fillsOf (gapOf r.seq last)) (s.mlr.eLast.getD 0) s).trans
        (Keeps.trans (t := ite _ _ _) ?_ (keeps_realReport _ _))
      split
      · exact keeps_stageRoutine _ _
      · exact Keeps.refl _
  next => exact keeps_realReport r s

end Sys2Proof.Machine

/-! PROOF. What every command keeps, block by block, and with it every step (the invariants of 05, 06, 07, 02 and 04). -/

namespace Sys2Proof.Machine

/-! ## From the shared operations to the commands -/

theorem tamperOrdered_iff (s : State) :
    TamperOrdered s ↔ TamperHeld s.tamper ∧ ∀ c ∈ checkpoints s, SequencesOrdered c.ts c.tsLock c.tsClear := Iff.rfl

theorem codesBounded_iff (s : State) :
    CodesBounded s ↔ CodeHeld s.code ∧ ∀ c ∈ checkpoints s, ListSound c.lowMark c.accepted := by
  unfold CodesBounded CodeHeld
  tauto

theorem moneySound_iff (s : State) :
    MoneyAndTariffsSound s ↔
      MoneyHeld s.bill s.tariff ∧ ∀ c ∈ checkpoints s, MoneyInRange c.b c.r c.q c.d ∧ c.active.valid = true := by
  unfold MoneyAndTariffsSound MoneyHeld State.active
  tauto

/-- The queue of commands, and every invariant. -/
structure KeepsInvariants (s t : State) : Prop where
  pending : t.pending = s.pending := by simp
  sequences : TamperOrdered s → TamperOrdered t := by intro h; simpa [TamperOrdered, checkpoints] using h
  codes : CodesBounded s → CodesBounded t := by intro h; simpa [CodesBounded, checkpoints] using h
  queues : QueuesBounded s → QueuesBounded t := by intro h; simpa [QueuesBounded] using h
  switch : SwitchSafe s → SwitchSafe t := by intro h; exact h.frame (by simp) (by simp) (by simp) (by simp)
  money : MoneyAndTariffsSound s → MoneyAndTariffsSound t := by
    intro h; simpa [MoneyAndTariffsSound, checkpoints, State.active] using h
  log : LogSound s → LogSound t := by intro h; simpa [LogSound, mainGood] using h

/-- What a command but the end of a restore keeps: the queue of commands, every invariant, and a locked identity. -/
structure Preserves (s t : State) : Prop extends KeepsInvariants s t where
  locked : LockedKept s t := by intro _; simp

theorem KeepsInvariants.trans {s t u : State} (h : KeepsInvariants s t) (k : KeepsInvariants t u) : KeepsInvariants s u :=
  ⟨k.pending.trans h.pending, k.sequences ∘ h.sequences, k.codes ∘ h.codes, k.queues ∘ h.queues, k.switch ∘ h.switch,
    k.money ∘ h.money, k.log ∘ h.log⟩

theorem Preserves.refl (s : State) : Preserves s s :=
  ⟨⟨rfl, id, id, id, id, id, id⟩, fun _ => rfl⟩

theorem Preserves.trans {s t u : State} (h : Preserves s t) (k : Preserves t u) : Preserves s u :=
  ⟨h.toKeepsInvariants.trans k.toKeepsInvariants, h.locked.trans k.locked⟩

theorem checkpoints_congr {s t : State} (hring : t.supmon.ring = s.supmon.ring) (hwriter : t.supmon.writer = s.supmon.writer) :
    checkpoints t = checkpoints s := by
  unfold checkpoints
  rw [hring, hwriter]

theorem Keeps.preserves {s t : State} (h : Keeps s t) : Preserves s t where
  pending := h.pending
  sequences hs := by
    rw [tamperOrdered_iff, checkpoints_congr (by rw [h.supmon]) (by rw [h.supmon])] at *
    exact ⟨h.sequences hs.1, hs.2⟩
  codes hs := by
    rw [codesBounded_iff, h.code, checkpoints_congr (by rw [h.supmon]) (by rw [h.supmon])] at *
    exact hs
  queues hs := by
    rw [queuesBounded_iff, h.ports] at *
    exact ⟨h.holds hs.1, hs.2⟩
  switch := h.switch
  money hs := by
    rw [moneySound_iff, checkpoints_congr (by rw [h.supmon]) (by rw [h.supmon])] at *
    exact ⟨h.money hs.1, hs.2⟩
  log hs := by
    rw [logSound_iff, h.mainGood] at *
    exact ⟨h.log hs.1, fun hg => h.sameLog.markAgrees (hs.2 hg)⟩
  locked := h.locked

/-- A meaning answers a next state, in which what every command keeps holds on. -/
def Answers (r : Result) (s : State) : Prop := ∃ t, r = .next t ∧ Preserves s t

theorem Preserves.answers {s t : State} (h : Preserves s t) : Answers (.next t) s := ⟨t, rfl, h⟩

theorem Answers.stateOf {r : Result} {s : State} (h : Answers r s) : Preserves s (stateOf s r) := by
  obtain ⟨t, rfl, ht⟩ := h
  exact ht

theorem answers_inMain {i : Instr} {f : State → State} {s : State} (h : ∀ s, mainGood s = true → Preserves s (f s)) :
    Answers (inMain i f s) s := by
  unfold inMain
  split
  next hgood => exact ((keeps_take i s).preserves.trans (h _ hgood)).answers
  next => exact (Preserves.refl s).answers

theorem answers_inMain_keeps {i : Instr} {f : State → State} {s : State} (h : ∀ s, Keeps s (f s)) :
    Answers (inMain i f s) s := answers_inMain fun s _ => (h s).preserves

/-! ## The ports' lines -/

theorem OwedBounded.set {x : Ports} (h : OwedBounded x) (p : Port) {l : Line} (hl : l.owed.length ≤ 2) :
    OwedBounded { x with line := x.line.set p l } := by
  cases p
  · exact ⟨hl, h.2⟩
  · exact ⟨h.1, hl⟩

theorem OwedBounded.get {x : Ports} (h : OwedBounded x) (p : Port) : (x.line.get p).owed.length ≤ 2 := by
  cases p
  · exact h.1
  · exact h.2

/-- A change of a port's line that owes at most two responses, if it owed at most two. -/
theorem preserves_setLine {p : Port} {l : Line} {s : State}
    (h : (s.ports.line.get p).owed.length ≤ 2 → l.owed.length ≤ 2) : Preserves s (setLine p l s) := by
  refine { queues := fun hq => ?_ }
  rw [queuesBounded_iff] at *
  exact ⟨hq.1, hq.2.set p (h (hq.2.get p))⟩

/-- A change of the ports that leaves what is owed, of MCSN's level, and of the handed requests. -/
theorem preserves_ports {s t : State} {x : Ports} {mcsn : Bool} {handed : List Instr}
    (ht : t = { s with ports := x, pins := { s.pins with mcsn := mcsn }, handed := handed })
    (hm : x.line.meter.owed = s.ports.line.meter.owed) (hn : x.line.network.owed = s.ports.line.network.owed) :
    Preserves s t := by
  subst ht
  refine { queues := fun hq => ?_ }
  rw [queuesBounded_iff, OwedBounded] at *
  exact ⟨hq.1, by simp only [hm, hn]; exact hq.2⟩

theorem preserves_respond {p : Port} {s : State} (h : (s.ports.line.get p).owed.length < 2) (r : Reply) :
    Preserves s (respond p r s) :=
  preserves_setLine (l := { s.ports.line.get p with owed := (s.ports.line.get p).owed ++ [responseFrame r] })
    fun _ => by simpa using h

theorem preserves_discardFrame (p : Port) (s : State) : Preserves s (discardFrame p s) :=
  preserves_setLine (l := { s.ports.line.get p with discarded := bump max16 (s.ports.line.get p).discarded }) id

theorem answers_runCommand {i : Instr} {p : Port} {permitted : Bool} {body : State → State × Reply} {s : State}
    (h : ∀ s, mainGood s = true → Preserves s (body s).1 ∧ (body s).1.ports = s.ports) :
    Answers (runCommand i p permitted body s) s := by
  refine answers_inMain fun s hgood => ?_
  split
  next hnone =>
    split
    next =>
      obtain ⟨hbody, hports⟩ := h s hgood
      exact hbody.trans (preserves_respond (by simp [hports, hnone]) _)
    next => exact preserves_respond (by simp [hnone]) _
  next hone => exact preserves_respond (by simp [hone]) _
  next => exact preserves_discardFrame p s

theorem answers_runCommand_keeps {i : Instr} {p : Port} {permitted : Bool} {body : State → State × Reply} {s : State}
    (h : ∀ s, Keeps s (body s).1) : Answers (runCommand i p permitted body s) s :=
  answers_runCommand fun s _ => ⟨(h s).preserves, (h s).ports⟩

theorem answers_read {i : Instr} {p : Port} {permitted : Bool} {f : State → List Byte} {s : State} :
    Answers (runCommand i p permitted (readOnly f) s) s := answers_runCommand_keeps fun s => Keeps.refl s

/-! ## MLR -/

-- No invariant reads the totals.
example (s : State) : Preserves s { s with totals := Totals.zero } where

theorem keeps_countBadReport (s : State) : Keeps s (countBadReport s) := .mk

theorem answers_metrologyFrame (bytes : List Byte) (extra : Option Nat) (s : State) :
    Answers (execMetrologyFrame bytes extra s) s := by
  refine answers_inMain_keeps fun s => ?_
  split
  · exact Keeps.refl s
  · split
    · exact keeps_countBadReport s
    · exact (keeps_settleDetectors s).trans (keeps_judgeReport _ _)

theorem answers_silenceExpiry (s : State) : Answers (execSilenceExpiry s) s := by
  refine answers_inMain_keeps fun s => ?_
  split
  · refine Keeps.trans ?_ ((keeps_present _ _ _).trans (keeps_handFlag _ _))
    exact .mk
  · exact Keeps.refl s

theorem answers_linkCutExpiry (s : State) : Answers (execLinkCutExpiry s) s := by
  refine answers_inMain_keeps fun s => ?_
  split
  · refine Keeps.trans ?_ (keeps_hand _ _)
    exact .mk
  · exact Keeps.refl s

/-! ## BILL and TARIFF -/

-- No invariant reads MLR.
example (s : State) : Preserves s { s with mlr := Mlr.restored } where

theorem keeps_takeEmergency (s : State) : Keeps s (takeEmergency s).1 := by
  unfold takeEmergency
  split
  · exact (keeps_setEmergency _ _).trans (keeps_evaluate _)
  · exact Keeps.refl s
  · exact Keeps.refl s

theorem keeps_setSlot {slot : PendingSlot} {s : State} (h : MoneyHeld s.bill s.tariff → SlotSound slot) :
    Keeps s (setSlot slot s) := by
  refine { money := fun hm => ?_ }
  have hslot := h hm
  obtain ⟨hmoney, hactive, -, himage, hwriting⟩ := hm
  exact ⟨hmoney, hactive, hslot, himage, hwriting⟩

theorem answers_tariffOpen (p : Port) (id : BitVec 16) (s : State) : Answers (execTariffOpen p id s) s := by
  refine answers_runCommand_keeps fun s => keeps_setSlot fun hm => ?_
  obtain ⟨-, hactive, -⟩ := hm
  have hrange := (Tariff.inRange_iff _).mp (inRange_of_valid hactive)
  exact (Tariff.inRange_iff _).mpr ⟨id.isLt, hrange.2⟩

theorem keeps_putTariff (group : Byte) (data : List Byte) (s : State) : Keeps s (putTariff group data s).1 := by
  unfold putTariff
  split
  next t hslot =>
    split
    next t' hput =>
      refine keeps_setSlot fun hm => ?_
      obtain ⟨-, -, hold, -⟩ := hm
      rw [hslot] at hold
      exact inRange_putGroup hput hold
    next => exact Keeps.refl s
  next => exact Keeps.refl s
  next => exact Keeps.refl s

theorem keeps_commitTariff (time : BitVec 32) (s : State) : Keeps s (commitTariff time s).1 := by
  unfold commitTariff
  split
  next t hslot =>
    split
    next => exact Keeps.refl s
    next hpass =>
      refine keeps_setSlot fun hm => ?_
      obtain ⟨-, -, hold, -⟩ := hm
      rw [hslot] at hold
      exact valid_of_passes hold hpass
  next => exact Keeps.refl s
  next => exact Keeps.refl s

theorem answers_readTariff (p : Port) (sel group : Byte) (s : State) : Answers (execReadTariff p sel group s) s := by
  refine answers_runCommand_keeps fun s => ?_
  split <;> exact Keeps.refl s

theorem keeps_completeImage (s : State) : Keeps s { s with tariff := completeImage s.tariff } := by
  refine { money := fun hm => ?_ }
  simp only
  unfold completeImage
  split
  next => exact hm
  next w hw =>
    have hstored : MoneyHeld s.bill { s.tariff with image := .holds w.copy, imageWriting := none } := by
      obtain ⟨hmoney, hactive, hslot, -, hwriting⟩ := hm
      exact ⟨hmoney, hactive, hslot, hwriting w hw, by simp⟩
    simp only
    split
    · exact moneyHeld_startImageWrite hstored
    · exact hstored

/-! ## CAL -/

-- No invariant reads the requests that wait.
example (s : State) : Preserves s { s with handed := [] } where

theorem keeps_tickClock (s : State) : Keeps s (tickClock s) := by
  have htime : Keeps s { s with cal := { s.cal with t := nextTime s.cal.t, phase := 0 } } := .mk
  unfold tickClock
  simp only
  split
  · exact htime.trans (keeps_hand _ _)
  · exact htime

theorem keeps_setClock (t : Nat) (offset : Int) (s : State) : Keeps s (setClock t offset s).1 :=
  (keeps_settleGap s).trans ((keeps_settleAccruals _).trans ((keeps_rebase _ _ _).trans
    ((keeps_stageCalendar _ _).trans (keeps_activationTest _))))

theorem answers_clockSet (p : Port) (t : BitVec 32) (offset : BitVec 16) (s : State) :
    Answers (execClockSet p t offset s) s := by
  refine answers_runCommand_keeps fun s => ?_
  split
  · exact keeps_setClock _ _ s
  · exact Keeps.refl s

/-! ## SWITCH -/

-- No invariant reads the clock.
example (s : State) : Preserves s { s with cal := { s.cal with t := 0, valid := false } } where

theorem answers_demandSetRequest (m : Member) (b : Bool) (s : State) : Answers (execDemandSetRequest m b s) s := by
  unfold execDemandSetRequest
  split
  · exact answers_inMain_keeps fun s => keeps_demand m b s
  · exact (keeps_hand _ s).preserves.answers
  · exact (Preserves.refl s).answers

/-- SWITCH after a change of its own, of a pin or of the brown-out flag. -/
theorem preserves_settleSwitch {s s' : State} {w : Switch} {pins : Pins} {brown : Bool}
    (hs : s' = { s with pins := pins, supmon := { s.supmon with brownOut := brown } }) (hw : w.waiting = s.sw.waiting)
    (h : SwitchSafe s → SwitchSafe { s' with sw := w }) : Preserves s (settleSwitch w s') := by
  subst hs
  exact { queues := fun hq => by simpa [QueuesBounded, hw] using hq,
          switch := fun hs => switchSafe_settleSwitch (h hs) }

/-- While the main domain is stopped no pulse is in progress, so a pin may take any level. -/
theorem preserves_pin_stopped {s t : State} (hstopped : mainGood s = false) (ht : t = { s with pins := t.pins }) :
    Preserves s t := by
  rw [ht]
  refine { switch := fun h => ?_ }
  obtain ⟨hphase, hset, hpower, hhold, hclosed, hdead⟩ := h
  refine ⟨hphase, hset, fun hp => ?_, hhold, hclosed, hdead⟩
  obtain ⟨hgood, -⟩ := hpower hp
  rw [hgood] at hstopped
  cases hstopped

theorem answers_crdyChange (high : Bool) (s : State) : Answers (execCrdyChange high s) s := by
  unfold execCrdyChange pinChange
  refine Preserves.answers ?_
  split
  next =>
    refine preserves_settleSwitch (brown := s.supmon.brownOut) rfl ?_ fun h => ?_
    · split <;> simp
    · split
      · exact h
      · exact switchSafe_losePermit (cuts := false) h rfl fun _ _ => ⟨losePermit_holdOff _ _, rfl, rfl, rfl⟩
  next hstopped => exact preserves_pin_stopped (by simpa using hstopped) rfl

theorem answers_cinhnChange (high : Bool) (s : State) : Answers (execCinhnChange high s) s := by
  unfold execCinhnChange pinChange
  refine Preserves.answers ?_
  split
  next =>
    refine preserves_settleSwitch (brown := s.supmon.brownOut) rfl ?_ fun h => ?_
    · split <;> simp
    · split
      next hhigh =>
        obtain ⟨hphase, hset, hpower, hrest⟩ := h
        refine ⟨hphase, hset, fun hp => ?_, hrest⟩
        obtain ⟨hgood, hbrown, -⟩ := hpower hp
        exact ⟨hgood, hbrown, hhigh⟩
      next => exact switchSafe_losePermit (cuts := true) h rfl fun _ hno => by cases hno
  next hstopped => exact preserves_pin_stopped (by simpa using hstopped) rfl

theorem preserves_startBrownOut (s : State) : Preserves s (startBrownOut s) := by
  refine preserves_settleSwitch (brown := true) rfl ?_ fun h => ?_
  · simp
  · exact switchSafe_losePermit (cuts := true) h rfl fun _ hno => by cases hno

theorem preserves_endBrownOut (s : State) :
    Preserves s (settleSwitch s.sw
      { s with supmon := { s.supmon with brownOut := false }, pins := { s.pins with vmainGood := true } }) := by
  refine preserves_settleSwitch (brown := false) rfl rfl fun h => ?_
  obtain ⟨hphase, hset, hpower, hrest⟩ := h
  refine ⟨hphase, hset, fun hp => ?_, hrest⟩
  obtain ⟨hgood, -, hinhibit⟩ := hpower hp
  exact ⟨hgood, rfl, hinhibit⟩

theorem keeps_deadTimeEnd (s : State) : Keeps s (if deadTimeOver s then settleSwitch s.sw s else s) := by
  split
  · exact keeps_settleSwitch rfl switchSafe_settleSwitch
  · exact Keeps.refl s

theorem phase_of_phaseOver {w : Switch} {ph : OpPhase} {limit : Nat} (h : w.phaseOver ph limit = true) :
    w.phase = some ph := by
  simp only [Switch.phaseOver, Bool.and_eq_true, decide_eq_true_eq] at h
  exact h.1

theorem keeps_pulseEnd (s : State) :
    Keeps s (if s.sw.phaseOver .pulse pulseMs then { s with sw := s.sw.endPulse } else s) := by
  split
  next hover => exact { switch := fun h => switchSafe_endPulse h (phase_of_phaseOver hover), holds := fun h => h }
  next => exact Keeps.refl s

/-- The rules of 5.3 applied to SWITCH in a phase that is safe. -/
theorem keeps_applyRules {s : State} {w : Switch} (j : Bool) (hw : w.waiting = s.sw.waiting)
    (h : SwitchSafe s → PhaseSafe { s with sw := w }) : Keeps s (applyRules j { s with sw := w }) where
  switch hs := switchSafe_applyRules (h hs) j
  holds h := by simpa [HoldsBounded, hw] using h

/-- The end of an operation: SWITCH rests, and the rules of 5.3 see to its set (R100). -/
theorem keeps_verified (s : State) : Keeps s (verified s) := by
  refine (keeps_believe s.sw.target s.sw.attempts s).trans (keeps_applyRules false rfl fun _ => phaseSafe_rest rfl ?_)
  simp only [Switch.rest]
  split <;> simp

/-- After a failed operation CLOSED stands under the fault flag, and ARMED behind a closing, whose set is empty (R101,
R102). -/
theorem keeps_operationFailed (s : State) : Keeps s (operationFailed s) := by
  have hfault := keeps_relayFault s.sw.attempts s
  refine Keeps.trans hfault (keeps_settleSwitch ?_ fun h => switchSafe_settleSwitch ?_)
  · split <;> rfl
  · obtain ⟨-, hset, -⟩ := h
    split
    next hclosing =>
      have hempty := hset (.inl (by simpa using hclosing))
      rw [relayFault_set] at hempty
      exact switchSafe_rest rfl (by simp [Switch.rest]) (by simp [SetSettled, Switch.rest, hempty])
    next =>
      refine switchSafe_rest rfl (by simp [Switch.rest]) ?_
      simp [SetSettled, Switch.rest]

theorem keeps_checkOperation {s : State} (hsettle : s.sw.phase = some .settle) : Keeps s (checkOperation s) := by
  unfold checkOperation
  split
  · exact keeps_verified s
  · split
    · refine keeps_settleSwitch rfl fun h => switchSafe_settleSwitch ?_
      rw [switchSafe_iff] at *
      obtain ⟨⟨hphase, -⟩, hset⟩ := h
      refine ⟨phaseSafe_of_not_pulse ⟨fun _ => hphase.mp (by simp [hsettle]), fun _ => rfl⟩ (by simp), hset⟩
    · exact keeps_operationFailed s

theorem keeps_confirmReconnect (s : State) : Keeps s (confirmReconnect s).1 := by
  unfold confirmReconnect
  split
  next hs => exact keeps_settleSwitch rfl fun h => switchSafe_startClosing (h.2.1 (.inr hs)) false
  all_goals exact Keeps.refl s

theorem keeps_remoteRelease (close : Bool) (s : State) : Keeps s (remoteRelease close s) where
  pending := by simp [remoteRelease]
  ports := by simp [remoteRelease]
  pins := by simp [remoteRelease]
  code := by simp [remoteRelease]
  locked := by simp [LockedKept, remoteRelease]
  supmon := by simp [remoteRelease]
  sequences h := h
  switch h := switchSafe_remoteRelease h close
  money h := h
  log h := h
  sameLog := rfl
  holds h := by simpa [HoldsBounded, remoteRelease] using h

theorem answers_remoteRelease (p : Port) (mode : Byte) (s : State) : Answers (execRemoteRelease p mode s) s := by
  refine answers_runCommand_keeps fun s => ?_
  split
  · exact keeps_remoteRelease false s
  · exact keeps_remoteRelease true s
  · exact Keeps.refl s

theorem answers_holdOffEnd (s : State) : Answers (execHoldOffEnd s) s := by
  refine answers_inMain_keeps fun s => ?_
  split
  · refine keeps_settleSwitch rfl fun h => switchSafe_settleSwitch ?_
    obtain ⟨hphase, hset, hpower, -, hclosed, hdead⟩ := h
    exact ⟨hphase, hset, hpower, fun _ _ => rfl, hclosed, hdead⟩
  · exact Keeps.refl s

theorem answers_overloadSignal (s : State) : Answers (execOverloadSignal s) s :=
  answers_inMain_keeps fun s =>
    Keeps.trans (t := { s with sw := { s.sw with overload := .started } }) { switch := fun h => h } (keeps_demand _ _ _)

theorem answers_overloadRestoreExpiry (s : State) : Answers (execOverloadRestoreExpiry s) s := by
  refine answers_inMain_keeps fun s => ?_
  split
  · exact Keeps.trans (t := { s with sw := { s.sw with overload := { s.sw.overload with running := false } } })
      { switch := fun h => h } (keeps_demand _ _ _)
  · exact Keeps.refl s

/-- The bypass watch moves of SWITCH only its timer and its raised flag (R110). -/
theorem sense_sw (w : Switch) (present : Bool) :
    w.sense present = { w with bypass := (w.sense present).bypass, bypassRaised := (w.sense present).bypassRaised } := by
  unfold Switch.sense
  split
  · split <;> rfl
  · rfl

theorem answers_lsenseChange (present : Bool) (s : State) : Answers (execLsenseChange present s) s := by
  unfold execLsenseChange pinChange
  refine Preserves.answers ?_
  split
  · have hsense : Preserves s { s with pins := { s.pins with lsense := present }, sw := s.sw.sense present } := by
      rw [sense_sw]
      exact { switch := fun h => h }
    exact hsense
  · exact { switch := fun h => h }

theorem answers_bypassTimerExpiry (s : State) : Answers (execBypassTimerExpiry s) s := by
  refine answers_inMain_keeps fun s => ?_
  split
  · exact Keeps.trans (t := { s with sw := { s.sw with bypass := .expired bypassMs, bypassRaised := true } })
      { switch := fun h => h } (keeps_hand _ _)
  · exact Keeps.refl s

end Sys2Proof.Machine

/-! PROOF. What the commands of TAMPER, LOG, CODE, SUPMON and the ports keep (06, 07, 04, 09, 10). -/

namespace Sys2Proof.Machine

/-! ## TAMPER -/

-- No invariant reads the totals of the bands.
example (s : State) : Preserves s { s with totals := { s.totals with band := ⟨0, 0, 0, 0⟩ } } where

/-- The cover watch moves of TAMPER only a debounce timer (R117). -/
theorem keeps_watchCover (i : CoverInput) (reading : CoverPos) (s : State) :
    Keeps s { s with tamper := watchCover i reading s.tamper } :=
  { sequences := fun h => h, holds := fun h => h }

theorem answers_coverInputChange (i : CoverInput) (reading : CoverPos) (s : State) :
    Answers (execCoverInputChange i reading s) s := by
  have hpin : Preserves s { s with pins := { s.pins with covers := s.pins.covers.set i reading } } :=
    { switch := fun h => h }
  refine Preserves.answers ?_
  simp only
  split
  · exact hpin.trans (keeps_watchCover i reading _).preserves
  · exact hpin

theorem keeps_formLatch (i : CoverInput) (l : LatchTime) (s : State) : Keeps s (formLatch i l s) := by
  have hclear : Keeps s { s with tamper := { s.tamper with latch := s.tamper.latch.set i none } } :=
    { sequences := fun h => h }
  exact hclear.trans (keeps_tamperEvent _ _ _ _)

theorem keeps_endDebounce (i : CoverInput) (s : State) : Keeps s (endDebounce i s) := by
  have hfollow : Keeps s { s with tamper :=
      { s.tamper with debounced := s.tamper.debounced.set i (s.pins.covers.get i),
                      debounce := s.tamper.debounce.set i .stopped } } := { sequences := fun h => h }
  unfold endDebounce
  simp only
  split
  · exact hfollow.trans (keeps_formLatch _ _ _)
  · exact hfollow

theorem answers_debounceExpiry (i : CoverInput) (s : State) : Answers (execDebounceExpiry i s) s := by
  refine answers_inMain_keeps fun s => ?_
  split
  · exact keeps_endDebounce i s
  · exact Keeps.refl s

theorem answers_backupCoverSample (s : State) : Answers (execBackupCoverSample s) s := by
  refine Preserves.answers ?_
  split
  · exact Preserves.refl s
  · exact { sequences := fun h => h, queues := fun h => h }

theorem answers_magsChange (high : Bool) (s : State) : Answers (execMagsChange high s) s := by
  have hpin : Preserves s { s with pins := { s.pins with mags := high } } := { switch := fun h => h }
  refine Preserves.answers ?_
  simp only
  split
  · exact hpin.trans (keeps_watchMagnetic _).preserves
  · exact hpin

/-- The condition of the magnetic source and its timers are outside what is kept (R122 to R124). -/
theorem keeps_magnetic (active : Bool) (presence release : Timer) (s : State) :
    Keeps s { s with tamper := { s.tamper with magnetic := active, presence := presence, release := release } } :=
  { sequences := fun h => h }

theorem answers_magneticPresenceExpiry (s : State) : Answers (execMagneticPresenceExpiry s) s := by
  refine answers_inMain_keeps fun s => ?_
  split
  · exact (keeps_tamperEvent _ _ _ s).trans (keeps_magnetic _ _ _ _)
  · exact Keeps.refl s

theorem answers_magneticReleaseExpiry (s : State) : Answers (execMagneticReleaseExpiry s) s := by
  refine answers_inMain_keeps fun s => ?_
  split
  · exact Keeps.trans (t := { s with tamper := { s.tamper with magnetic := false, release := .stopped } })
      { sequences := fun h => h } (keeps_watchMagnetic _)
  · exact Keeps.refl s

theorem keeps_remoteClear (c : Nat) (s : State) : Keeps s (remoteClear c s).1 := by
  unfold remoteClear
  split
  next hjudged =>
    exact (keeps_applyClearance (le_ts_of_judgeClearance hjudged) none).trans (keeps_requestCheckpoint _)
  next => exact Keeps.refl s

/-! ## LOG -/

-- No invariant reads the latches of the covers.
example (s : State) : Preserves s { s with tamper := { s.tamper with latch := ⟨none, none⟩ } } where

/-- A command of LOG's own: the log stays sound. -/
theorem preserves_log {s : State} {l : EvidenceLog}
    (h : LogCore s.log → (mainGood s = true → MarkAgrees s.log) → LogCore l ∧ (mainGood s = true → MarkAgrees l)) :
    Preserves s { s with log := l } := by
  refine { log := fun hs => ?_ }
  rw [logSound_iff] at *
  exact h hs.1 hs.2

theorem answers_recordOffer (r : Record) (s : State) : Answers (execRecordOffer r s) s := by
  refine Preserves.answers ?_
  split
  · split
    · exact ((keeps_take _ s).trans (keeps_stageEvidence r _)).preserves
    · exact (keeps_stageSupmon r s).preserves
  · exact ((keeps_take _ s).trans (keeps_stageRoutine r _)).preserves

theorem answers_logWriteStart (s : State) : Answers (execLogWriteStart s) s := by
  refine answers_inMain fun s hgood => ?_
  split
  next hready =>
    obtain ⟨hidle, hreq⟩ := hready
    refine preserves_log fun hcore hagree => ?_
    have hmark : copiedMark s.log = s.log.heldMark := by
      have := hagree hgood
      simp only [MarkAgrees, hidle] at this
      exact this hreq
    exact ⟨logCore_startRecord hcore hidle hmark, fun _ => markAgrees_startRecord hidle (hagree hgood)⟩
  next => exact Preserves.refl s

theorem preserves_completeRecord (s : State) : Preserves s (completeRecord s) := by
  unfold completeRecord
  split
  next ms r rest hw hs =>
    split
    · have hdone : Preserves s { s with log :=
          { s.log with records := s.log.records ++ [r], staging := rest, writer := .idle } } :=
        preserves_log fun hcore hagree =>
          ⟨logCore_completeRecord hcore hw hs, fun hg => markAgrees_completeRecord hw (hagree hg) _ _⟩
      simp only
      split
      · exact hdone.trans (keeps_evaluateThreshold _).preserves
      · exact hdone
    · exact Preserves.refl s
  next => exact Preserves.refl s

theorem answers_markWriteStart (s : State) : Answers (execMarkWriteStart s) s := by
  refine answers_inMain fun s _ => ?_
  split
  · exact preserves_log fun hcore _ => ⟨logCore_startMark hcore, fun _ => trivial⟩
  · exact Preserves.refl s

theorem answers_markWriteComplete (s : State) : Answers (execMarkWriteComplete s) s :=
  answers_inMain fun _ hgood => preserves_log fun hcore hagree =>
    ⟨(logSound_completeMark hcore (hagree hgood)).1, fun _ => (logSound_completeMark hcore (hagree hgood)).2⟩

theorem answers_evidenceCollect (p : Port) (n : BitVec 32) (s : State) : Answers (execEvidenceCollect p n s) s := by
  refine answers_runCommand fun s hgood => ⟨?_, by simp [collectEvidence]⟩
  have hcollect : Preserves s { s with log := s.log.collect n.toNat } := preserves_log fun hcore hagree =>
    ⟨(logSound_collect hcore (hagree hgood) _).1, fun _ => (logSound_collect hcore (hagree hgood) _).2⟩
  exact hcollect.trans (keeps_evaluateThreshold _).preserves

theorem answers_readLog (p : Port) (first : BitVec 32) (count : Byte) (s : State) :
    Answers (execReadLog p first count s) s := by
  refine answers_runCommand_keeps fun s => ?_
  split <;> exact Keeps.refl s

theorem answers_setEvidenceThreshold (p : Port) (v : Byte) (s : State) : Answers (execSetEvidenceThreshold p v s) s := by
  refine answers_runCommand fun s _ => ?_
  unfold setThreshold
  split
  · have hset : Preserves s { s with log := { s.log with threshold := v.toNat } } := preserves_log fun hcore hagree =>
      ⟨hcore.of_counts _ _ _, hagree⟩
    exact ⟨hset.trans (keeps_evaluateThreshold _).preserves, by simp⟩
  · exact ⟨Preserves.refl s, rfl⟩

/-! ## CODE -/

-- No invariant reads ALERT.
example (s : State) : Preserves s { s with alert := Alert.default } where

/-- A change within CODE: its list, queue and results stay bounded. -/
theorem preserves_code {s : State} {c : CodeEngine} (h : CodeHeld s.code → CodeHeld c) :
    Preserves s { s with code := c } := by
  refine { codes := fun hs => ?_ }
  rw [codesBounded_iff] at *
  exact ⟨h hs.1, hs.2⟩

theorem answers_submitCode (p : Port) (chars : List Byte) (s : State) : Answers (execSubmitCode p chars s) s := by
  refine answers_runCommand fun s _ => ?_
  have hrefl : ∀ r : Reply, Preserves s (s, r).1 ∧ (s, r).1.ports = s.ports := fun _ => ⟨Preserves.refl s, rfl⟩
  unfold submitCode
  split
  next digits _ =>
    unfold intake
    split
    · exact hrefl _
    split
    · exact hrefl _
    split
    · exact hrefl _
    split
    · exact hrefl _
    next hroom =>
      refine ⟨preserves_code fun h => ?_, rfl⟩
      obtain ⟨hlist, -, hresults⟩ := h
      refine ⟨hlist, ?_, hresults⟩
      simp only [List.length_append, List.length_singleton]
      omega
  next => exact hrefl _

theorem preserves_takeEntry (s : State) : Preserves s (takeEntry s) := by
  unfold takeEntry
  split
  next e rest key _ hqueue _ =>
    refine preserves_code fun h => ?_
    obtain ⟨hlist, hlen, hresults⟩ := h
    rw [hqueue, List.length_cons] at hlen
    exact ⟨hlist, by simp only; omega, hresults⟩
  next => exact Preserves.refl s

theorem codeHeld_endDecipher {c : CodeEngine} (h : CodeHeld c) : CodeHeld (endDecipher c) := by
  unfold endDecipher
  split
  · split
    · split <;> exact h
    · exact h
    · exact h
  · exact h

theorem codeHeld_coverFlight {c : CodeEngine} (h : CodeHeld c) : CodeHeld (coverFlight c) := by
  unfold coverFlight
  split
  · split <;> exact h
  · exact h

theorem codeHeld_tickCode {c : CodeEngine} (h : CodeHeld c) : CodeHeld (tickCode c) := by
  unfold tickCode
  split
  · split <;> exact h
  · exact h

/-- DONE keeps at most four results on each port (R85). -/
theorem preserves_finishEntry (p : Port) (r : CodeResult) (s : State) : Preserves s (finishEntry p r s) := by
  unfold finishEntry
  refine Preserves.trans (preserves_code fun h => ?_) (keeps_occurrence _ _ _ _).preserves
  obtain ⟨hlist, hqueue, hmeter, hnetwork⟩ := h
  have hkept : ∀ old : List CodeResult, old.length ≤ resultsMax →
      ((if resultsMax ≤ old.length then old.tail else old) ++ [r]).length ≤ resultsMax := by
    intro old hold
    split <;> simp only [List.length_append, List.length_tail, List.length_singleton, resultsMax] at * <;> omega
  cases p
  · exact ⟨hlist, hqueue, hkept _ hmeter, hnetwork⟩
  · exact ⟨hlist, hqueue, hmeter, hkept _ hnetwork⟩

theorem preserves_completeFlight (s : State) : Preserves s (completeFlight s) := by
  unfold completeFlight
  split
  · split
    · exact preserves_finishEntry _ _ _
    · exact Preserves.refl s
  · exact Preserves.refl s

/-! ### The accepted-code list (R83) -/

theorem mem_insertIssue (n x : Nat) (l : List Nat) : x ∈ insertIssue n l ↔ x = n ∨ x ∈ l := by
  induction l with
  | nil => simp [insertIssue]
  | cons a l ih =>
    unfold insertIssue
    split
    · simp
    · rw [List.mem_cons, ih, List.mem_cons]
      tauto

theorem length_insertIssue (n : Nat) (l : List Nat) : (insertIssue n l).length = l.length + 1 := by
  induction l with
  | nil => rfl
  | cons a l ih =>
    unfold insertIssue
    split <;> simp [ih]

theorem insertIssue_sorted {n : Nat} {l : List Nat} (h : l.Pairwise (· < ·)) (hn : n ∉ l) :
    (insertIssue n l).Pairwise (· < ·) := by
  induction l with
  | nil => simp [insertIssue]
  | cons a l ih =>
    rw [List.pairwise_cons] at h
    obtain ⟨hfirst, hrest⟩ := h
    simp only [List.mem_cons, not_or] at hn
    unfold insertIssue
    split
    next hlt =>
      rw [List.pairwise_cons]
      refine ⟨fun x hx => ?_, List.pairwise_cons.mpr ⟨hfirst, hrest⟩⟩
      rcases List.mem_cons.mp hx with rfl | hx
      · exact hlt
      · exact hlt.trans (hfirst x hx)
    next hge =>
      rw [List.pairwise_cons]
      refine ⟨fun x hx => ?_, ih hrest hn.2⟩
      rcases (mem_insertIssue n x l).mp hx with rfl | hx
      · omega
      · exact hfirst x hx

/-- A new number above the low mark keeps the list; a 33rd entry moves the smallest into the low mark (R83). -/
theorem listSound_acceptIssue {n : Nat} {c : CodeEngine} (h : ListSound c.lowMark c.accepted) (hlow : c.lowMark < n)
    (hnew : n ∉ c.accepted) : ListSound (acceptIssue n c).lowMark (acceptIssue n c).accepted := by
  obtain ⟨hlen, hsorted, habove⟩ := h
  have hlength := length_insertIssue n c.accepted
  have hinsert := insertIssue_sorted hsorted hnew
  have hlows : ∀ x ∈ insertIssue n c.accepted, c.lowMark < x := by
    intro x hx
    rcases (mem_insertIssue n x c.accepted).mp hx with rfl | hx
    · exact hlow
    · exact habove x hx
  unfold acceptIssue
  simp only
  split
  next hfull =>
    obtain ⟨a, l, hcons⟩ : ∃ a l, insertIssue n c.accepted = a :: l := List.exists_cons_of_ne_nil (by
      intro hnil
      simp [hnil] at hlength)
    rw [hcons] at hinsert hlength ⊢
    obtain ⟨hfirst, hrest⟩ := List.pairwise_cons.mp hinsert
    refine ⟨?_, hrest, hfirst⟩
    simp only [List.length_cons, List.tail_cons] at *
    omega
  next hroom => exact ⟨not_lt.mp hroom, hinsert, hlows⟩

/-! ### Judging (R76 to R81) -/

theorem keeps_applyCredit (payload : Nat) (s : State) : Keeps s (applyCredit payload s).state := by
  unfold applyCredit
  simp only
  split
  · exact keeps_evaluate s
  next hfits =>
    refine Keeps.trans ?_ (keeps_evaluate _)
    refine { money := fun h => ?_ }
    obtain ⟨⟨hlo, hhi, hr, hq, hd⟩, hactive, hrest⟩ := h
    have hmax : s.active.charges.maxCredit ≤ moneyMax := by
      obtain ⟨-, -, -, -, -, ⟨-, -, -, -, hmax, -⟩, -⟩ := (Tariff.inRange_iff _).mp (inRange_of_valid hactive)
      exact hmax
    refine ⟨?_, hactive, hrest⟩
    unfold creditBill endEmergency MoneyInRange
    have hmoney : balanceMin ≤ s.bill.b + ((creditAmount payload - recoveryShare payload s : Nat) : Int) ∧
        s.bill.b + ((creditAmount payload - recoveryShare payload s : Nat) : Int) ≤ (moneyMax : Int) := by
      omega
    split <;> exact ⟨hmoney.1, hmoney.2, hr, hq, (Nat.sub_le _ _).trans hd⟩

theorem keeps_applyDebt (payload : Nat) (s : State) : Keeps s (applyDebt payload s).state := by
  unfold applyDebt
  split
  · exact keeps_evaluate s
  next hfits =>
    refine Keeps.trans ?_ (keeps_evaluate _)
    refine { money := fun h => ?_ }
    obtain ⟨⟨hlo, hhi, hr, hq, -⟩, hrest⟩ := h
    exact ⟨⟨hlo, hhi, hr, hq, not_lt.mp hfits⟩, hrest⟩

theorem keeps_applyTenancy (payload : Nat) (s : State) : Keeps s (applyTenancy payload s).state := by
  unfold applyTenancy
  split
  · exact keeps_evaluate s
  next hfits =>
    refine Keeps.trans ?_ (keeps_evaluate _)
    refine { money := fun h => ?_ }
    obtain ⟨⟨-, -, hr, hq, -⟩, hrest⟩ := h
    refine ⟨?_, hrest⟩
    unfold endEmergency MoneyInRange
    have hzero : balanceMin ≤ 0 := by decide
    have hmax : (0 : Int) ≤ (moneyMax : Int) := by decide
    split <;> exact ⟨hzero, hmax, hr, hq, not_lt.mp hfits⟩

theorem keeps_applyClearCode (code : CodePart) (s : State) : Keeps s (applyClearCode code s).state := by
  unfold applyClearCode
  split
  next hjudged => exact keeps_applyClearance (le_ts_of_judgeClearance hjudged) _
  next => exact Keeps.refl s

theorem keeps_applyCode (code : CodePart) (s : State) : Keeps s (applyCode code s).state := by
  unfold applyCode
  split
  · split
    · exact Keeps.refl s
    · exact (keeps_settleGap s).trans (keeps_applyCredit _ _)
  · exact (keeps_settleGap s).trans (keeps_applyDebt _ _)
  · exact keeps_applyClearCode code s
  · exact (keeps_settleGap s).trans (keeps_applyTenancy _ _)
  · exact Keeps.refl s

theorem keeps_judgeFields (fields : Option Deciphered) (s : State) : Keeps s (judgeFields fields s).state := by
  unfold judgeFields
  split
  · exact Keeps.refl s
  · repeat' split
    any_goals exact Keeps.refl s
    exact keeps_applyCode _ s

/-- An accepted code has a number above the low mark that the list does not hold (R76). -/
theorem new_of_accepted {f : Deciphered} {s : State} (h : (judgeFields (some f) s).outcome = .accepted) :
    s.code.lowMark < f.issue ∧ f.issue ∉ s.code.accepted := by
  unfold judgeFields at h
  simp only at h
  split at h
  · cases h
  split at h
  · cases h
  split at h
  · cases h
  next hlow =>
  split at h
  · cases h
  next hnew => exact ⟨not_le.mp hlow, by simpa using hnew⟩

theorem preserves_lockout (r : PerPort Lockout) (s : State) :
    Preserves s { s with code := { s.code with lockout := r } } :=
  preserves_code fun h => h

theorem preserves_refuseEntry (fl : Flight) (fields : Option Deciphered) {j : Judged} {s : State}
    (h : Preserves s j.state) : Preserves s (refuseEntry fl fields j) := by
  unfold refuseEntry
  refine Preserves.trans (t := ite _ _ _) ?_ (preserves_finishEntry _ _ _)
  split
  · exact (h.trans (preserves_lockout _ j.state)).trans (keeps_stageRoutine _ _).preserves
  · exact h

theorem preserves_acceptEntry (fl : Flight) (code : CodePart) {j : Judged} {s : State} (h : Preserves s j.state)
    (hnew : j.state.code.lowMark < code.issue ∧ code.issue ∉ j.state.code.accepted) :
    Preserves s (acceptEntry fl code j) := by
  unfold acceptEntry
  refine h.trans (Preserves.trans (preserves_code fun hc => ?_)
    ((keeps_stageRoutine _ _).trans (keeps_requestCheckpoint _)).preserves)
  obtain ⟨hlist, hqueue, hresults⟩ := hc
  refine ⟨listSound_acceptIssue hlist hnew.1 hnew.2, ?_⟩
  unfold acceptIssue
  simp only
  split <;> exact ⟨hqueue, hresults⟩

theorem preserves_judgeEntry (s : State) : Preserves s (judgeEntry s) := by
  unfold judgeEntry
  split
  next fl _ =>
    split
    next fields _ =>
      have hjudge := keeps_judgeFields fields { s with code :=
          { s.code with lockout := s.code.lockout.set fl.entry.port (s.code.lockout.get fl.entry.port).expire } }
      have hstate := (preserves_lockout _ s).trans hjudge.preserves
      simp only
      split
      next f _ hout =>
        refine preserves_acceptEntry fl _ hstate ?_
        rw [hjudge.code]
        exact new_of_accepted hout
      next => exact preserves_refuseEntry fl _ hstate
    next => exact Preserves.refl s
    next => exact Preserves.refl s
  next => exact Preserves.refl s

theorem answers_setCodeFloor (p : Port) (m : BitVec 32) (s : State) : Answers (execSetCodeFloor p m s) s := by
  refine answers_runCommand fun s _ => ?_
  unfold setFloor
  split
  · exact ⟨Preserves.refl s, rfl⟩
  split
  · exact ⟨Preserves.refl s, rfl⟩
  · refine ⟨(preserves_code fun h => ?_).trans (keeps_requestCheckpoint _).preserves, rfl⟩
    obtain ⟨-, hrest⟩ := h
    exact ⟨⟨Nat.zero_le _, List.Pairwise.nil, by simp⟩, hrest⟩

/-! ## Identity and alerts -/

-- No invariant reads the lockout records.
example (s : State) : Preserves s { s with code := { s.code with lockout := ⟨Lockout.clear, Lockout.clear⟩ } } where

theorem keeps_identity {x : Identity} {s : State}
    (h : s.identity.working.locked = true → x.working = s.identity.working) : Keeps s { s with identity := x } where
  locked := h

@[simp] theorem startWrite_working (i : Identity) : i.startWrite.working = i.working := by
  unfold Identity.startWrite Identity.putPlace
  cases olderPlace i.countA i.countB <;> rfl

@[simp] theorem requestWrite_working (i : Identity) : i.requestWrite.working = i.working := by
  unfold Identity.requestWrite
  split
  · rfl
  · simp

@[simp] theorem completeWrite_working (i : Identity) : i.completeWrite.working = i.working := by
  unfold Identity.completeWrite Identity.putPlace
  split
  · rfl
  · split <;> split <;> simp

theorem keeps_alert (x : Alert) (s : State) : Keeps s { s with alert := x } where

theorem keeps_provision (number : BitVec 48) (key : BitVec 144) (s : State) : Keeps s (provision number key s).1 := by
  unfold provision
  split
  · exact Keeps.refl s
  next hunlocked =>
    split
    · exact Keeps.refl s
    · exact keeps_identity fun hlocked => absurd hlocked hunlocked

theorem keeps_lockIdentity (s : State) : Keeps s (lockIdentity s).1 := by
  unfold lockIdentity
  split
  · exact Keeps.refl s
  next hunlocked =>
    split
    · exact Keeps.refl s
    · exact keeps_identity fun hlocked => absurd hlocked hunlocked

theorem answers_alertAck (p : Port) (cls count : Byte) (s : State) : Answers (execAlertAck p cls count s) s := by
  refine answers_runCommand_keeps fun s => ?_
  split
  · unfold acknowledge
    simp only
    split
    · exact keeps_alert _ s
    · exact Keeps.refl s
  · exact Keeps.refl s

theorem keeps_setLevels (p : Port) (levels : List Byte) (threshold : Byte) (s : State) :
    Keeps s (setLevels p levels threshold s).1 := by
  unfold setLevels
  split
  · exact keeps_alert _ s
  · exact Keeps.refl s

end Sys2Proof.Machine

/-! PROOF. What SUPMON's commands keep: the checkpoints, the stop of the main domain and the end of a restore (09). -/

namespace Sys2Proof.Machine

/-! ## Checkpoints (R172 to R174) -/

theorem mem_checkpoints {s : State} {c : Checkpoint} :
    c ∈ checkpoints s ↔ Slot.valid c ∈ s.supmon.ring ∨ ∃ slot ms, s.supmon.writer = .writing slot c ms := by
  unfold checkpoints
  rw [List.mem_append, List.mem_flatMap]
  refine or_congr ⟨?_, fun h => ⟨_, h, by simp [slotContents]⟩⟩ ?_
  · rintro ⟨x, hx, hc⟩
    cases x with
    | empty => simp [slotContents] at hc
    | invalid => simp [slotContents] at hc
    | valid d =>
      simp only [slotContents, List.mem_singleton] at hc
      rwa [hc]
  · cases s.supmon.writer with
    | idle => simp
    | writing slot d ms => simp [eq_comm]

/-- Every checkpoint of t is one of s, or meets what the invariants ask of one. -/
theorem Preserves.of_checkpoints {s t : State} (hpending : t.pending = s.pending) (hports : t.ports = s.ports)
    (hsw : t.sw = s.sw) (htamper : t.tamper = s.tamper) (hcal : t.cal = s.cal) (hlog : t.log = s.log)
    (hbill : t.bill = s.bill) (htariff : t.tariff = s.tariff) (hpins : t.pins = s.pins)
    (hsupply : t.supmon.supply = s.supmon.supply) (hbrown : t.supmon.brownOut = s.supmon.brownOut)
    (hidentity : t.identity = s.identity) (hcode : CodeHeld s.code → CodeHeld t.code)
    (h : ∀ c ∈ checkpoints t, c ∈ checkpoints s ∨ c = contents s) : Preserves s t where
  pending := hpending
  locked _ := by rw [hidentity]
  sequences hs := by
    rw [tamperOrdered_iff, htamper] at *
    refine ⟨hs.1, fun c hc => ?_⟩
    rcases h c hc with hold | rfl
    · exact hs.2 c hold
    · exact hs.1
  codes hs := by
    rw [codesBounded_iff] at *
    refine ⟨hcode hs.1, fun c hc => ?_⟩
    rcases h c hc with hold | rfl
    · exact hs.2 c hold
    · exact hs.1.1
  queues hs := by
    unfold QueuesBounded at *
    rwa [htamper, hsw, hcal, hports]
  switch hs := hs.frame hsw hsupply hbrown (by rw [hpins])
  money hs := by
    rw [moneySound_iff, hbill, htariff] at *
    refine ⟨hs.1, fun c hc => ?_⟩
    rcases h c hc with hold | rfl
    · exact hs.2 c hold
    · exact ⟨hs.1.1, hs.1.2.1⟩
  log hs := by
    rw [logSound_iff, mainGood, hsupply, hlog] at *
    exact hs

theorem preserves_startCheckpoint (s : State) : Preserves s (startCheckpoint s) := by
  unfold startCheckpoint
  split
  next =>
    refine .of_checkpoints rfl rfl rfl rfl rfl rfl rfl rfl rfl rfl rfl rfl codeHeld_coverFlight fun c hc => ?_
    rcases mem_checkpoints.mp hc with hring | ⟨slot, ms, hwriter⟩
    · rcases List.mem_or_eq_of_mem_set hring with hring | hno
      · exact .inl (mem_checkpoints.mpr (.inl hring))
      · cases hno
    · cases hwriter
      exact .inr rfl
  next => exact Preserves.refl s

theorem preserves_completeCheckpoint (s : State) : Preserves s (completeCheckpoint s) := by
  unfold completeCheckpoint
  split
  next => exact Preserves.refl s
  next slot c ms hwriter =>
    have hdone : Preserves s { s with supmon := { s.supmon with
        ring := s.supmon.ring.set slot (.valid c), writer := .idle, lastDone := some ⟨c.seq, c.time⟩ } } := by
      refine .of_checkpoints rfl rfl rfl rfl rfl rfl rfl rfl rfl rfl rfl rfl id fun d hd => .inl ?_
      rcases mem_checkpoints.mp hd with hring | ⟨_, _, hno⟩
      · rcases List.mem_or_eq_of_mem_set hring with hring | heq
        · exact mem_checkpoints.mpr (.inl hring)
        · cases heq
          exact mem_checkpoints.mpr (.inr ⟨slot, ms, hwriter⟩)
      · cases hno
    exact hdone.trans ((preserves_completeFlight _).trans (preserves_startCheckpoint _))

/-! ## Supply events of a stopped main domain (R164 to R166) -/

/-- While the main domain is stopped no pulse is in progress, so the pins and the supply state may change. -/
theorem preserves_stopped {s t : State} {m : Supmon} {pins : Pins} {handed : List Instr}
    (ht : t = { s with supmon := m, pins := pins, handed := handed }) (hstopped : mainGood s = false)
    (hstays : mainGood t = false) (hring : m.ring = s.supmon.ring) (hwriter : m.writer = s.supmon.writer) :
    Preserves s t := by
  have hsame : checkpoints t = checkpoints s := checkpoints_congr (by rw [ht]; exact hring) (by rw [ht]; exact hwriter)
  subst ht
  refine { sequences := ?_, codes := ?_, queues := id, switch := ?_, money := ?_, log := ?_ }
  · rw [tamperOrdered_iff, tamperOrdered_iff, hsame]
    exact id
  · rw [codesBounded_iff, codesBounded_iff, hsame]
    exact id
  · rintro ⟨hphase, hset, hpower, hhold, hclosed, hdead⟩
    refine ⟨hphase, hset, fun hp => ?_, hhold, hclosed, hdead⟩
    obtain ⟨hgood, -⟩ := hpower hp
    rw [hgood] at hstopped
    cases hstopped
  · rw [moneySound_iff, moneySound_iff, hsame]
    exact id
  · rw [logSound_iff, logSound_iff, hstays]
    exact fun h => ⟨h.1, by simp⟩

theorem mainGood_eq_false {s : State} (h : s.supmon.supply ≠ .mainGood) : mainGood s = false := by
  simpa [mainGood] using h

theorem preserves_vmainRise (s : State) : Preserves s (vmainRise s) := by
  unfold vmainRise
  split
  next h => exact preserves_stopped (handed := s.handed) rfl (mainGood_eq_false (by simp [h])) rfl rfl rfl
  next h => exact preserves_stopped (handed := s.handed) rfl (mainGood_eq_false (by simp [h])) rfl rfl rfl
  next => exact Preserves.refl s

theorem preserves_vmainDrop (s : State) : Preserves s (vmainDrop s) := by
  unfold vmainDrop
  split
  next h => exact preserves_stopped (handed := s.handed) rfl (mainGood_eq_false (by simp [h])) rfl rfl rfl
  all_goals exact Preserves.refl s

theorem preserves_setResetn (high : Bool) (s : State) : Preserves s (setResetn high s) :=
  { switch := fun h => h }

theorem preserves_resetRelease (s : State) : Preserves s (resetRelease s) := by
  unfold resetRelease
  split
  next h =>
    split
    · exact preserves_stopped (handed := s.handed) rfl (mainGood_eq_false (by simp [h])) rfl rfl rfl
    · exact preserves_setResetn true s
  all_goals exact preserves_setResetn true s

theorem preserves_failRetention (s : State) : Preserves s (failRetention s) :=
  { sequences := id, codes := id, switch := fun h => h, money := id, log := id }

theorem answers_vcellLow (s : State) : Answers (execVcellLow s) s := by
  refine Preserves.answers ?_
  split
  · exact preserves_failRetention s
  · exact Preserves.refl s

theorem answers_backupPowerUp (s : State) : Answers (execBackupPowerUp s) s := by
  refine Preserves.answers ?_
  split
  · exact Preserves.refl s
  next hstopped => exact preserves_stopped rfl (by simpa using hstopped) rfl rfl rfl

/-! ## The main domain stops (R165) -/

theorem checkpoints_stop {s : State} {c : Checkpoint} (h : c ∈ checkpoints (loseMain s)) : c ∈ checkpoints s := by
  rw [mem_checkpoints] at *
  simp only [loseMain, Supmon.stop] at h
  split at h
  · exact h.imp_right (by simp)
  · exact h

@[simp] theorem stop_request_supply (m : Supmon) : m.stop.supply = m.supply := by
  unfold Supmon.stop
  split <;> rfl

/-- What the stop of the main domain leaves keeps every invariant, once SUPMON's state says that it is stopped. -/
theorem preserves_loseMain {s t : State} (ht : t = { loseMain s with supmon := t.supmon, tamper := t.tamper })
    (htamper : ∃ m, t.tamper = { s.tamper.stop with lastSample := m, sampling := t.tamper.sampling })
    (hring : t.supmon.ring = (loseMain s).supmon.ring) (hwriter : t.supmon.writer = (loseMain s).supmon.writer)
    (hstopped : mainGood t = false) : Preserves s t := by
  have hcheck : ∀ c ∈ checkpoints t, c ∈ checkpoints s := fun c hc =>
    checkpoints_stop (by rwa [← checkpoints_congr hring hwriter])
  obtain ⟨m, htamper⟩ := htamper
  obtain ⟨hphase, hopening, hclosing⟩ := stop_rests s.sw
  refine { pending := by rw [ht]; rfl, locked := fun _ => by rw [ht]; rfl, sequences := fun h => ?_,
           codes := fun h => ?_, queues := fun _ => ?_, switch := fun h => ?_, money := fun h => ?_, log := fun h => ?_ }
  · rw [tamperOrdered_iff] at *
    exact ⟨by rw [htamper]; exact h.1, fun c hc => h.2 c (hcheck c hc)⟩
  · rw [codesBounded_iff] at *
    refine ⟨?_, fun c hc => h.2 c (hcheck c hc)⟩
    rw [ht]
    exact ⟨h.1.1, Nat.zero_le _, Nat.zero_le _, Nat.zero_le _⟩
  · rw [queuesBounded_iff, HoldsBounded, htamper, ht]
    have hwaiting : s.sw.stop.waiting = [] := by
      unfold Switch.stop
      split <;> rfl
    simp [loseMain, Tamper.stop, hwaiting, OwedBounded, Line.fresh]
  · rw [switchSafe_iff] at h
    have hsw : t.sw = s.sw.stop := by
      rw [ht]
      rfl
    exact switchSafe_rest (by rw [hsw, hphase]) (by rw [hsw]; exact ⟨hopening, hclosing⟩)
      (by rw [hsw]; exact setSettled_stop h.2)
  · rw [moneySound_iff] at *
    refine ⟨?_, fun c hc => h.2 c (hcheck c hc)⟩
    obtain ⟨⟨hmoney, hactive, hslot, himage, -⟩, -⟩ := h
    rw [ht]
    exact ⟨hmoney, hactive, hslot, himage, by simp [loseMain, TariffStore.stop]⟩
  · rw [logSound_iff] at *
    refine ⟨?_, by simp [hstopped]⟩
    rw [ht]
    exact h.1.lose

theorem preserves_stop {st : SupplyState} (hst : st ≠ .mainGood) (o : Option RestoreOrigin) (timer : Timer) (s : State) :
    Preserves s (setSupply st o timer (stopMain s)) :=
  preserves_loseMain rfl ⟨_, rfl⟩ rfl rfl (mainGood_eq_false hst)

/-- The main-fail time is none of what is kept (R165). -/
theorem preserves_storeFailure (s : State) : Preserves s (storeFailure s) := by
  have htime : Preserves s { s with supmon := { s.supmon with failTime := some s.cal.t } } :=
    { sequences := id, codes := id, switch := fun h => h, money := id, log := id }
  exact htime.trans (keeps_stageRoutine _ _).preserves

theorem storeFailure_supply (s : State) : (storeFailure s).supmon.supply = s.supmon.supply := by
  simp [storeFailure]

theorem preserves_setVmain (good : Bool) (s : State) : Preserves s (setVmain good s) := { switch := fun h => h }

theorem preserves_mainFailure (s : State) : Preserves s (mainFailure s) := by
  unfold mainFailure
  split
  next =>
    exact (preserves_setVmain false s).trans ((keeps_drainDebits _).preserves.trans
      ((preserves_storeFailure _).trans (preserves_stop (by simp) _ _ _)))
  next h =>
    have hlost : Preserves s (setVmain false { s with handed := [] }) := { switch := fun h => h }
    refine hlost.trans ?_
    simp only
    split
    · refine (preserves_storeFailure _).trans (preserves_stopped (handed := (storeFailure _).handed) rfl ?_ rfl rfl rfl)
      exact mainGood_eq_false (by rw [storeFailure_supply]; simp [setVmain, h])
    · exact preserves_stopped (handed := []) rfl (mainGood_eq_false (by simp [setVmain, h])) rfl rfl rfl
  next => exact Preserves.refl s

theorem preserves_resetAssert (s : State) : Preserves s (resetAssert s) := by
  unfold resetAssert
  split
  next =>
    exact (preserves_setResetn false s).trans ((keeps_drainDebits _).preserves.trans (preserves_stop (by simp) _ _ _))
  next h => exact preserves_stopped (handed := s.handed) rfl (mainGood_eq_false (by simp [h])) rfl rfl rfl
  next => exact preserves_setResetn false s

end Sys2Proof.Machine

/-! PROOF. What the end of a restore keeps: the state it selects, and each block that resumes (09: R167 to R171). -/

namespace Sys2Proof.Machine

/-! ## The state that a restore selects (R168 to R171) -/

theorem governing_mem {ring : List Slot} {c : Checkpoint} (h : governing ring = some c) : Slot.valid c ∈ ring := by
  have hfold : ∀ (l : List Slot) (best : Option Checkpoint),
      l.foldl
        (fun best x => match x with
          | .valid c =>
            (match best with
              | some b => if b.seq < c.seq then some c else best
              | none => some c)
          | .empty | .invalid => best) best = some c → best = some c ∨ Slot.valid c ∈ l := by
    intro l
    induction l with
    | nil => exact fun best hb => .inl hb
    | cons x l ih =>
      intro best hb
      rw [List.foldl_cons] at hb
      rcases ih _ hb with hx | hl
      · cases x with
        | empty => exact .inl hx
        | invalid => exact .inl hx
        | valid d =>
          have hcases : best = some c ∨ d = c := by
            cases best with
            | none => exact .inr (by simpa using hx)
            | some b =>
              simp only at hx
              split at hx
              · exact .inr (by simpa using hx)
              · exact .inl hx
          exact hcases.imp_right fun h => by simp [h]
      · exact .inr (List.mem_cons_of_mem _ hl)
  exact (hfold ring none h).resolve_left (by simp)

/-- The durable values that a cold restore loads, from a checkpoint that meets what the invariants ask of one. -/
theorem invariants_loadDurable {s : State} {c : Checkpoint} (counter : Option Nat) (hstopped : mainGood s = false)
    (hphase : s.sw.phase = none) (hidle : s.log.writer = .idle)
    (hseq : TamperOrdered s → SequencesOrdered c.ts c.tsLock c.tsClear)
    (hcodes : CodesBounded s → ListSound c.lowMark c.accepted)
    (hmoney : MoneyAndTariffsSound s → MoneyInRange c.b c.r c.q c.d ∧ c.active.valid = true) :
    KeepsInvariants s (loadDurable c counter s) where
  pending := rfl
  sequences h := ⟨hseq h, h.2⟩
  codes h := ⟨hcodes h, h.2⟩
  queues h := h
  switch _ := switchSafe_rest hphase (by simp [loadDurable]) (by simp [loadDurable, SetSettled])
  money h := by
    obtain ⟨hrange, hvalid⟩ := hmoney h
    obtain ⟨-, -, -, himage, hrest⟩ := h
    exact ⟨hrange, hvalid, trivial, himage, hrest⟩
  log h := by
    rw [logSound_iff] at *
    refine ⟨logCore_coldLog h.1 hidle counter, fun hgood => ?_⟩
    have hsame : mainGood (loadDurable c counter s) = mainGood s := rfl
    rw [hsame, hstopped] at hgood
    cases hgood

theorem keeps_coldRecords (lost : Bool) (s : State) : Keeps s (coldRecords lost s) := by
  cases lost
  · exact (keeps_stageSupmon _ _).trans (keeps_stageRoutine _ _)
  · exact (keeps_stageSupmon _ _).trans ((keeps_stageSupmon _ _).trans (keeps_stageRoutine _ _))

theorem valid_fallbackTariff {i : TariffImage} (h : ImageSound i) : (fallbackTariff i).valid = true := by
  cases i with
  | holds t => exact h
  | failing => decide

theorem invariants_selectState {s : State} (kind : ResetCause) (hstopped : mainGood s = false)
    (hphase : s.sw.phase = none) (hidle : s.log.writer = .idle) : KeepsInvariants s (selectState kind s) := by
  unfold selectState
  split
  · exact (keeps_stageRoutine _ s).preserves.toKeepsInvariants
  · exact (keeps_stageRoutine _ s).preserves.toKeepsInvariants
  · split
    next c hc =>
      have hmem : c ∈ checkpoints s := mem_checkpoints.mpr (.inl (governing_mem hc))
      exact (invariants_loadDurable _ hstopped hphase hidle (fun h => h.2 c hmem)
        (fun h => ((codesBounded_iff s).mp h).2 c hmem) (fun h => ((moneySound_iff s).mp h).2 c hmem)).trans
        (keeps_coldRecords _ _).preserves.toKeepsInvariants
    next =>
      have hseq : SequencesOrdered 0 0 0 := ⟨le_rfl, le_rfl, Nat.zero_le _⟩
      have hcodes : ListSound 0 [] := ⟨Nat.zero_le _, List.Pairwise.nil, by simp⟩
      have hmoney : MoneyInRange 0 0 0 0 := ⟨by decide, by decide, by decide, by decide, by decide⟩
      have himage : MoneyAndTariffsSound s → (fallbackTariff s.tariff.image).valid = true := by
        rintro ⟨-, -, -, himage, -⟩
        exact valid_fallbackTariff himage
      exact (invariants_loadDurable (c := emptyCheckpoint (fallbackTariff s.tariff.image)) none hstopped hphase hidle
        (fun _ => hseq) (fun _ => hcodes) (fun h => ⟨hmoney, himage h⟩)).trans (keeps_coldRecords true _).preserves.toKeepsInvariants

/-! ## The blocks resume (R19, R62, R113 to R115, R120, R137) -/

/-- What a block that resumes keeps: everything that a command keeps but the agreement of the log copy with the held mark,
which LOG settles last. -/
structure Resumes (s t : State) : Prop where
  pending : t.pending = s.pending
  sequences : TamperOrdered s → TamperOrdered t
  codes : CodesBounded s → CodesBounded t
  queues : QueuesBounded s → QueuesBounded t
  switch : SwitchSafe s → SwitchSafe t
  money : MoneyAndTariffsSound s → MoneyAndTariffsSound t
  log : LogCore s.log → LogCore t.log
  sameLog : SameLog s.log t.log

theorem Resumes.trans {s t u : State} (h : Resumes s t) (k : Resumes t u) : Resumes s u :=
  ⟨k.pending.trans h.pending, k.sequences ∘ h.sequences, k.codes ∘ h.codes, k.queues ∘ h.queues, k.switch ∘ h.switch,
    k.money ∘ h.money, k.log ∘ h.log, h.sameLog.trans k.sameLog⟩

theorem Keeps.resumes {s t : State} (h : Keeps s t) : Resumes s t :=
  ⟨h.preserves.pending, h.preserves.sequences, h.preserves.codes, h.preserves.queues, h.preserves.switch, h.preserves.money,
    h.log, h.sameLog⟩

/-- With no operation in flight SwitchSafe reads the set, the state and the fault flag alone. -/
theorem SwitchSafe.of_no_phase {s t : State} (h : SwitchSafe s) (hphase : s.sw.phase = none) (hnone : t.sw.phase = none)
    (hset : t.sw.set = s.sw.set) (hstate : t.sw.state = s.sw.state) (hfault : t.sw.fault = s.sw.fault) :
    SwitchSafe t := by
  unfold SwitchSafe at *
  simp only [hset, hstate, hfault, hnone, hphase] at *
  obtain ⟨hnot, hempty, -, -, hclosed, -⟩ := h
  exact ⟨hnot, hempty, by simp, by simp, hclosed, by simp⟩

/-- No operation goes on at the end of a restore, so SUPMON may announce good power. -/
theorem resumes_resumeSupply {s : State} (kind : ResetCause) (b1 b0 : Bool) (hphase : s.sw.phase = none) :
    Resumes s (resumeSupply kind b1 b0 s) := by
  have hgood : Resumes s { s with
      mlr := Mlr.restored,
      supmon := { s.supmon with supply := .mainGood, origin := none, restoreTimer := .stopped, cause := kind,
                                retention := true, lastDone := none },
      ports := { s.ports with baud := baudOf b1 b0, deaf := !s.pins.mcsn },
      pins := { s.pins with baud1 := b1, baud0 := b0 } } :=
    ⟨rfl, id, id, id, fun h => h.of_no_phase hphase hphase rfl rfl rfl, id, id, SameLog.refl _⟩
  exact hgood.trans (keeps_present _ _ _).resumes

theorem keeps_resumeTariff (s : State) : Keeps s { s with tariff := resumeTariff s.tariff } := by
  refine { money := fun h => ?_ }
  simp only
  unfold resumeTariff
  split
  · exact h
  · exact moneyHeld_startImageWrite h

theorem keeps_startBypass (s : State) : Keeps s (startBypass s) := by
  unfold startBypass
  split
  · exact { switch := fun h => h }
  · exact Keeps.refl s

theorem keeps_resolvePosition {s : State} (hphase : s.sw.phase = none) : Keeps s (resolvePosition s) := by
  unfold resolvePosition
  split
  next =>
    split
    · refine (keeps_believe (sensed s) 0 s).trans (keeps_applyRules false rfl fun _ => phaseSafe_rest ?_ ?_)
      · rw [believe_sw]
        exact hphase
      · simp only
        split <;> simp
    · exact keeps_settleSwitch rfl fun _ => switchSafe_startOpening s
  all_goals exact keeps_applyRules (w := s.sw) false rfl fun h => ((switchSafe_iff s).mp h).1

theorem keeps_resumeSwitch {s : State} (hphase : s.sw.phase = none) : Keeps s (resumeSwitch s) := by
  have hresume : Keeps s { s with sw := s.sw.resume } :=
    { switch := fun h => h.of_no_phase hphase hphase rfl rfl rfl, holds := id }
  have hsolve : Keeps { s with sw := s.sw.resume } (resolvePosition { s with sw := s.sw.resume }) :=
    keeps_resolvePosition hphase
  exact hresume.trans (hsolve.trans (keeps_startBypass _))

theorem keeps_takeHeld (held : List Instr) (s : State) : Keeps s (takeHeld held s) := by
  refine Keeps.foldl (fun s i => ?_) held s
  split
  · exact keeps_demand _ _ _
  · exact Keeps.refl s

theorem keeps_formHeldLatch (i : CoverInput) (s : State) : Keeps s (formHeldLatch i s) := by
  unfold formHeldLatch
  split
  · exact keeps_formLatch _ _ _
  · exact Keeps.refl s

theorem keeps_resumeTamper (s : State) : Keeps s (resumeTamper s) := by
  have hresume : Keeps s { s with tamper := s.tamper.resume s.pins } :=
    { sequences := fun h => h, holds := id }
  exact hresume.trans ((keeps_demand _ _ _).trans ((keeps_formHeldLatch _ _).trans (keeps_formHeldLatch _ _)))

theorem keeps_resumeBill (kind : ResetCause) (s : State) : Keeps s (resumeBill kind s) := by
  unfold resumeBill
  split
  · exact keeps_hand _ _
  · exact keeps_hand _ _
  · exact keeps_evaluate s

/-! ## LOG resumes, and the whole restore (R150, R151, R167) -/

theorem SameLog.idle {l m : EvidenceLog} (h : SameLog l m) (hidle : l.writer = .idle) : m.writer = .idle := by
  rw [h]
  exact hidle

theorem SameLog.marks {l m : EvidenceLog} (h : SameLog l m) :
    m.heldMark = l.heldMark ∧ governingMark m = governingMark l := by
  rw [h]
  exact ⟨rfl, rfl⟩

/-- What LOG finds at the end of a restore: no write in progress, and after a cold restore the held mark of the log copy. -/
theorem selectState_log {s : State} (kind : ResetCause) (hidle : s.log.writer = .idle) :
    (selectState kind s).log.writer = .idle ∧
      (kind = .cold → copiedMark (selectState kind s).log = (selectState kind s).log.heldMark) := by
  have hwarm : SameLog s.log (stageRoutine (recordNow .powerRestore s) s).log := (keeps_stageRoutine _ s).sameLog
  have hcold : ∀ (lost : Bool) (c : Checkpoint) (counter : Option Nat),
      SameLog (coldLog counter s.log) (coldRecords lost (loadDurable c counter s)).log := fun lost c counter =>
    (keeps_coldRecords lost (loadDurable c counter s)).sameLog
  have hboth : ∀ (lost : Bool) (c : Checkpoint) (counter : Option Nat),
      (coldRecords lost (loadDurable c counter s)).log.writer = .idle ∧
        copiedMark (coldRecords lost (loadDurable c counter s)).log =
          (coldRecords lost (loadDurable c counter s)).log.heldMark := by
    intro lost c counter
    obtain ⟨hheld, hgoverning⟩ := (hcold lost c counter).marks
    refine ⟨(hcold lost c counter).idle hidle, ?_⟩
    rw [copiedMark, hgoverning, hheld]
    rfl
  unfold selectState
  split
  · exact ⟨hwarm.idle hidle, by simp⟩
  · exact ⟨hwarm.idle hidle, by simp⟩
  · split
    · exact (hboth _ _ _).imp_right fun h _ => h
    · exact (hboth _ _ _).imp_right fun h _ => h

theorem selectState_phase (kind : ResetCause) (s : State) : (selectState kind s).sw.phase = s.sw.phase := by
  have hcold : ∀ (lost : Bool) (s : State), (coldRecords lost s).sw = s.sw := fun lost s => by
    cases lost <;> simp [coldRecords]
  unfold selectState
  split
  · simp
  · simp
  · split <;> rw [hcold] <;> rfl

/-- Whether LOG asks for a mark write at the end of a restore (R150). -/
def resumedRequest (kind : ResetCause) (l : EvidenceLog) : Bool :=
  match kind with
  | .warm | .pin => decide (governingMark l ≠ some l.heldMark)
  | .cold => false

theorem resumeLog_eq (kind : ResetCause) (s : State) :
    resumeLog kind s =
      evaluateThreshold { s with log := { s.log with markRequest := resumedRequest kind s.log } } := by
  cases kind <;> rfl

theorem LogCore.of_request {l : EvidenceLog} (h : LogCore l) (hidle : l.writer = .idle) (b : Bool) :
    LogCore { l with markRequest := b } := by
  obtain ⟨hrecords, hstaging, horder, hnext, hheld, hcap, -⟩ := h
  exact ⟨hrecords, hstaging, horder, hnext, hheld, hcap, by simp [WriterSound, hidle]⟩

/-- A mark write that LOG asks for exactly where the log copy differs from the held mark (R150). -/
theorem markAgrees_resume {l : EvidenceLog} {kind : ResetCause} (hidle : l.writer = .idle)
    (hcold : kind = .cold → copiedMark l = l.heldMark) :
    MarkAgrees { l with markRequest := resumedRequest kind l } := by
  have hheld : governingMark l = some l.heldMark → copiedMark l = l.heldMark := fun h => by simp [copiedMark, h]
  simp only [MarkAgrees, hidle]
  cases kind with
  | cold => exact fun _ => hcold rfl
  | warm => exact fun h => hheld (by simpa [resumedRequest] using h)
  | pin => exact fun h => hheld (by simpa [resumedRequest] using h)

theorem resumeSupply_frame (kind : ResetCause) (b1 b0 : Bool) (s : State) :
    (resumeSupply kind b1 b0 s).sw = s.sw ∧ (resumeSupply kind b1 b0 s).log = s.log := by
  simp [resumeSupply]

@[simp] theorem resume_working (i : Identity) (kind : ResetCause) : (i.resume kind).working = i.working := by
  unfold Identity.resume
  cases kind <;> dsimp only <;> split <;> simp

/-- The blocks resume from a state without an operation and without a write of LOG in progress. -/
theorem resumes_blocks {s : State} (kind : ResetCause) (b1 b0 : Bool) (held : List Instr) (hphase : s.sw.phase = none) :
    Resumes s
      (resumeBill kind (resumeTamper (takeHeld held (resumeSwitch { resumeSupply kind b1 b0 s with
        tariff := resumeTariff (resumeSupply kind b1 b0 s).tariff,
        identity := (resumeSupply kind b1 b0 s).identity.resume kind })))) := by
  have hsupply := resumes_resumeSupply kind b1 b0 hphase
  have hrests : (resumeSupply kind b1 b0 s).sw.phase = none := by rw [(resumeSupply_frame kind b1 b0 s).1, hphase]
  generalize resumeSupply kind b1 b0 s = s1 at *
  have hswitch : Keeps
      { s1 with tariff := resumeTariff s1.tariff, identity := s1.identity.resume kind }
      (resumeSwitch { s1 with tariff := resumeTariff s1.tariff, identity := s1.identity.resume kind }) :=
    keeps_resumeSwitch hrests
  have hown : Keeps s1 { s1 with tariff := resumeTariff s1.tariff, identity := s1.identity.resume kind } :=
    (keeps_resumeTariff s1).trans (keeps_identity fun _ => resume_working _ _)
  exact hsupply.trans ((hown.trans (hswitch.trans ((keeps_takeHeld _ _).trans ((keeps_resumeTamper _).trans
    (keeps_resumeBill _ _))))).resumes)

/-- LOG resumes last, and makes the log copy agree with the held mark (R146, R150). -/
theorem invariants_resumeLog {s s0 s1 : State} {kind : ResetCause} (h : KeepsInvariants s s0) (k : Resumes s0 s1)
    (hidle : s0.log.writer = .idle) (hcold : kind = .cold → copiedMark s0.log = s0.log.heldMark) :
    KeepsInvariants s (resumeLog kind s1) := by
  obtain ⟨hheld, hgoverning⟩ := k.sameLog.marks
  have hagree := markAgrees_resume (kind := kind) (k.sameLog.idle hidle)
    (fun hk => by rw [copiedMark, hgoverning, hheld]; exact hcold hk)
  have hasked : KeepsInvariants s { s1 with log := { s1.log with markRequest := resumedRequest kind s1.log } } :=
    { pending := k.pending.trans h.pending, sequences := k.sequences ∘ h.sequences, codes := k.codes ∘ h.codes,
      queues := k.queues ∘ h.queues, switch := k.switch ∘ h.switch, money := k.money ∘ h.money,
      log := fun hs => (logSound_iff _).mpr ⟨(k.log ((logSound_iff _).mp (h.log hs)).1).of_request (k.sameLog.idle hidle) _, fun _ => hagree⟩ }
  rw [resumeLog_eq]
  exact hasked.trans (keeps_evaluateThreshold _).preserves.toKeepsInvariants

theorem invariants_finishRestore (b1 b0 : Bool) {s : State} (h : mainGood s = false) :
    KeepsInvariants s (finishRestore b1 b0 s) := by
  have hlost : mainGood (loseMain s) = false := by simpa [mainGood, loseMain] using h
  have hphase : (loseMain s).sw.phase = none := (stop_rests s.sw).1
  have hselect := (preserves_loseMain rfl ⟨_, rfl⟩ rfl rfl hlost).toKeepsInvariants.trans
    (invariants_selectState (restoreKind s) hlost hphase rfl)
  obtain ⟨hidle, hcold⟩ := selectState_log (s := loseMain s) (restoreKind s) rfl
  have hrests := (selectState_phase (restoreKind s) (loseMain s)).trans hphase
  exact (invariants_resumeLog hselect (resumes_blocks (restoreKind s) b1 b0 s.handed hrests) hidle hcold).trans
    (keeps_occurrence _ _ _ _).preserves.toKeepsInvariants

/-- The end of a restore keeps the queue of commands and every invariant; the identity it may load from its image (R185). -/
theorem invariants_restoreEnd (b1 b0 : Bool) (s : State) :
    ∃ t, execRestoreEnd b1 b0 s = .next t ∧ KeepsInvariants s t := by
  refine ⟨_, rfl, ?_⟩
  split
  next hdue => exact invariants_finishRestore b1 b0 (mainGood_eq_false (by simp [hdue.1]))
  next => exact (Preserves.refl s).toKeepsInvariants

end Sys2Proof.Machine

/-! PROOF. What the ports and the passing of time keep, and with every command the invariants of every step. -/

namespace Sys2Proof.Machine

/-! ## The lines of the ports (R178 to R182) -/

theorem Answers.after {r : Result} {s t : State} (h : Preserves s t) (k : Answers r t) : Answers r s := by
  obtain ⟨u, hr, hu⟩ := k
  exact ⟨u, hr, h.trans hu⟩

theorem byte_owed (l : Line) (b : Byte) : (l.byte b).1.owed = l.owed := by
  unfold Line.byte
  split
  · split <;> rfl
  · split <;> rfl
  · simp only
    split <;> rfl

theorem preserves_timeBytes (p : Port) (s : State) : Preserves s (timeBytes p s) := by
  cases p with
  | meter => exact Preserves.refl s
  | network => exact preserves_ports (handed := s.handed) (mcsn := s.pins.mcsn) rfl rfl rfl

theorem preserves_hear (p : Port) (b : Byte) (s : State) : Preserves s (hear p b s) := by
  have hline : Preserves s (timeBytes p (setLine p ((s.ports.line.get p).byte b).1 s)) :=
    (preserves_setLine (by rw [byte_owed]; exact id)).trans (preserves_timeBytes _ _)
  unfold hear
  simp only
  split
  · exact hline.trans (keeps_hand _ _).preserves
  · exact hline

theorem preserves_setStale (stale : Bool) (s : State) : Preserves s (setStale stale s) :=
  preserves_ports (handed := s.handed) (mcsn := s.pins.mcsn) rfl rfl rfl

theorem preserves_releaseMsdo (s : State) : Preserves s (releaseMsdo s) :=
  preserves_ports (handed := s.handed) (mcsn := s.pins.mcsn) rfl rfl rfl

theorem preserves_driveMsdo (s : State) : Preserves s (driveMsdo s) :=
  preserves_ports (handed := s.handed) (mcsn := s.pins.mcsn) rfl rfl rfl

theorem current_owed_length (l : Line) : l.current.owed.length ≤ l.owed.length := by
  unfold Line.current
  split
  · simp [Line.sentFirst]
  · exact le_rfl

theorem clocked_owed (l : Line) : l.clocked.owed = l.current.owed := by
  unfold Line.clocked
  split <;> rfl

theorem preserves_clockOut (s : State) : Preserves s (clockOut s) := by
  refine (preserves_driveMsdo s).trans (preserves_setLine fun h => ?_)
  rw [clocked_owed]
  exact (current_owed_length _).trans h

theorem preserves_arrive (p : Port) (b : Byte) (s : State) : Preserves s (arrive p b s) := by
  cases p with
  | meter =>
    unfold arrive
    simp only
    split
    · exact preserves_clockOut s
    · exact (preserves_clockOut s).trans (preserves_hear _ _ _)
  | network =>
    unfold arrive
    simp only
    split
    · exact preserves_setStale _ s
    · exact preserves_hear _ _ s

theorem preserves_beginByte (p : Port) (s : State) : Preserves s (beginByte p s) := by
  cases p with
  | meter => exact preserves_driveMsdo s
  | network => exact preserves_ports (handed := s.handed) (mcsn := s.pins.mcsn) rfl rfl rfl

theorem preserves_watchStopped (begun : Bool) (s : State) : Preserves s (watchStopped begun s) := by
  unfold watchStopped
  split
  · exact Preserves.refl s
  · exact preserves_setStale _ s

theorem preserves_cutFrame (p : Port) (s : State) : Preserves s (cutFrame p s) := by
  unfold cutFrame
  split
  · exact Preserves.refl s
  · have hline : Preserves s (setLine p (s.ports.line.get p).discard s) := preserves_setLine fun h => h
    exact hline.trans (preserves_timeBytes _ _)

theorem preserves_sentFirst (p : Port) (s : State) : Preserves s (setLine p (s.ports.line.get p).sentFirst s) := by
  refine preserves_setLine fun h => ?_
  simp only [Line.sentFirst, List.length_tail]
  omega

/-! ## Frames (R181 to R183) -/

theorem preserves_refuseFrame (p : Port) (st : Status) (s : State) : Preserves s (refuseFrame p st s) := by
  unfold refuseFrame
  split
  next h => exact preserves_respond h _
  next => exact preserves_discardFrame p s

theorem answers_settleEnd (s : State) : Answers (execSettleEnd s) s := by
  refine answers_inMain_keeps fun s => ?_
  split
  next hover => exact keeps_checkOperation (phase_of_phaseOver hover)
  next => exact Keeps.refl s

theorem answers_deadTimeEnd (s : State) : Answers (execDeadTimeEnd s) s := by
  refine answers_inMain_keeps fun s => ?_
  exact keeps_deadTimeEnd s

theorem answers_pulseEnd (s : State) : Answers (execPulseEnd s) s := by
  refine answers_inMain_keeps fun s => ?_
  exact keeps_pulseEnd s

theorem answers_requestEmergency (p : Port) (s : State) : Answers (execRequestEmergency p s) s :=
  answers_runCommand_keeps fun s => (keeps_settleGap s).trans (keeps_takeEmergency _)

theorem answers_tariffCancel (p : Port) (s : State) : Answers (execTariffCancel p s) s := by
  refine answers_runCommand_keeps fun s => ?_
  exact keeps_setSlot fun _ => trivial

theorem answers_codeResult (p : Port) (ticket : Byte) (s : State) : Answers (execCodeResult p ticket s) s := by
  refine answers_runCommand_keeps fun s => ?_
  exact Keeps.refl s

theorem answers_remoteOpen (p : Port) (s : State) : Answers (execRemoteOpen p s) s := by
  refine answers_runCommand_keeps fun s => ?_
  exact keeps_demand _ _ s

theorem preserves_runFrame (i : Instr) (s : State) : Preserves s (runFrame i s) := by
  unfold runFrame
  split
  all_goals first | exact Preserves.refl s | refine Answers.stateOf ?_
  · exact answers_read
  · exact answers_read
  · exact answers_read
  · exact answers_readTariff _ _ _ s
  · exact answers_read
  · exact answers_read
  · exact answers_read
  · exact answers_readLog _ _ _ s
  · exact answers_read
  · exact answers_read
  · exact answers_alertAck _ _ _ s
  · exact answers_runCommand_keeps (keeps_setLevels _ _ _)
  · exact answers_submitCode _ _ s
  · exact answers_codeResult _ _ s
  · exact answers_requestEmergency _ s
  · exact answers_runCommand_keeps keeps_confirmReconnect
  · exact answers_tariffOpen _ _ s
  · exact answers_runCommand_keeps (keeps_putTariff _ _)
  · exact answers_runCommand_keeps (keeps_commitTariff _)
  · exact answers_tariffCancel _ s
  · exact answers_clockSet _ _ _ s
  · exact answers_remoteOpen _ s
  · exact answers_remoteRelease _ _ s
  · exact answers_runCommand_keeps (keeps_remoteClear _)
  · exact answers_evidenceCollect _ _ s
  · exact answers_setEvidenceThreshold _ _ s
  · exact answers_runCommand_keeps (keeps_provision _ _)
  · exact answers_runCommand_keeps keeps_lockIdentity
  · exact answers_setCodeFloor _ _ s

theorem preserves_testFrame (p : Port) (frame : List Byte) (s : State) : Preserves s (testFrame p frame s) := by
  unfold testFrame
  simp only
  split
  · exact preserves_refuseFrame _ _ s
  split
  · exact preserves_refuseFrame _ _ s
  split
  · exact preserves_refuseFrame _ _ s
  · exact preserves_refuseFrame _ _ s
  · split
    · exact preserves_refuseFrame _ _ s
    · exact preserves_runFrame _ s

theorem preserves_takeFrame (i : Instr) (s : State) : Preserves s (takeFrame i s) := by
  unfold takeFrame
  split
  · exact (keeps_take _ s).preserves.trans (preserves_testFrame _ _ _)
  · exact preserves_runFrame _ s

theorem preserves_settleFrames (p : Port) (s : State) : Preserves s (settleFrames p s) := by
  have hfold : ∀ (l : List Instr) (t : State),
      Preserves t (l.foldl (fun acc i => if isFrameOf p i then takeFrame i acc else acc) t) := by
    intro l
    induction l with
    | nil => exact Preserves.refl
    | cons i l ih =>
      intro t
      refine Preserves.trans (t := ite _ _ _) ?_ (ih _)
      split
      · exact preserves_takeFrame i t
      · exact Preserves.refl t
  exact hfold s.handed s

theorem answers_receiverByte (p : Port) (b : Option Byte) (s : State) : Answers (execReceiverByte p b s) s := by
  have hseen : Preserves s (match p with | .meter => selectMeter s | .network => watchStopped b.isNone s) := by
    cases p with
    | meter => exact preserves_ports (x := s.ports) (handed := s.handed) rfl rfl rfl
    | network => exact preserves_watchStopped _ s
  refine Answers.after hseen (answers_inMain fun s _ => ?_)
  cases b with
  | some b => exact (preserves_settleFrames p s).trans (preserves_arrive _ _ _)
  | none => exact (preserves_settleFrames p s).trans (preserves_beginByte _ _)

theorem answers_lengthByteReject (p : Port) (b : Byte) (s : State) : Answers (execLengthByteReject p b s) s := by
  refine answers_inMain fun s _ => ?_
  split
  · exact (preserves_settleFrames p s).trans (preserves_arrive _ _ _)
  · exact Preserves.refl s

theorem answers_mcsnRelease (s : State) : Answers (execMcsnRelease s) s := by
  have hpin : Preserves s { s with pins := { s.pins with mcsn := true } } :=
    preserves_ports (x := s.ports) (handed := s.handed) rfl rfl rfl
  refine Answers.after hpin (answers_inMain fun s _ => ?_)
  exact (preserves_cutFrame .meter s).trans (preserves_releaseMsdo _)

theorem answers_interByteTimeout (s : State) : Answers (execInterByteTimeout s) s := by
  refine answers_inMain fun s _ => ?_
  split
  · exact preserves_cutFrame _ s
  · exact Preserves.refl s

theorem answers_uartFramingError (s : State) : Answers (execUartFramingError s) s := by
  refine Answers.after (preserves_watchStopped false s) (answers_inMain fun s _ => ?_)
  split
  · exact preserves_setStale _ s
  · exact preserves_cutFrame _ s

theorem answers_responseSent (p : Port) (s : State) : Answers (execResponseSent p s) s := by
  refine answers_inMain fun s _ => ?_
  cases p with
  | meter => exact preserves_sentFirst _ s
  | network =>
    exact (preserves_sentFirst _ s).trans
      (preserves_ports (handed := s.handed) (mcsn := s.pins.mcsn) rfl rfl rfl)

/-! ## Every command -/

theorem answers_exec {i : Instr} (s : State) (hi : ∀ baud1 baud0, i ≠ .restoreEnd baud1 baud0) : Answers (exec i s) s := by
  cases i with
  | metrologyFrame bytes extra => exact answers_metrologyFrame bytes extra s
  | silenceExpiry => exact answers_silenceExpiry s
  | linkCutExpiry => exact answers_linkCutExpiry s
  | imbalanceDetect => exact answers_inMain_keeps keeps_detectImbalance
  | imbalanceEpisodeEnd => exact answers_inMain_keeps keeps_endImbalance
  | reverseFlowDetect => exact answers_inMain_keeps keeps_detectReverse
  | reverseFlowRearm => exact answers_inMain_keeps keeps_rearmReverse
  | overloadDetect => exact answers_inMain_keeps keeps_detectOverload
  | debitRequest e => exact answers_inMain_keeps fun s => (keeps_settleGap s).trans (keeps_debit _ _)
  | standingAccrual t => exact answers_inMain_keeps fun s => (keeps_settleGap s).trans (keeps_accrue _ _)
  | gapAccrual t => exact answers_inMain_keeps (keeps_gapAccrue _)
  | clockMinute => exact answers_inMain_keeps fun s => (keeps_settleGap s).trans (keeps_evaluate _)
  | requestEmergency p => exact answers_requestEmergency _ s
  | readCredit p => exact answers_read
  | readTotals p => exact answers_read
  | tariffOpen p id => exact answers_tariffOpen p id s
  | tariffPut p group data => exact answers_runCommand_keeps (keeps_putTariff _ _)
  | tariffCommit p time => exact answers_runCommand_keeps (keeps_commitTariff _)
  | tariffCancel p => exact answers_tariffCancel _ s
  | readTariff p selector group => exact answers_readTariff p selector group s
  | tariffActivation => exact answers_inMain_keeps fun s => (keeps_settleGap s).trans (keeps_activationTest _)
  | imageWriteComplete => exact answers_inMain_keeps keeps_completeImage
  | submitCode p chars => exact answers_submitCode p chars s
  | engineTake => exact answers_inMain fun s _ => preserves_takeEntry s
  | decipherEnd => exact answers_inMain fun s _ => preserves_code codeHeld_endDecipher
  | codeJudging => exact answers_inMain fun s _ => preserves_judgeEntry s
  | penaltyDecrement => exact answers_inMain fun s _ => preserves_lockout _ s
  | penaltyExpiry p => exact answers_inMain fun s _ => preserves_lockout _ s
  | codeResult p ticket => exact answers_codeResult _ _ s
  | setCodeFloor p m => exact answers_setCodeFloor p m s
  | demandSetRequest m add => exact answers_demandSetRequest m add s
  | crdyChange high => exact answers_crdyChange high s
  | cinhnChange high => exact answers_cinhnChange high s
  | deadTimeEnd => exact answers_deadTimeEnd s
  | pulseEnd => exact answers_pulseEnd s
  | settleEnd => exact answers_settleEnd s
  | confirmReconnect p => exact answers_runCommand_keeps keeps_confirmReconnect
  | remoteOpen p => exact answers_remoteOpen _ s
  | remoteRelease p mode => exact answers_remoteRelease p mode s
  | holdOffEnd => exact answers_holdOffEnd s
  | overloadSignal => exact answers_overloadSignal s
  | overloadRestoreExpiry => exact answers_overloadRestoreExpiry s
  | energyWhileOpenDetect => exact answers_inMain_keeps keeps_detectEnergy
  | lsenseChange present => exact answers_lsenseChange present s
  | bypassTimerExpiry => exact answers_bypassTimerExpiry s
  | readSwitch p => exact answers_read
  | tamperEvent k => exact answers_inMain_keeps fun s => keeps_tamperEvent _ _ _ s
  | coverInputChange c reading => exact answers_coverInputChange c reading s
  | debounceExpiry c => exact answers_debounceExpiry c s
  | backupCoverSample => exact answers_backupCoverSample s
  | magsChange high => exact answers_magsChange high s
  | magneticPresenceExpiry => exact answers_magneticPresenceExpiry s
  | magneticReleaseExpiry => exact answers_magneticReleaseExpiry s
  | remoteTamperClear p c => exact answers_runCommand_keeps (keeps_remoteClear _)
  | readTamper p => exact answers_read
  | recordOffer r => exact answers_recordOffer r s
  | waitingEvidenceOffer o => exact answers_inMain_keeps (keeps_reofferFrom o)
  | logWriteStart => exact answers_logWriteStart s
  | logWriteComplete => exact answers_inMain fun s _ => preserves_completeRecord s
  | markWriteStart => exact answers_markWriteStart s
  | markWriteComplete => exact answers_markWriteComplete s
  | evidenceCollect p n => exact answers_evidenceCollect p n s
  | readLog p first count => exact answers_readLog p first count s
  | setEvidenceThreshold p v => exact answers_setEvidenceThreshold p v s
  | clockTick => exact (keeps_tickClock s).preserves.answers
  | clockHourMark => exact answers_inMain_keeps keeps_requestCheckpoint
  | clockSet p t offset => exact answers_clockSet p t offset s
  | readClock p => exact answers_read
  | brownOutStart => exact answers_inMain fun s _ => preserves_startBrownOut s
  | brownOutEnd => exact answers_inMain fun s _ => preserves_endBrownOut s
  | mainFailure => exact (preserves_mainFailure s).answers
  | vmainRise => exact (preserves_vmainRise s).answers
  | vmainDropRestoring => exact (preserves_vmainDrop s).answers
  | resetnAssert => exact (preserves_resetAssert s).answers
  | resetnRelease => exact (preserves_resetRelease s).answers
  | vcellLow => exact answers_vcellLow s
  | backupPowerUp => exact answers_backupPowerUp s
  | restoreEnd baud1 baud0 => exact absurd rfl (hi baud1 baud0)
  | checkpointRequest => exact ((keeps_take _ s).trans (keeps_requestCheckpoint _)).preserves.answers
  | checkpointWriteStart => exact answers_inMain fun s _ => preserves_startCheckpoint s
  | checkpointWriteComplete => exact answers_inMain fun s _ => preserves_completeCheckpoint s
  | badFrame p frame => exact answers_inMain fun s _ => preserves_testFrame p frame s
  | lengthByteReject p b => exact answers_lengthByteReject p b s
  | mcsnRelease => exact answers_mcsnRelease s
  | interByteTimeout => exact answers_interByteTimeout s
  | responseSent p => exact answers_responseSent p s
  | readStatus p => exact answers_read
  | readIdentity p => exact answers_read
  | provisionIdentity p number key => exact answers_runCommand_keeps (keeps_provision _ _)
  | lockIdentity p => exact answers_runCommand_keeps keeps_lockIdentity
  | identityWriteComplete => exact answers_inMain_keeps fun s => keeps_identity fun _ => completeWrite_working _
  | alertOccurrence c toMeter toNetwork => exact answers_inMain_keeps fun s => keeps_occurrence _ _ _ s
  | conditionPresentation c present => exact answers_inMain_keeps fun s => keeps_present _ _ s
  | alertQuery p => exact answers_read
  | alertAck p cls count => exact answers_alertAck p cls count s
  | setAlertLevels p levels threshold => exact answers_runCommand_keeps (keeps_setLevels _ _ _)
  | receiverByte p b => exact answers_receiverByte p b s
  | uartFramingError => exact answers_uartFramingError s

/-- Every command answers a next state, with its queue of commands and every invariant kept. -/
theorem exec_keeps (i : Instr) (s : State) : ∃ t, exec i s = .next t ∧ KeepsInvariants s t := by
  by_cases hi : ∀ baud1 baud0, i ≠ .restoreEnd baud1 baud0
  · obtain ⟨t, ht, hkept⟩ := answers_exec s hi
    exact ⟨t, ht, hkept.toKeepsInvariants⟩
  · push Not at hi
    obtain ⟨baud1, baud0, rfl⟩ := hi
    exact invariants_restoreEnd baud1 baud0 s

end Sys2Proof.Machine

/-! PROOF. What a step keeps, with the passing of a millisecond, and the invariants of every step (02, 04, 05, 06, 07). -/

namespace Sys2Proof.Machine

/-! ## One millisecond (R161) -/

theorem checkpoints_tick {m : Supmon} :
    (tickSupmon m).ring = m.ring ∧ (tickSupmon m).supply = m.supply ∧ (tickSupmon m).brownOut = m.brownOut ∧
      ∀ slot c ms, (tickSupmon m).writer = .writing slot c ms → ∃ n, m.writer = .writing slot c n := by
  unfold tickSupmon
  split
  next hw => simp [hw]
  next hw => simp [hw]

theorem transmit_owed (x : Ports) :
    x.transmit.line.meter.owed = x.line.meter.owed ∧ x.transmit.line.network.owed = x.line.network.owed := by
  unfold Ports.transmit
  split <;> exact ⟨rfl, rfl⟩

theorem moneyHeld_tickImage {b : Bill} {t : TariffStore} (h : MoneyHeld b t) : MoneyHeld b (tickImage t) := by
  obtain ⟨hmoney, hactive, hslot, himage, hwriting⟩ := h
  refine ⟨hmoney, hactive, hslot, himage, fun w hw => ?_⟩
  obtain ⟨v, hv, rfl⟩ := Option.map_eq_some_iff.mp hw
  exact hwriting v hv

theorem preserves_elapseMain (s : State) : Preserves s (elapseMain s) := by
  obtain ⟨hring, hsupply, hbrown, hwriter⟩ := checkpoints_tick (m := s.supmon)
  have hcheck : ∀ c ∈ checkpoints (elapseMain s), c ∈ checkpoints s := by
    intro c hc
    rw [mem_checkpoints] at *
    rcases hc with hc | ⟨slot, ms, hc⟩
    · exact .inl (by rwa [← hring])
    · obtain ⟨n, hn⟩ := hwriter slot c ms hc
      exact .inr ⟨slot, n, hn⟩
  refine { pending := rfl, locked := fun _ => rfl, sequences := fun h => ?_, codes := fun h => ?_,
           queues := fun h => ?_, switch := fun h => ?_, money := fun h => ?_, log := fun h => ?_ }
  · rw [tamperOrdered_iff] at *
    exact ⟨h.1, fun c hc => h.2 c (hcheck c hc)⟩
  · rw [codesBounded_iff] at *
    exact ⟨codeHeld_tickCode h.1, fun c hc => h.2 c (hcheck c hc)⟩
  · rw [queuesBounded_iff] at *
    obtain ⟨hmeter, hnetwork⟩ := transmit_owed s.ports
    refine ⟨h.1, ?_⟩
    unfold OwedBounded elapseMain tickPorts
    simp only [hmeter, hnetwork]
    exact h.2
  · refine h.congr rfl rfl rfl rfl rfl ?_ ?_ hsupply hbrown rfl
    · simp only [elapseMain, tickSwitch, settleMs]
      omega
    · simp only [elapseMain, tickSwitch]
      split
      · rfl
      · unfold Timer.tick
        split <;> simp_all
  · rw [moneySound_iff] at *
    exact ⟨moneyHeld_tickImage h.1, fun c hc => h.2 c (hcheck c hc)⟩
  · rw [logSound_iff] at *
    have hgood : mainGood (elapseMain s) = mainGood s := by simp only [mainGood, elapseMain, hsupply]
    rw [hgood]
    exact ⟨logCore_tickLog h.1, fun hg => markAgrees_tickLog (h.2 hg)⟩

theorem preserves_elapse (s : State) : Preserves s (elapse s) := by
  unfold elapse
  split
  · exact preserves_elapseMain s
  · exact { pending := rfl, locked := fun _ => rfl, sequences := id, codes := id, queues := id, switch := fun h => h, money := id, log := id }

/-! ## Every step -/

/-- What a property of the state but for its queue of commands needs, to be kept by every step. -/
theorem keptByEveryStep_of {inv : State → Prop} (hqueue : ∀ (s : State) (q : List Instr), inv s → inv (s.withPending q))
    (h : ∀ s t, KeepsInvariants s t → inv s → inv t) : KeptByEveryStep inv := by
  intro s t hs hstep
  have hanswer : ∀ (i : Instr) (s : State), inv s → exec i s = .next t → inv t := by
    intro i s hs hexec
    obtain ⟨u, hu, hkept⟩ := exec_keeps i s
    rw [hexec] at hu
    cases hu
    exact h _ _ hkept hs
  unfold step at hstep
  split at hstep
  · exact hanswer _ _ (hqueue s _ hs) hstep
  · split at hstep
    · exact hanswer _ _ hs hstep
    · cases hstep
      exact h _ _ (preserves_elapse s).toKeepsInvariants hs

/-- Settles O55, by what every command and every millisecond keeps: each block's part is a lemma over one operation. -/
theorem sequencesStayOrdered : Obligations.SequencesStayOrdered :=
  keptByEveryStep_of (fun _ _ h => h) fun _ _ h => h.sequences

/-- Settles O56, by what every command and every millisecond keeps. -/
theorem codeStaysBounded : Obligations.CodeStaysBounded :=
  ⟨keptByEveryStep_of (fun _ _ h => h) fun _ _ h => h.codes, keptByEveryStep_of (fun _ _ h => h) fun _ _ h => h.queues⟩

/-- Settles O57, by what every command and every millisecond keeps: each pulse starts in the advance of a phase, which asks for
every permit and the dead time, and each change of a permit or of the set cuts a pulse that it forbids. -/
theorem switchStaysSafe : Obligations.SwitchStaysSafe :=
  keptByEveryStep_of (fun _ _ h => h) fun _ _ h => h.switch

/-- Settles O58, by what every command and every millisecond keeps. -/
theorem moneyAndTariffsStaySound : Obligations.MoneyAndTariffsStaySound :=
  keptByEveryStep_of (fun _ _ h => h) fun _ _ h => h.money

/-- Settles O59, by what every command and every millisecond keeps; a restore makes the copy of the mark agree again. -/
theorem logStaysSound : Obligations.LogStaysSound :=
  keptByEveryStep_of (fun _ _ h => h) fun _ _ h => h.log

/-! ## The first statements on the commands -/

/-- Settles O1, by the definition of a step with a command in front. -/
theorem stepRunsFrontCommand : Obligations.StepRunsFrontCommand := fun _ _ _ => rfl

theorem runCommand_stopped {i : Instr} {p : Port} {permitted : Bool} {body : State → State × Reply} {s : State}
    (h : mainGood s = false) : runCommand i p permitted body s = .next s := inMain_stopped h

/-- A command that only the main domain takes goes through the test of its supply. -/
theorem exec_stopped {c : Instr} {s : State} (h : mainDomain c = true) (hstopped : mainGood s = false) :
    exec c s = .next s := by
  cases c with
  | crdyChange | cinhnChange | lsenseChange | coverInputChange | magsChange | backupCoverSample | recordOffer | clockTick
  | mainFailure | vmainRise | vmainDropRestoring | resetnAssert | resetnRelease | vcellLow | backupPowerUp | restoreEnd
  | checkpointRequest | demandSetRequest | receiverByte | uartFramingError | mcsnRelease => cases h
  | requestEmergency | readCredit | readTotals | tariffOpen | tariffPut | tariffCommit | tariffCancel | readTariff
  | submitCode | codeResult | setCodeFloor | confirmReconnect | remoteOpen | remoteRelease | readSwitch
  | remoteTamperClear | readTamper | evidenceCollect | readLog | setEvidenceThreshold | clockSet | readClock | readStatus
  | readIdentity | provisionIdentity | lockIdentity | alertQuery | alertAck | setAlertLevels =>
    unfold exec
    exact runCommand_stopped hstopped
  | _ =>
    unfold exec
    exact inMain_stopped hstopped

/-- Settles O2, by what every command keeps and by the supply test of the main domain's commands. -/
theorem everyCommandAnswers : Obligations.EveryCommandAnswers := by
  refine ⟨fun c s => ?_, fun c s hmain hstopped => ?_⟩
  · obtain ⟨t, ht, hkept⟩ := exec_keeps c s
    exact ⟨t, ht, hkept.pending⟩
  · exact exec_stopped hmain (mainGood_eq_false hstopped)

/-- Settles O60, by evaluation of the reset state. -/
theorem resetMeetsInvariants : Obligations.ResetMeetsInvariants := by
  have hnone : checkpoints State.reset = [] := rfl
  refine ⟨?_, ?_, ?_, ?_, ?_, ?_, rfl, rfl⟩
  · exact ⟨by simp [SequencesOrdered, State.reset], by simp [hnone]⟩
  · exact ⟨⟨by decide, List.Pairwise.nil, by simp [State.reset]⟩, by simp [hnone], by decide, by decide, by decide⟩
  · exact ⟨by decide, by decide, by decide, by decide, by decide, by simp [State.reset]⟩
  · refine ⟨by unfold MoneyInRange; decide, by decide, trivial, trivial, fun w hw => ?_, by simp [hnone]⟩
    cases hw
    decide
  · refine ⟨by decide, by decide, by decide, fun n hn => ?_, by decide, by decide, ?_, fun _ => ?_⟩
    · cases hn
      decide
    · trivial
    · exact fun _ => rfl
  · exact ⟨by decide, by decide, by decide, by decide, by decide⟩

end Sys2Proof.Machine

/-! PROOF. How BILL's operations leave the part: reductions, the price of energy, accruals and evaluations (02). -/

namespace Sys2Proof.Machine

/-- Two states that agree in every block are one. -/
theorem State.eq_of {s t : State} (mlr : s.mlr = t.mlr := by simp) (totals : s.totals = t.totals := by simp)
    (bill : s.bill = t.bill := by simp) (tariff : s.tariff = t.tariff := by simp) (cal : s.cal = t.cal := by simp)
    (code : s.code = t.code := by simp) (sw : s.sw = t.sw := by simp) (tamper : s.tamper = t.tamper := by simp)
    (log : s.log = t.log := by simp) (alert : s.alert = t.alert := by simp) (supmon : s.supmon = t.supmon := by simp)
    (ports : s.ports = t.ports := by simp) (identity : s.identity = t.identity := by simp)
    (pins : s.pins = t.pins := by simp) (handed : s.handed = t.handed := by simp)
    (pending : s.pending = t.pending := by simp) : s = t := by
  cases s
  cases t
  simp_all

/-! ## Evaluations (R31, R37, R38, R40) -/

theorem Alert.present_conditions (a : Alert) (c : ConditionClass) (b : Bool) :
    (a.present c b).conditions = a.conditions.set c b := rfl

/-- A demand moves of the conditions only ARMED and, for CREDIT, CREDIT_EXHAUSTED (R93). -/
theorem demand_conditions (m : Member) (b : Bool) (s : State) :
    (demand m b s).alert.conditions =
      { s.alert.conditions with
        armed := (demand m b s).alert.conditions.armed,
        creditExhausted := (demand m b s).alert.conditions.creditExhausted } := by
  unfold demand
  split
  · rfl
  · simp only
    split <;> rfl

theorem evaluateCredit_conditions (s : State) :
    (evaluateCredit s).alert.conditions.emergencyAvailable = s.alert.conditions.emergencyAvailable ∧
      (evaluateCredit s).alert.conditions.lowCredit = s.alert.conditions.lowCredit ∧
      (evaluateCredit s).alert.conditions.creditExhausted = (evaluateCredit s).sw.set.credit := by
  unfold evaluateCredit
  simp only [present_alert, present_sw, Alert.present_conditions, PerCondition.set]
  split
  · rw [demand_conditions]
    simp
  · split
    · simp
    · rw [demand_conditions]
      simp

theorem evaluateCredit_deferral (s : State) :
    (evaluateCredit s).bill.deferral =
      (friendlyNow s && !s.sw.set.credit && decide (s.bill.b < exhaustion s) &&
        decide (exhaustion s - s.active.friendly.allowance ≤ s.bill.b)) := by
  unfold evaluateCredit
  simp only
  split
  · simp
  · split <;> simp

theorem friendlyNow_evaluate (s : State) : friendlyNow (evaluate s) = friendlyNow s :=
  friendlyNow_congr (by simp) (by simp)

/-- The state that the CREDIT evaluation finds: the emergency state and LOW_CREDIT are settled (R38). -/
def beforeCredit (s : State) : State :=
  present .lowCredit (decide (s.bill.b < s.active.charges.lowCredit))
    (present .emergencyAvailable (recomputed s == .available) { s with bill := { s.bill with emergency := recomputed s } })

theorem evaluate_eq (s : State) : evaluate s = evaluateCredit (beforeCredit s) := rfl

theorem exhaustion_beforeCredit (s : State) : exhaustion (beforeCredit s) = exhaustion s :=
  exhaustion_congr rfl (recomputed_inUse_iff s)

theorem evaluate_credit (s : State) :
    (evaluate s).sw.set.credit =
      if exhaustion s ≤ s.bill.b then false
      else !(friendlyNow s && !s.sw.set.credit && decide (exhaustion s - s.active.friendly.allowance ≤ s.bill.b)) := by
  rw [evaluate_eq, evaluateCredit_credit, exhaustion_beforeCredit]
  rfl

theorem evaluate_deferral (s : State) :
    (evaluate s).bill.deferral =
      (friendlyNow s && !s.sw.set.credit && decide (s.bill.b < exhaustion s) &&
        decide (exhaustion s - s.active.friendly.allowance ≤ s.bill.b)) := by
  rw [evaluate_eq, evaluateCredit_deferral, exhaustion_beforeCredit]
  rfl

theorem evaluate_conditions (s : State) :
    (evaluate s).alert.conditions.emergencyAvailable = (recomputed s == .available) ∧
      (evaluate s).alert.conditions.lowCredit = decide (s.bill.b < s.active.charges.lowCredit) ∧
      (evaluate s).alert.conditions.creditExhausted = (evaluate s).sw.set.credit :=
  evaluateCredit_conditions (beforeCredit s)

/-- What an evaluation decides, from the state before it (R31, R37, R40). -/
theorem creditEvaluated_evaluate (s : State) :
    CreditEvaluated s.bill.emergency s.sw.set.credit (evaluate s) := by
  obtain ⟨havailable, hlow, hexhausted⟩ := evaluate_conditions s
  have hactive : (evaluate s).active = s.active := by simp [State.active]
  have hcredit := evaluate_credit s
  have hdeferral := evaluate_deferral s
  refine ⟨?_, fun h => ?_, fun h hin => ?_, fun h hout => ?_, ?_, ?_, hexhausted⟩
  · rw [evaluate_emergency, hactive, evaluate_b]
    rfl
  · rw [exhaustion_evaluate, evaluate_b] at h
    simp [hcredit, hdeferral, h, not_lt.mpr h]
  · rw [exhaustion_evaluate, evaluate_b] at h
    simp [hcredit, hdeferral, hin, not_le.mpr h]
  · rw [exhaustion_evaluate, evaluate_b] at h
    simp [hcredit, hdeferral, hout, h, not_le.mpr h, friendlyNow_evaluate, hactive]
  · rw [havailable, evaluate_emergency]
    exact beq_eq_decide _ _
  · rw [hlow, hactive, evaluate_b]

/-- An evaluation moves of the demand set only CREDIT (R37). -/
theorem evaluate_set (s : State) :
    (evaluate s).sw.set = { s.sw.set with credit := (evaluate s).sw.set.credit } := by
  unfold evaluate evaluateCredit
  simp only
  split
  · simp [DemandSet.put]
  · split <;> simp [DemandSet.put]

theorem evaluate_frame (s : State) :
    evaluate s = { s with bill := (evaluate s).bill, sw := (evaluate s).sw, alert := (evaluate s).alert } :=
  State.eq_of

/-! ## Reductions (R20) -/

/-- Whether a reduction by w takes B to its floor (R20). -/
def ReachesFloor (w : Nat) (s : State) : Prop := w ≠ 0 ∧ s.bill.b - (w : Int) ≤ balanceMin

/-- The record of a floor that has been reached (R20). -/
def floorRecord (s : State) : Record :=
  { time := s.cal.t, valid := s.cal.valid, kind := .balanceFloor, energy := some s.totals.imported }

theorem reached_iff (w : Nat) (s : State) :
    (decide (w ≠ 0) && decide (max balanceMin (s.bill.b - w) = balanceMin)) = true ↔ ReachesFloor w s := by
  rw [Bool.and_eq_true, decide_eq_true_eq, decide_eq_true_eq, max_eq_left_iff]
  rfl

theorem reduce_of_reaches {w : Nat} {s : State} (h : ReachesFloor w s) :
    (reduce w s).bill.floor = true ∧
      (s.bill.floor = false → (reduce w s).log = s.log.offerRoutine (evidenceWaiting s) (floorRecord s)) ∧
      (s.bill.floor = true → (reduce w s).log = s.log) := by
  have hreached := (reached_iff w s).mpr h
  unfold reduce
  simp only [hreached, Bool.or_true, Bool.true_and]
  cases hfloor : s.bill.floor with
  | false => exact ⟨rfl, fun _ => rfl, by simp⟩
  | true => exact ⟨rfl, by simp, fun _ => rfl⟩

theorem reduce_of_not_reaches {w : Nat} {s : State} (h : ¬ReachesFloor w s) :
    (reduce w s).bill.floor = s.bill.floor ∧ (reduce w s).log = s.log := by
  have hreached := Bool.eq_false_iff.mpr (mt (reached_iff w s).mp h)
  unfold reduce
  simp only [hreached, Bool.or_false, Bool.false_and, Bool.false_eq_true, if_false, and_self]

/-- The floor flag and LOG after a reduction and an evaluation behind it (R20). -/
theorem floor_of_reduce (w : Nat) (s : State) :
    (ReachesFloor w s → (evaluate (reduce w s)).bill.floor = true) ∧
      (¬ReachesFloor w s → (evaluate (reduce w s)).bill.floor = s.bill.floor) ∧
      (ReachesFloor w s → s.bill.floor = false →
        (evaluate (reduce w s)).log = s.log.offerRoutine (evidenceWaiting s) (floorRecord s)) ∧
      (¬(ReachesFloor w s ∧ s.bill.floor = false) → (evaluate (reduce w s)).log = s.log) := by
  simp only [evaluate_floor, evaluate_log]
  refine ⟨fun h => (reduce_of_reaches h).1, fun h => (reduce_of_not_reaches h).1, fun h => (reduce_of_reaches h).2.1,
    fun h => ?_⟩
  by_cases hreach : ReachesFloor w s
  · exact (reduce_of_reaches hreach).2.2 (by simpa using fun hfloor => h ⟨hreach, hfloor⟩)
  · exact (reduce_of_not_reaches hreach).2

/-! ## Debits, accruals and minutes (R21, R23, R24, R39) -/

theorem exec_debitRequest {e : Nat} {s : State} (hgood : mainGood s = true) (hgap : NoGapWaits s) :
    exec (.debitRequest e) s = .next (debit e (s.take (.debitRequest e))) := by
  change execDebitRequest e s = _
  rw [execDebitRequest, inMain_good hgood, settleGap_none (noGapWaits_take hgap)]

/-- What a debit reduces B by, and where: R is settled, and the energy counted in its band (R12, R21). -/
def priced (e : Nat) (s : State) : State :=
  { s with
    bill := { s.bill with r := (s.bill.r + e * priceInForce s) % 10000 },
    totals := { s.totals with
      band := s.totals.band.set (bandInForce s) (addTotal (s.totals.band.get (bandInForce s)) e) } }

theorem debit_eq (e : Nat) (s : State) :
    debit e s = evaluate (reduce ((s.bill.r + e * priceInForce s) / 10000) (priced e s)) := rfl

/-- Settles O8, by the frame of a reduction and of the evaluation behind it. -/
theorem debitPricesEnergy : Obligations.DebitPricesEnergy := by
  intro e s hgood hgap
  obtain ⟨hfloor, hnofloor, hlog, hnolog⟩ :=
    floor_of_reduce ((s.bill.r + e * priceInForce s) / 10000) (priced e (s.take (.debitRequest e)))
  have hcredit := creditEvaluated_evaluate
    (reduce ((s.bill.r + e * priceInForce s) / 10000) (priced e (s.take (.debitRequest e))))
  rw [reduce_emergency, reduce_sw] at hcredit
  have hset := evaluate_set (reduce ((s.bill.r + e * priceInForce s) / 10000) (priced e (s.take (.debitRequest e))))
  rw [reduce_sw] at hset
  refine ⟨_, exec_debitRequest hgood hgap, ?r, ?b, ?q, ?h, ?d, hfloor, hnofloor, hlog, hnolog, ?totals, hcredit, hset,
    ?frame⟩
  case r => rw [debit_eq, evaluate_r, reduce_r]; rfl
  case b => rw [debit_eq, evaluate_b, reduce_b]; rfl
  case q => rw [debit_eq, evaluate_q, reduce_q]; rfl
  case h => rw [debit_eq, evaluate_h, reduce_h]; rfl
  case d => rw [debit_eq, evaluate_d, reduce_d]; rfl
  case totals => rw [debit_eq, evaluate_totals, reduce_totals]; rfl
  case frame =>
    rw [debit_eq]
    unfold priced
    exact State.eq_of

/-! ### Accruals -/

/-- What an accrual to a clock second above H has charged, before B is reduced: Q and H (R23, R24). -/
def charged (t : Nat) (s : State) : State :=
  { s with bill := { s.bill with q := accrualSum s t % daySeconds, h := t } }

theorem accrueMoney_of_lt {t : Nat} {s : State} (h : s.bill.h < t) :
    accrueMoney t s = reduce (accrualSum s t / daySeconds) (charged t s) := if_pos h

theorem accrueMoney_of_le {t : Nat} {s : State} (h : t ≤ s.bill.h) : accrueMoney t s = s := if_neg (not_lt.mpr h)

theorem exec_standingAccrual {x : BitVec 32} {s : State} (hgood : mainGood s = true) (hgap : NoGapWaits s) :
    exec (.standingAccrual x) s = .next (accrue x.toNat (s.take (.standingAccrual x))) := by
  change execStandingAccrual x s = _
  rw [execStandingAccrual, inMain_good hgood, settleGap_none (noGapWaits_take hgap)]

theorem exec_gapAccrual {x : BitVec 32} {s : State} (hgood : mainGood s = true) :
    exec (.gapAccrual x) s = .next (gapAccrue x.toNat (s.take (.gapAccrual x))) := by
  change execGapAccrual x s = _
  rw [execGapAccrual, inMain_good hgood]

/-- Above H a standing accrual and a gap accrual are one: the charge and the evaluation (R23, R24). -/
theorem exec_accrual_of_lt {x : BitVec 32} {c : Instr} {s : State} (hgood : mainGood s = true)
    (hc : c = .standingAccrual x ∨ c = .gapAccrual x) (hgap : NoGapWaits (s.take c)) (h : s.bill.h < x.toNat) :
    exec c s = .next (evaluate (reduce (accrualSum s x.toNat / daySeconds) (charged x.toNat (s.take c)))) := by
  have hlt : (s.take c).bill.h < x.toNat := h
  rcases hc with rfl | rfl
  · change execStandingAccrual x s = _
    rw [execStandingAccrual, inMain_good hgood, settleGap_none hgap, accrue, if_pos hlt, accrueMoney_of_lt hlt]
    rfl
  · rw [exec_gapAccrual hgood, gapAccrue, accrueMoney_of_lt hlt]
    rfl

/-- Settles O9, by the frame of the reduction and of the evaluation behind each accrual. -/
theorem accrualsAndMinutes : Obligations.AccrualsAndMinutes := by
  refine ⟨⟨fun x c s hgood hc hgap hlt => ?above, fun x s hgood hgap hle => ?standing, fun x s hgood hle => ?gap⟩,
    fun s hgood hgap => ?minute⟩
  case above =>
    obtain ⟨hfloor, hnofloor, hlog, hnolog⟩ :=
      floor_of_reduce (accrualSum s x.toNat / daySeconds) (charged x.toNat (s.take c))
    have hcredit := creditEvaluated_evaluate (reduce (accrualSum s x.toNat / daySeconds) (charged x.toNat (s.take c)))
    rw [reduce_emergency, reduce_sw] at hcredit
    have hset := evaluate_set (reduce (accrualSum s x.toNat / daySeconds) (charged x.toNat (s.take c)))
    rw [reduce_sw] at hset
    refine ⟨_, exec_accrual_of_lt hgood hc hgap hlt, hfloor, hnofloor, hlog, hnolog, ?q, ?b, ?h, ?r, ?d, hcredit, hset,
      ?frame⟩
    case q => rw [evaluate_q, reduce_q]; rfl
    case b => rw [evaluate_b, reduce_b]; rfl
    case h => rw [evaluate_h, reduce_h]; rfl
    case r => rw [evaluate_r, reduce_r]; rfl
    case d => rw [evaluate_d, reduce_d]; rfl
    case frame =>
      unfold charged
      exact State.eq_of
  case standing => rw [exec_standingAccrual hgood hgap, accrue, State.take_bill, if_neg (not_lt.mpr hle)]
  case gap =>
    refine ⟨_, exec_gapAccrual hgood, ?_⟩
    rw [gapAccrue, accrueMoney_of_le (s := s.take (.gapAccrual x)) hle]
    exact ⟨creditEvaluated_evaluate _, evaluate_set _, evaluate_bill _, evaluate_frame _⟩
  case minute =>
    exact ⟨_, exec_clockMinute hgood hgap, creditEvaluated_evaluate _, evaluate_set _, evaluate_bill _, evaluate_frame _⟩

/-! ## The emergency request (R32) -/

theorem exec_requestEmergency {s : State} (hready : Ready .meter s) (hgap : NoGapWaits s) :
    exec (.requestEmergency .meter) s =
      .next (respond .meter (takeEmergency (s.take (.requestEmergency .meter))).2
        (takeEmergency (s.take (.requestEmergency .meter))).1) := by
  have hexec : exec (.requestEmergency .meter) s =
      .next (respond .meter (takeEmergency (settleGap (s.take (.requestEmergency .meter)))).2
        (takeEmergency (settleGap (s.take (.requestEmergency .meter)))).1) :=
    runCommand_ready (body := fun s => takeEmergency (settleGap s)) hready
  rw [hexec, settleGap_none (noGapWaits_take hgap)]

/-- Settles O10, by the cases of the emergency state and the frame of the evaluation. -/
theorem emergencyTaken : Obligations.EmergencyTaken := by
  intro s hready hgap
  refine ⟨fun havailable => ?_, fun hnot => ?_⟩
  · have hcredit := creditEvaluated_evaluate
      { s.take (.requestEmergency .meter) with bill := { s.bill with emergency := .inUse } }
    refine ⟨evaluate { s.take (.requestEmergency .meter) with bill := { s.bill with emergency := .inUse } }, ?_, ?_,
      hcredit, evaluate_set _, State.eq_of⟩
    · rw [exec_requestEmergency hready hgap]
      simp [takeEmergency, havailable]
    · rw [evaluate_bill, evaluate_emergency]
      simp [recomputed]
  · rw [exec_requestEmergency hready hgap]
    cases he : s.bill.emergency with
    | available => exact absurd he hnot
    | unavailable | inUse => simp [takeEmergency, he]

end Sys2Proof.Machine

/-! PROOF. The metrology link: reports, their gaps, the timers of the link and the detectors (01). -/

namespace Sys2Proof.Machine

/-! ## Reports (R1, R2) -/

theorem readReport_eq_none {bytes : List Byte} {extra : Nat}
    (h : bytes.length ≠ 12 ∨ extra ≠ 0 ∨ bytes.head? ≠ some 0xA5#8 ∨ byteSum bytes ≠ 0#8) :
    readReport bytes extra = none := by
  unfold readReport
  split
  next =>
    rw [if_neg]
    rintro ⟨rfl, rfl, hsum⟩
    simp [hsum] at h
  next => rfl

theorem exec_badReport {bytes : List Byte} {n : Nat} {s : State} (hread : readReport bytes n = none)
    (hgood : mainGood s = true) :
    exec (.metrologyFrame bytes (some n)) s = .next (countBadReport (s.take (.metrologyFrame bytes (some n)))) := by
  change execMetrologyFrame bytes (some n) s = _
  simp only [execMetrologyFrame, inMain_good hgood, hread]

/-- Settles O3, by the four tests that a report's frame passes. -/
theorem unusableFramesDiscarded : Obligations.UnusableFramesDiscarded := by
  refine ⟨fun seq flags ep1 ep0 en1 en0 ex1 ex0 ip1 ip0 chk hsum => ?report, fun bytes extra s hgood hbad => ?bad,
    fun bytes s hgood => ?early⟩
  case report =>
    have hpair : ∀ a b : Byte, ofBe [a, b] = a.toNat * 256 + b.toNat := by simp [ofBe]
    simp only [readReport, hsum, hpair, and_self, if_true]
  case bad =>
    rw [exec_badReport (readReport_eq_none hbad) hgood]
    rfl
  case early =>
    change execMetrologyFrame bytes none s = _
    rw [execMetrologyFrame, inMain_good hgood]

/-! ## The detectors find nothing (R13, R14, R16, R109) -/

theorem settleDetectors_none {s : State} (h : NoDetection s) : settleDetectors s = s := by
  obtain ⟨himbalance, hbalance, hreverse, hrearm, hoverload, henergy⟩ := h
  have h1 : detectImbalance s = s := by simp [detectImbalance, himbalance]
  have h2 : endImbalance s = s := by simp [endImbalance, hbalance]
  have h3 : detectReverse s = s := by simp [detectReverse, hreverse]
  have h4 : rearmReverse s = s := by simp [rearmReverse, hrearm]
  have h5 : detectOverload s = s := by simp [detectOverload, hoverload]
  have h6 : detectEnergy s = s := by simp [detectEnergy, henergy]
  rw [settleDetectors, h1, h2, h3, h4, h5, h6]

theorem exec_report {bytes : List Byte} {r : Report} {s : State} (hread : readReport bytes 0 = some r)
    (hgood : mainGood s = true) (hnone : NoDetection s) :
    exec (.metrologyFrame bytes (some 0)) s = .next (judgeReport r (s.take (.metrologyFrame bytes (some 0)))) := by
  have hnone' : NoDetection (s.take (.metrologyFrame bytes (some 0))) := hnone
  change execMetrologyFrame bytes (some 0) s = _
  simp only [execMetrologyFrame, inMain_good hgood, hread, settleDetectors_none hnone']

/-! ## How a real report moves the streaks -/

theorem judgeImbalance_frame (r : Report) (m : Mlr) :
    judgeImbalance r m =
      { m with unbalanced := (judgeImbalance r m).unbalanced, balanced := (judgeImbalance r m).balanced } := by
  unfold judgeImbalance
  repeat' split
  all_goals rfl

/-- The streaks of the imbalance detector after a real report (R13). -/
theorem judgeImbalance_streaks (r : Report) (m : Mlr) :
    (judgeImbalance r m).unbalanced =
        (if max r.ep r.en < 10 ∨ m.episode = true then m.unbalanced
         else if max r.ep r.en < 8 * (max r.ep r.en - min r.ep r.en) then min (m.unbalanced + 1) 30 else 0) ∧
      (judgeImbalance r m).balanced =
        (if max r.ep r.en < 10 ∨ m.episode = false then m.balanced
         else if max r.ep r.en < 8 * (max r.ep r.en - min r.ep r.en) then 0 else min (m.balanced + 1) 30) := by
  unfold judgeImbalance unbalancedReport
  by_cases hsmall : max r.ep r.en < 10
  · simp only [hsmall, if_true, true_or, and_self]
  · by_cases hunbalanced : max r.ep r.en < 8 * (max r.ep r.en - min r.ep r.en)
    · cases m.episode <;> simp [hsmall, hunbalanced, bump, imbalanceRun]
    · cases m.episode <;> simp [hsmall, hunbalanced, bump, imbalanceRun]

/-- The streaks of the reverse-flow detector after a real report (R14). -/
theorem judgeReverse_streaks (r : Report) (m : Mlr) :
    (judgeReverse r m).reverse =
        (if m.reverseRaised = true then m.reverse
         else if r.ep < r.ex ∧ 10 ≤ r.ex then min (m.reverse + 1) 10 else 0) ∧
      (judgeReverse r m).rearm =
        (if m.reverseRaised = false then m.rearm
         else if r.ep < r.ex ∧ 10 ≤ r.ex then 0 else min (m.rearm + 1) 10) := by
  unfold judgeReverse
  have hreport : reverseReport r = true ↔ r.ep < r.ex ∧ 10 ≤ r.ex := by simp [reverseReport]
  simp only [hreport]
  by_cases hreverse : r.ep < r.ex ∧ 10 ≤ r.ex
  · cases m.reverseRaised <;> simp [hreverse, bump, reverseRun]
  · cases m.reverseRaised <;> simp [hreverse, bump, reverseRun]

theorem judgeOverload_overload (ilim : Nat) (r : Report) (m : Mlr) :
    (judgeOverload ilim r m).overload = if ilim ≠ 0 ∧ ilim < r.ip then min (m.overload + 1) 5 else 0 := by
  unfold judgeOverload
  split <;> rfl

theorem watchEnergy_streak (ep : Nat) (w : Switch) :
    (watchEnergy ep w).streak =
      if ep < 10 then 0
      else if (w.state = .opened ∨ w.state = .armed) ∧ w.fault = false then min (w.streak + 1) 3 else w.streak := by
  have hrests : (restsOpen w && !w.fault) = true ↔ (w.state = .opened ∨ w.state = .armed) ∧ w.fault = false := by
    simp [restsOpen]
  unfold watchEnergy
  simp only [hrests]
  repeat' split
  all_goals rfl

/-- The magnetic timers after the source was seen, whatever flag TAMPER was handed before (R123, R124). -/
theorem magneticTimed_magneticTimers (source flag : Bool) (m : Tamper) :
    MagneticTimed source m (magneticTimers source { m with feFlag := flag }) := by
  unfold magneticTimers
  refine ⟨fun hoff => ?_, fun hon => ?_⟩
  · simp [hoff]
  · simp [hon]

theorem magneticTimed_handFlag (flag : Bool) (s : State) :
    MagneticTimed (s.pins.mags || flag) s.tamper (handFlag flag s).tamper := magneticTimed_magneticTimers _ _ _

/-! ## A real report (R3, R4, R9 to R16) -/

/-- The billed increment, with the exported energy under the mode that charges it (R10). -/
theorem increment_eq (r : Report) (s : State) :
    increment r s =
      if s.tamper.magnetic = true then
        max (max r.ep r.en + (if s.active.policy.reverseMode = .chargeAsImport then r.ex else 0)) s.active.policy.mfix
      else max r.ep r.en + (if s.active.policy.reverseMode = .chargeAsImport then r.ex else 0) := by
  unfold increment
  cases s.active.policy.reverseMode <;> rfl

/-- What MLR's streaks are after a report, before the link takes it. -/
def judgedStreaks (r : Report) (s : State) : Mlr :=
  judgeOverload s.active.policy.ilim r (judgeReverse r (judgeImbalance r s.mlr))

theorem judgedStreaks_frame (r : Report) (s : State) :
    judgedStreaks r s =
      { s.mlr with
        unbalanced := (judgeImbalance r s.mlr).unbalanced, balanced := (judgeImbalance r s.mlr).balanced,
        reverse := (judgeReverse r s.mlr).reverse, rearm := (judgeReverse r s.mlr).rearm,
        overload := (judgeOverload s.active.policy.ilim r s.mlr).overload } := by
  have hreverse : judgeReverse r (judgeImbalance r s.mlr) =
      { judgeImbalance r s.mlr with reverse := (judgeReverse r s.mlr).reverse, rearm := (judgeReverse r s.mlr).rearm } := by
    rw [judgeImbalance_frame]
    unfold judgeReverse
    simp only
    repeat' split
    all_goals rfl
  have hoverload : judgedStreaks r s =
      { judgeReverse r (judgeImbalance r s.mlr) with
        overload := (judgeOverload s.active.policy.ilim r s.mlr).overload } := by
    rw [judgedStreaks, hreverse, judgeImbalance_frame]
    unfold judgeOverload
    split <;> rfl
  rw [hoverload, hreverse, judgeImbalance_frame]

/-- The gap of a report whose number follows the last one's is 0 (R4). -/
theorem gapOf_next (seq : Byte) : gapOf seq (seq - 1#8) = 0 := by
  have hzero : seq - (seq - 1#8) - 1#8 = 0#8 := by bv_omega
  rw [gapOf, hzero]
  rfl

theorem judgeReport_no_gap {r : Report} {s : State}
    (h : s.mlr.link = .synced → s.mlr.lastSeq = some (r.seq - 1#8)) : judgeReport r s = realReport r s := by
  unfold judgeReport
  split
  next last hlink hlast =>
    rw [h hlink] at hlast
    cases hlast
    rw [gapOf_next]
    rfl
  next => rfl

theorem realReport_frame (r : Report) (s : State) :
    realReport r s =
      { s with
        mlr := acceptLink r.seq (increment r s) (judgedStreaks r s),
        totals := countReport r (increment r s) s.totals,
        sw := watchEnergy r.ep s.sw,
        tamper := magneticTimers (s.pins.mags || r.magnetic) { s.tamper with feFlag := r.magnetic },
        alert := s.alert.present .metrologyLost false,
        handed := s.handed ++ [.debitRequest (increment r s)] } := rfl

theorem exec_report_no_gap {bytes : List Byte} {r : Report} {s : State} (hread : readReport bytes 0 = some r)
    (hgood : mainGood s = true) (hnone : NoDetection s)
    (hlink : s.mlr.link = .synced → s.mlr.lastSeq = some (r.seq - 1#8)) :
    exec (.metrologyFrame bytes (some 0)) s = .next (realReport r (s.take (.metrologyFrame bytes (some 0)))) := by
  rw [exec_report hread hgood hnone, judgeReport_no_gap (s := s.take _) hlink]

/-- Settles O4, by the frames of the detectors and of the report behind them. -/
theorem realReportsTaken : Obligations.RealReportsTaken := by
  refine ⟨fun bytes r s hread hgood hnone hlink => ?_, fun bytes r s hread hgood hnone hlink => ?_⟩
  · refine ⟨_, exec_report_no_gap hread hgood hnone hlink, ?_⟩
    have hincrement : increment r (s.take (.metrologyFrame bytes (some 0))) = increment r s := rfl
    rw [← increment_eq, realReport_frame, hincrement, judgedStreaks_frame]
    refine ⟨rfl, rfl, rfl, rfl, rfl, rfl, rfl, rfl, rfl, rfl, magneticTimers_frame _ _, watchEnergy_sw _ _, rfl⟩
  · refine ⟨_, exec_report_no_gap hread hgood hnone hlink, ?_⟩
    obtain ⟨hunbalanced, hbalanced⟩ := judgeImbalance_streaks r s.mlr
    obtain ⟨hreverse, hrearm⟩ := judgeReverse_streaks r s.mlr
    rw [realReport_frame, judgedStreaks_frame]
    exact ⟨magneticTimed_magneticTimers _ _ _, rfl, rfl, hunbalanced, hbalanced, hreverse, hrearm,
      judgeOverload_overload _ _ _, watchEnergy_streak _ _⟩

/-! ## Gaps (R4 to R6) -/

/-- Fill reports are debited and billed, and move nothing else (R5, R11). -/
theorem billFills_frame (n e : Nat) (s : State) :
    billFills n e s =
      { s with totals := { s.totals with billed := (billFills n e s).totals.billed },
               handed := s.handed ++ List.replicate n (.debitRequest e) } := by
  induction n generalizing s with
  | zero => simp [billFills]
  | succ n ih =>
    rw [billFills, ih]
    simp [List.replicate_succ]

/-- The billed total after the fills and one more increment, which saturates as one addition does (R12). -/
theorem addTotal_billFills (n e x : Nat) (s : State) :
    addTotal (billFills n e s).totals.billed x = min (s.totals.billed + n * e + x) max48 := by
  induction n generalizing s with
  | zero => simp [billFills, addTotal]
  | succ n ih =>
    rw [billFills, ih]
    simp only [State.hand_totals, addTotal, Nat.add_mul]
    omega

theorem fillsOf_eq (g : Nat) : fillsOf g = min g 8 := by
  unfold fillsOf
  split <;> omega

/-- The part as the real report behind a gap finds it (R5, R6). -/
def afterGap (g eLast : Nat) (s : State) : State :=
  { s with
    totals := { s.totals with billed := (billFills (min g 8) eLast s).totals.billed },
    handed := s.handed ++ List.replicate (min g 8) (.debitRequest eLast),
    log :=
      if 9 ≤ g then
        s.log.offerRoutine (evidenceWaiting s)
          { time := s.cal.t, valid := s.cal.valid, kind := .metrologyGap, gap := some g }
      else s.log }

theorem judgeReport_gap {r : Report} {last : Byte} {eLast : Nat} {s : State} (hlink : s.mlr.link = .synced)
    (hlast : s.mlr.lastSeq = some last) (he : s.mlr.eLast = some eLast) :
    judgeReport r s =
      if gapOf r.seq last = 255 then s else realReport r (afterGap (gapOf r.seq last) eLast s) := by
  simp only [judgeReport, hlink, hlast, he, Option.getD_some, fillsOf_eq]
  split
  next => rfl
  next =>
    rw [billFills_frame]
    unfold afterGap
    split <;> rfl

/-- The streaks that a report leaves read neither the last number nor the last increment. -/
theorem acceptLink_of_lastSeq (r : Report) (x : Option Byte) (s : State) :
    acceptLink r.seq (increment r s) (judgedStreaks r { s with mlr := { s.mlr with lastSeq := x } }) =
      acceptLink r.seq (increment r s) (judgedStreaks r s) := by
  simp only [judgedStreaks_frame, (judgeImbalance_streaks _ _).1, (judgeImbalance_streaks _ _).2,
    (judgeReverse_streaks _ _).1, (judgeReverse_streaks _ _).2, judgeOverload_overload, acceptLink, State.active]

/-- Settles O5, by the frame of the fills, and the report without a gap that moves the streaks in the same way. -/
theorem gapReportsFilled : Obligations.GapReportsFilled := by
  intro bytes r last eLast s hread hgood hnone hlink hlast he
  have hexec := exec_report hread hgood hnone
  rw [judgeReport_gap (s := s.take _) hlink hlast he] at hexec
  refine ⟨fun (hdup : gapOf r.seq last = 255) => ?duplicate, fun (hgap : gapOf r.seq last ≠ 255) => ?gap⟩
  case duplicate => rw [hexec, if_pos hdup]
  case gap =>
    rw [if_neg hgap] at hexec
    refine ⟨_, hexec, rfl, rfl, rfl, rfl, rfl, ?totals, rfl, ?streaks, ?frame⟩
    case totals =>
      rw [realReport_frame]
      simp only [countReport, afterGap, addTotal_billFills]
      rfl
    case streaks =>
      refine ⟨_, exec_report_no_gap hread hgood hnone fun _ => rfl, ?_⟩
      rw [realReport_frame, realReport_frame]
      exact ⟨(acceptLink_of_lastSeq r _ (s.take (.metrologyFrame bytes (some 0)))).symm, rfl, rfl, rfl⟩
    case frame => rfl

/-! ## An idle millisecond (log entry 3) -/

theorem firstDue_none {xs : List (Bool × Instr)} (h : firstDue xs = none) : ∀ x ∈ xs, x.1 = false := by
  simpa [firstDue, List.find?_eq_none] using h

/-- While the part idles no work and no timer is due, and no request waits. -/
theorem Idle.nothing_due {s : State} (h : Idle s) :
    s.handed = [] ∧ (∀ x ∈ dueWork s, x.1 = false) ∧ ∀ x ∈ dueTimers s, x.1 = false := by
  obtain ⟨hgood, -, hdue⟩ := h
  unfold due at hdue
  rw [if_pos hgood] at hdue
  unfold dueMain at hdue
  split at hdue
  · cases hdue
  split at hdue
  · cases hdue
  split at hdue
  · cases hdue
  next hhead =>
    have hnone := firstDue_none hdue
    refine ⟨List.head?_eq_none_iff.mp hhead, fun x hx => hnone x ?_, fun x hx => hnone x ?_⟩
    · simp [hx]
    · simp [hx]

theorem step_idle {s : State} (h : Idle s) : step s = .next (elapseMain s) := by
  obtain ⟨hgood, hpending, hdue⟩ := h
  simp only [step, hpending, hdue, elapse, hgood, if_true]

theorem counts_tick {limit : Nat} {t : Timer} (h : t.due limit = false) : Counts limit t (t.tick limit) := by
  intro hrun
  have hlt : t.ms < limit := by simpa [Timer.due, hrun] using h
  refine ⟨hlt, ?_⟩
  simp only [Timer.tick, hrun, if_true]
  congr
  omega

/-- A timer of the part that is not due counts the idle millisecond. -/
theorem Idle.counts {s : State} (h : Idle s) {limit : Nat} {t : Timer} {i : Instr} (hmem : (t.due limit, i) ∈ dueTimers s) :
    Counts limit t (t.tick limit) := counts_tick (h.nothing_due.2.2 _ hmem)

/-! ## Timers and detections (R7 to R9, R13, R14, R16) -/

theorem Timer.due_eq_true {t : Timer} {limit : Nat} (hrun : t.running = true) (hms : limit ≤ t.ms) : t.due limit = true := by
  simp [Timer.due, hrun, hms]

theorem Timer.due_eq_false {t : Timer} {limit : Nat} (h : t.running = false ∨ t.ms < limit) : t.due limit = false := by
  simp only [Timer.due, Bool.and_eq_false_iff, decide_eq_false_iff_not, not_le]
  exact h

theorem exec_silenceExpiry {s : State} (hgood : mainGood s = true) (hdue : s.mlr.silence.due silenceMs = true) :
    exec .silenceExpiry s =
      .next (handFlag false (present .metrologyLost true { s.take .silenceExpiry with
        mlr := { s.mlr with link := .lost, silence := .stopped, linkCut := .started, linkCutRaised := false } })) := by
  change execSilenceExpiry s = _
  simp [execSilenceExpiry, inMain_good hgood, hdue]

/-- Settles O6, by the guard of each expiry and of each detection. -/
theorem timersAndDetections : Obligations.TimersAndDetections := by
  refine ⟨⟨fun s hgood hrun hms => ?silence, fun s hgood => ⟨fun hnot => ?early, fun hnot => ?earlyCut⟩,
      fun s hidle => ?idle, fun s hgood hrun hms => ?linkCut⟩,
    fun s hgood hout hlimit => ?imbalance, fun s hgood hin hlimit => ?episode, fun s hgood hlow hlimit => ?reverse,
    fun s hgood hraised hlimit => ?rearm, fun s hgood hlimit => ?overload⟩
  case silence =>
    refine ⟨_, exec_silenceExpiry hgood (Timer.due_eq_true hrun hms), rfl, rfl, magneticTimers_frame _ _, ?_, rfl⟩
    have htimed := magneticTimed_handFlag false (present .metrologyLost true { s.take .silenceExpiry with
      mlr := { s.mlr with link := .lost, silence := .stopped, linkCut := .started, linkCutRaised := false } })
    rw [Bool.or_false] at htimed
    exact htimed
  case early =>
    change execSilenceExpiry s = _
    simp [execSilenceExpiry, inMain_good hgood, silenceMs, Timer.due_eq_false hnot]
  case earlyCut =>
    change execLinkCutExpiry s = _
    simp [execLinkCutExpiry, inMain_good hgood, linkCutMs, Timer.due_eq_false hnot]
  case idle =>
    exact ⟨_, step_idle hidle, hidle.counts (i := .silenceExpiry) (by simp [dueTimers, silenceMs]),
      hidle.counts (i := .linkCutExpiry) (by simp [dueTimers, linkCutMs])⟩
  case linkCut =>
    change execLinkCutExpiry s = _
    have hdue : (s.take .linkCutExpiry).mlr.linkCut.due linkCutMs = true := Timer.due_eq_true hrun hms
    simp only [execLinkCutExpiry, inMain_good hgood]
    rw [if_pos hdue]
    rfl
  case imbalance =>
    change execImbalanceDetect s = _
    rw [execImbalanceDetect, inMain_good hgood, detectImbalance, if_pos (by simp [imbalanceFound, imbalanceRun, hout, hlimit])]
    rfl
  case episode =>
    change execImbalanceEpisodeEnd s = _
    rw [execImbalanceEpisodeEnd, inMain_good hgood, endImbalance, if_pos (by simp [balanceFound, imbalanceRun, hin, hlimit])]
    rfl
  case reverse =>
    change execReverseFlowDetect s = _
    rw [execReverseFlowDetect, inMain_good hgood, detectReverse, if_pos (by simp [reverseFound, reverseRun, hlow, hlimit])]
    rfl
  case rearm =>
    change execReverseFlowRearm s = _
    rw [execReverseFlowRearm, inMain_good hgood, rearmReverse, if_pos (by simp [rearmFound, reverseRun, hraised, hlimit])]
    rfl
  case overload =>
    change execOverloadDetect s = _
    rw [execOverloadDetect, inMain_good hgood, detectOverload, if_pos (by simp [overloadFound, overloadRun, hlimit])]
    rfl

end Sys2Proof.Machine

/-! PROOF. Responses, the tests of a port, and what the reads send (10, 12). -/

namespace Sys2Proof.Machine

/-! ## Response frames (R182, R197) -/

theorem byteSum_eq_sum (bs : List Byte) : byteSum bs = bs.sum := by
  unfold byteSum
  rw [List.sum_eq_foldl]
  rfl

theorem byteSum_check (bs : List Byte) : byteSum (bs ++ [-byteSum bs]) = 0#8 := by
  simp only [byteSum_eq_sum, List.sum_append, List.sum_singleton]
  exact BitVec.add_right_neg _

/-- Settles O11, by the parts of a response frame. -/
theorem responsesFramed : Obligations.ResponsesFramed := by
  intro p r s _
  refine ⟨rfl, ?_, ?_, byteSum_check _, ?_, rfl⟩
  · simp [responseFrame]
  · simp [responseFrame]
  · cases p <;> rfl

/-! ## The tests of a port (R181, R182) -/

theorem runCommand_one {i : Instr} {p : Port} {permitted : Bool} {body : State → State × Reply} {s : State}
    (hgood : mainGood s = true) (h : (s.ports.line.get p).owed.length = 1) :
    runCommand i p permitted body s = .next (respond p (.bare .busy) (s.take i)) := by
  obtain ⟨r, hr⟩ := List.length_eq_one_iff.mp h
  simp [runCommand, inMain, hgood, hr]

theorem runCommand_two {i : Instr} {p : Port} {permitted : Bool} {body : State → State × Reply} {s : State}
    (hgood : mainGood s = true) (h : 2 ≤ (s.ports.line.get p).owed.length) :
    runCommand i p permitted body s = .next (discardFrame p (s.take i)) := by
  obtain ⟨r, q, l, hl⟩ : ∃ r q l, (s.ports.line.get p).owed = r :: q :: l := by
    match howed : (s.ports.line.get p).owed with
    | [] | [_] => simp [howed] at h
    | r :: q :: l => exact ⟨r, q, l, rfl⟩
  simp [runCommand, inMain, hgood, hl]

/-- A command that comes on a port runs through the port's tests, with the permission of its code (R181, 10.4). -/
theorem exec_of_commandParts {i : Instr} {p : Port} {code : Byte} {args : List Byte}
    (h : commandParts i = some (p, code, args)) (s : State) :
    ∃ permitted body, exec i s = runCommand i p permitted body s ∧ permission code p = some permitted := by
  cases i with
  | requestEmergency | readCredit | readTotals | tariffOpen | tariffPut | tariffCommit | tariffCancel | readTariff
  | submitCode | codeResult | setCodeFloor | confirmReconnect | remoteOpen | remoteRelease | readSwitch
  | remoteTamperClear | readTamper | evidenceCollect | readLog | setEvidenceThreshold | clockSet | readClock | readStatus
  | readIdentity | provisionIdentity | lockIdentity | alertQuery | alertAck | setAlertLevels =>
    cases h
    unfold exec
    exact ⟨_, _, rfl, rfl⟩
  | _ => cases h

theorem exec_badFrame {p : Port} {frame : List Byte} {s : State} (hgood : mainGood s = true) :
    exec (.badFrame p frame) s = .next (testFrame p frame (s.take (.badFrame p frame))) := by
  change execBadFrame p frame s = _
  rw [execBadFrame, inMain_good hgood]

theorem refuseFrame_of_lt {p : Port} {s : State} (h : (s.ports.line.get p).owed.length < 2) (st : Status) :
    refuseFrame p st s = respond p (.bare st) s := if_pos h

theorem refuseFrame_of_le {p : Port} {s : State} (h : 2 ≤ (s.ports.line.get p).owed.length) (st : Status) :
    refuseFrame p st s = discardFrame p s := if_neg (not_lt.mpr h)

theorem testFrame_bad {p : Port} {frame : List Byte} {s : State} (h : byteSum (0xC3#8 :: frame) ≠ 0#8) :
    testFrame p frame s = refuseFrame p .frameError s := by
  simp [testFrame, sumsToZero, h]

theorem testFrame_owing {p : Port} {frame : List Byte} {s : State} (h : byteSum (0xC3#8 :: frame) = 0#8)
    (howed : (s.ports.line.get p).owed ≠ []) : testFrame p frame s = refuseFrame p .busy s := by
  simp [testFrame, sumsToZero, h, howed]

theorem testFrame_free {p : Port} {frame : List Byte} {s : State} (h : byteSum (0xC3#8 :: frame) = 0#8)
    (howed : (s.ports.line.get p).owed.length = 0) :
    (permission (frame.getD 1 0#8) p = none → testFrame p frame s = respond p (.bare .unknownCommand) s) ∧
    (permission (frame.getD 1 0#8) p = some false → testFrame p frame s = respond p (.bare .notPermitted) s) ∧
    (permission (frame.getD 1 0#8) p = some true →
      readArguments p (frame.getD 1 0#8) ((frame.drop 2).dropLast) = none →
      testFrame p frame s = respond p (.bare .badArgument) s) := by
  have hrefuse : ∀ st, refuseFrame p st s = respond p (.bare st) s := refuseFrame_of_lt (by omega)
  have hempty : (s.ports.line.get p).owed = [] := List.length_eq_zero_iff.mp howed
  simp only [← hrefuse, testFrame, sumsToZero, h, hempty, frameParts, beq_self_eq_true, List.isEmpty_nil, Bool.not_true,
    Bool.false_eq_true, if_false]
  exact ⟨fun hcode => by simp only [hcode], fun hcode => by simp only [hcode], fun hcode hargs => by
    simp only [hcode, hargs]⟩

theorem testFrame_two {p : Port} {frame : List Byte} {s : State} (h : 2 ≤ (s.ports.line.get p).owed.length) :
    testFrame p frame s = discardFrame p s := by
  by_cases hsum : byteSum (0xC3#8 :: frame) = 0#8
  · rw [testFrame_owing hsum (List.ne_nil_of_length_pos (by omega)), refuseFrame_of_le h]
  · rw [testFrame_bad hsum, refuseFrame_of_le h]

theorem testFrame_one {p : Port} {frame : List Byte} {s : State} (h : byteSum (0xC3#8 :: frame) = 0#8)
    (howed : (s.ports.line.get p).owed.length = 1) : testFrame p frame s = respond p (.bare .busy) s := by
  rw [testFrame_owing h (List.ne_nil_of_length_pos (by omega)), refuseFrame_of_lt (by omega)]

theorem permission_table (code : Byte) (p : Port) :
    permission code p =
      if code.toNat ∈ [0x01, 0x02, 0x03, 0x04, 0x05, 0x06, 0x07, 0x08, 0x09, 0x10, 0x11, 0x12, 0x18, 0x19] then some true
      else if code.toNat = 0x20 ∨ code.toNat = 0x21 then some (decide (p = .meter))
      else if 0x30 ≤ code.toNat ∧ code.toNat ≤ 0x3C then some (decide (p = .network))
      else none := by
  have hmeter : onMeterPort p = decide (p = .meter) := rfl
  have hnetwork : onNetwork p = decide (p = .network) := rfl
  unfold permission
  split
  case h_30 =>
    simp only [imp_false] at *
    rw [if_neg (by simp [*]), if_neg (by omega), if_neg (by omega)]
  all_goals simp [*]

theorem readOnly_ready {i : Instr} {p : Port} {f : State → List Byte} {s : State} (h : Ready p s) :
    runCommand i p true (readOnly f) s = .next (respond p ⟨.ok, f (s.take i)⟩ (s.take i)) := runCommand_ready h

/-- Settles O12, by the tests one after another. -/
theorem portTestsInOrder : Obligations.PortTestsInOrder := by
  refine ⟨fun i p code args s hparts hgood => ?command, fun p frame s hgood => ?frame, permission_table⟩
  case command =>
    obtain ⟨permitted, body, hexec, hpermission⟩ := exec_of_commandParts hparts s
    rw [hexec]
    refine ⟨runCommand_one hgood, runCommand_two hgood, rfl, fun howed hnot => ?_⟩
    rw [hpermission] at hnot
    cases hnot
    exact runCommand_notPermitted ⟨hgood, howed⟩
  case frame =>
    dsimp only
    rw [exec_badFrame hgood]
    have hfree := fun hsum hnone => testFrame_free (p := p) (frame := frame) (s := s.take (.badFrame p frame)) hsum hnone
    refine ⟨fun htwo => congrArg _ (testFrame_two (s := s.take _) htwo), fun hlt hbad => congrArg _ ?_,
      fun hone hsum => congrArg _ (testFrame_one (s := s.take _) hsum hone),
      fun hnone hsum hcode => congrArg _ ((hfree hsum hnone).1 hcode),
      fun hnone hsum hcode => congrArg _ ((hfree hsum hnone).2.1 hcode),
      fun hnone hsum hcode hargs => congrArg _ ((hfree hsum hnone).2.2 hcode hargs)⟩
    rw [testFrame_bad hbad, refuseFrame_of_lt (s := s.take _) hlt]

/-! ## Reads (R17, R42, R111, R135, R188, R193) -/

/-- A command that leaves the state and only replies. -/
theorem runCommand_of_fixed {i : Instr} {p : Port} {body : State → State × Reply} {s : State} (h : Ready p s)
    (hfixed : ∀ u, (body u).1 = u) : ∃ r, runCommand i p true body s = .next (respond p r (s.take i)) :=
  ⟨_, (runCommand_ready h).trans (by rw [hfixed])⟩

theorem exec_readOnly {p : Port} {c : Instr} {s : State} (h : Ready p s)
    (hc : c ∈ [Instr.readTotals p, .readCredit p, .readSwitch p, .readTamper p, .readClock p, .readIdentity p,
      .readStatus p, .alertQuery p]) : ∃ d, exec c s = .next (respond p ⟨.ok, d⟩ (s.take c)) := by
  simp only [List.mem_cons, List.not_mem_nil, or_false] at hc
  rcases hc with rfl | rfl | rfl | rfl | rfl | rfl | rfl | rfl
  all_goals
    unfold exec
    exact ⟨_, readOnly_ready h⟩

theorem exec_readTariff {p : Port} {sel group : Byte} {s : State} (h : Ready p s) :
    ∃ r, exec (.readTariff p sel group) s = .next (respond p r (s.take (.readTariff p sel group))) := by
  unfold exec
  refine runCommand_of_fixed h fun u => ?_
  split <;> rfl

theorem exec_readLog {p : Port} {first : BitVec 32} {n : Byte} {s : State} (h : Ready p s) :
    ∃ r, exec (.readLog p first n) s = .next (respond p r (s.take (.readLog p first n))) := by
  unfold exec
  refine runCommand_of_fixed h fun u => ?_
  split <;> rfl

theorem exec_codeResult {p : Port} {ticket : Byte} {s : State} (h : Ready p s) :
    exec (.codeResult p ticket) s =
      .next (respond p (lookUpTicket p ticket (s.take (.codeResult p ticket))) (s.take (.codeResult p ticket))) := by
  change execCodeResult p ticket s = _
  exact runCommand_ready (body := fun s => (s, lookUpTicket p ticket s)) h

theorem exec_readTotals {p : Port} {s : State} (h : Ready p s) :
    exec (.readTotals p) s =
      .next
        (respond p
          ⟨.ok,
           beNat 6 s.totals.imported ++ beNat 6 s.totals.neutral ++ beNat 6 s.totals.exported ++
           beNat 6 s.totals.billed ++ beNat 6 s.totals.band.b0 ++ beNat 6 s.totals.band.b1 ++ beNat 6 s.totals.band.b2 ++
           beNat 6 s.totals.band.b3 ++ beNat 2 s.mlr.badReports ++ beNat 1 (linkCode s.mlr.link)⟩
          (s.take (.readTotals p))) := by
  unfold exec
  exact readOnly_ready h

theorem exec_readCredit {p : Port} {s : State} (h : Ready p s) :
    exec (.readCredit p) s = .next (respond p ⟨.ok, creditBytes (s.take (.readCredit p))⟩ (s.take (.readCredit p))) := by
  change execReadCredit p s = _
  exact readOnly_ready h

theorem exec_readSwitch {p : Port} {s : State} (h : Ready p s) :
    exec (.readSwitch p) s = .next (respond p ⟨.ok, switchBytes s⟩ (s.take (.readSwitch p))) := by
  unfold exec
  exact readOnly_ready h

theorem exec_readTamper {p : Port} {s : State} (h : Ready p s) :
    exec (.readTamper p) s = .next (respond p ⟨.ok, tamperBytes s⟩ (s.take (.readTamper p))) := by
  unfold exec
  exact readOnly_ready h

/-! ### The selected class (R193) -/

/-- Some pending class has the highest level, so no class is selected only when none is pending. -/
theorem pending_eq_nil_of_selected {a : PortAlert} (h : a.selected = none) : a.pending = [] := by
  by_contra hne
  obtain ⟨c, hc, hmax⟩ := Finset.exists_max_image a.pending.toFinset (fun d => a.levels.get d)
    ((List.toFinset_nonempty_iff _).mpr hne)
  have hnone := List.find?_eq_none.mp h c (List.mem_toFinset.mp hc)
  simp only [List.all_eq_true, decide_eq_true_eq, not_forall] at hnone
  obtain ⟨d, hd, hlt⟩ := hnone
  exact hlt (hmax d (List.mem_toFinset.mpr hd))

theorem mem_allClasses (c : AlertClass) : c ∈ allClasses := by
  cases c with
  | latched k => cases k <;> decide
  | condition k => cases k <;> decide

theorem line_eq_false_of_pending {a : PortAlert} (h : a.pending = []) : a.line = false := by
  have hnone : ∀ c ∈ allClasses, (a.classes.get c).pending = false := by
    simpa [PortAlert.pending, List.filter_eq_nil_iff] using h
  simp only [PortAlert.line, List.any_eq_false]
  intro c hc
  simp [hnone c hc]

theorem exec_alertQuery {p : Port} {s : State} (h : Ready p s) :
    exec (.alertQuery p) s = .next (respond p ⟨.ok, queryBytes p s⟩ (s.take (.alertQuery p))) := by
  unfold exec
  exact readOnly_ready h

theorem queryBytes_of_none {p : Port} {s : State} (h : (s.alert.ports.get p).selected = none) :
    queryBytes p s = [0#8, 0#8, 0#8, 0#8, 0#8] := by
  have hpending := pending_eq_nil_of_selected h
  have hline : alertLine p s = false := by simp [alertLine, line_eq_false_of_pending hpending]
  simp only [queryBytes, h, hpending, hline]
  rfl

theorem queryBytes_of_some {p : Port} {s : State} {k : AlertClass} (h : (s.alert.ports.get p).selected = some k) :
    queryBytes p s =
      [BitVec.ofNat 8 (alertClassNumber k), BitVec.ofNat 8 ((s.alert.ports.get p).levels.get k),
        ((s.alert.ports.get p).classes.get k).count, BitVec.ofNat 8 (s.alert.ports.get p).pending.length] ++
      (s.alert.ports.get p).pending.flatMap
        (fun j => [BitVec.ofNat 8 (alertClassNumber j), ((s.alert.ports.get p).classes.get j).count]) ++
      flagByte [alertLine p s] := by
  simp only [queryBytes, h, beNat_one, List.cons_append, List.nil_append]

/-! ### The layouts -/

theorem append_congr {α : Type} {a b c d : List α} (h : a = b) (k : c = d) : a ++ c = b ++ d := by rw [h, k]

theorem answer_congr {p : Port} {d e : List Byte} {s : State} (h : d = e) :
    (.next (respond p ⟨.ok, d⟩ s) : Result) = .next (respond p ⟨.ok, e⟩ s) := by rw [h]

/-- Settles O13, by the reading of each layout. -/
theorem readsAnswered : Obligations.ReadsAnswered := by
  refine ⟨fun p c s h => ⟨exec_readOnly h, ?_⟩, fun p s h => ⟨?totals, ?credit, ?identity⟩,
    fun p s h => ⟨?switch, ?tamper⟩, fun p s h => ⟨fun hnone => ?noClass, fun k hk => ?someClass⟩⟩
  · rintro (⟨sel, g, rfl⟩ | ⟨first, n, rfl⟩ | ⟨k, rfl⟩)
    · exact exec_readTariff h
    · exact exec_readLog h
    · exact ⟨_, exec_codeResult h⟩
  case totals =>
    rw [exec_readTotals h]
    cases s.mlr.link <;> rfl
  case credit =>
    refine ⟨_, exec_readCredit h, rfl, rfl, rfl, rfl, rfl, rfl, ?_, rfl, rfl, rfl⟩
    cases he : s.bill.emergency <;> simp [creditBytes, he] <;> rfl
  case identity =>
    unfold exec
    exact readOnly_ready h
  case switch =>
    refine (exec_readSwitch h).trans (answer_congr ?_)
    refine append_congr (append_congr (append_congr (append_congr (append_congr ?_ ?_) ?_) rfl) ?_) rfl
    · rw [List.append_assoc]
      refine append_congr ?_ ?_
      · cases s.sw.state <;> rfl
      · cases s.sw.phase with
        | none => rfl
        | some ph => cases ph <;> rfl
    · cases s.sw.position <;> rfl
    · exact beNat_one _
    · rfl
  case tamper =>
    refine (exec_readTamper h).trans (answer_congr ?_)
    refine append_congr (append_congr (append_congr (append_congr (append_congr (append_congr (append_congr
      (append_congr rfl ?_) rfl) ?_) ?_) rfl) rfl) rfl) rfl
    · cases hcover : s.tamper.latch.cover <;> cases hterminal : s.tamper.latch.terminal <;>
        simp only [coverFlags, PerCover.get, hcover, hterminal] <;> rfl
    · cases s.tamper.latch.cover <;> rfl
    · cases s.tamper.latch.terminal <;> rfl
  case noClass => rw [exec_alertQuery h, queryBytes_of_none hnone]
  case someClass => rw [exec_alertQuery h, queryBytes_of_some hk]; rfl

theorem exec_readStatus {p : Port} {s : State} (h : Ready p s) :
    exec (.readStatus p) s = .next (respond p ⟨.ok, statusBytes s⟩ (s.take (.readStatus p))) := by
  unfold exec
  exact readOnly_ready h

/-! ### The slices of READ_STATUS (12.8) -/

theorem statusBytes_cause (s : State) :
    (statusBytes s).take 3 =
      beNat 1 (causeCode s.supmon.cause) ++
      flagByte [s.supmon.failTime.isSome, s.supmon.brownOut, s.supmon.request, s.supmon.lastDone.isSome, s.cal.valid,
                s.sw.set.credit, s.tariff.commissioned, s.sw.fault] ++
      flagByte [s.tamper.magnetic, s.identity.working.provisioned, s.identity.working.locked,
                s.supmon.writer != .idle] := rfl

theorem length_statusBytes (s : State) : (statusBytes s).length = 79 := rfl

theorem statusBytes_slots (s : State) :
    ((statusBytes s).drop 3).take 26 =
      beNat 4 (s.supmon.failTime.getD 0) ++
      beNat 6 (match s.supmon.writer with | .writing _ c _ => c.seq | .idle => 0) ++
      beNat 6 (match s.supmon.lastDone with | some d => d.seq | none => 0) ++
      beNat 4 (match s.supmon.lastDone with | some d => d.time | none => 0) ++ beNat 6 s.supmon.nextSeq := rfl

theorem statusBytes_code (s : State) :
    ((statusBytes s).drop 40).take 12 =
      beNat 3 s.code.lowMark ++ beNat 1 s.code.accepted.length ++
      beNat 1 s.code.lockout.meter.failures ++ beNat 1 s.code.lockout.meter.k ++
      beNat 2 s.code.lockout.meter.penalty ++
      beNat 1 s.code.lockout.network.failures ++ beNat 1 s.code.lockout.network.k ++
      beNat 2 s.code.lockout.network.penalty := rfl

theorem statusBytes_tamper (s : State) :
    ((statusBytes s).drop 55).take 12 = beNat 4 s.tamper.ts ++ beNat 4 s.tamper.tsLock ++ beNat 4 s.tamper.tsClear := rfl

theorem statusBytes_log (s : State) :
    ((statusBytes s).drop 67).take 7 =
      beNat 1 s.log.records.length ++ beNat 1 s.log.uncollected ++ beNat 2 s.log.overflow ++ beNat 2 s.log.dropped ++
      beNat 1 s.log.staging.length := rfl

theorem statusBytes_money (s : State) :
    ((statusBytes s).drop 29).take 11 =
      beNat 4 s.cal.t ++ beNat 1 s.cal.hold.length ++ beNat 1 (linkCode s.mlr.link) ++
      beNat 1 (emergencyCode s.bill.emergency) ++ beNat 1 (slotCode s.tariff.slot) ++
      beNat 1 (imageCode s.tariff.imageState) ++ beNat 1 s.code.queue.length ++ beNat 1 (flightCode s.code.flight) := rfl

theorem statusBytes_supply (s : State) :
    ((statusBytes s).drop 52).take 3 =
      beNat 1 (switchStateCode s.sw.state) ++ beNat 1 (positionCode s.sw.position) ++ beNat 1 (demandCode s.sw.set) := rfl

theorem statusBytes_ports (s : State) :
    (statusBytes s).drop 74 =
      beNat 2 s.ports.line.meter.discarded ++ beNat 2 s.ports.line.network.discarded ++
      beNat 1 (baudCode s.ports.baud) := rfl

/-- Settles O14, slice by slice of the 79 bytes, each of which holds the codes of its items. -/
theorem statusAnswered : Obligations.StatusAnswered := by
  intro p s h
  refine ⟨_, exec_readStatus h, length_statusBytes s, ?cause, ?slots, ?money, statusBytes_code s, ?supply,
    statusBytes_tamper s, statusBytes_log s, ?ports⟩
  case cause =>
    rw [statusBytes_cause]
    refine append_congr (append_congr ?_ rfl) ?_
    · cases s.supmon.cause <;> rfl
    · cases s.supmon.writer <;> rfl
  case slots =>
    rw [statusBytes_slots]
    refine append_congr (append_congr (append_congr (append_congr rfl ?_) ?_) ?_) rfl
    · cases s.supmon.writer <;> rfl
    · cases s.supmon.lastDone <;> rfl
    · cases s.supmon.lastDone <;> rfl
  case money =>
    rw [statusBytes_money]
    refine append_congr (append_congr (append_congr (append_congr (append_congr (append_congr rfl ?_) ?_) ?_) ?_) rfl) ?_
    · cases s.mlr.link <;> rfl
    · cases s.bill.emergency <;> rfl
    · cases s.tariff.slot <;> simp [slotCode, beNat_one]
    · cases s.tariff.imageState <;> rfl
    · cases s.code.flight with
      | none => rfl
      | some fl => cases hphase : fl.phase <;> simp [flightCode, hphase, beNat_one]
  case supply =>
    rw [statusBytes_supply]
    refine append_congr (append_congr ?_ ?_) (beNat_one _)
    · cases s.sw.state <;> rfl
    · cases s.sw.position <;> rfl
  case ports =>
    rw [statusBytes_ports]
    refine append_congr rfl ?_
    cases s.ports.baud <;> rfl

end Sys2Proof.Machine

/-! PROOF. Alerts under the operations of the blocks, tariff activation and the tariff image (11; 03, 3.4 and 3.6). -/

namespace Sys2Proof.Machine

/-! ## Classes of a port (R190, R191) -/

theorem PerClass.get_set_self {α : Type} (v : PerClass α) (c : AlertClass) (x : α) : (v.set c x).get c = x := by
  cases c with
  | latched k => cases k <;> rfl
  | condition k => cases k <;> rfl

theorem PerClass.get_set_ne {α : Type} (v : PerClass α) {c d : AlertClass} (x : α) (h : d ≠ c) :
    (v.set c x).get d = v.get d := by
  cases c with
  | latched k =>
    cases d with
    | latched j => cases k <;> cases j <;> first | rfl | exact absurd rfl h
    | condition j => cases k <;> rfl
  | condition k =>
    cases d with
    | latched j => cases k <;> rfl
    | condition j => cases k <;> cases j <;> first | rfl | exact absurd rfl h

/-- The latched classes of both ports stand in b as in a. -/
def LatchedSame (a b : State) : Prop :=
  ∀ p k, (b.alert.ports.get p).classes.get (.latched k) = (a.alert.ports.get p).classes.get (.latched k)

theorem LatchedSame.of_alert {a b : State} (h : b.alert = a.alert) : LatchedSame a b := fun p k => by rw [h]

theorem LatchedSame.trans {a b c : State} (hab : LatchedSame a b) (hbc : LatchedSame b c) : LatchedSame a c :=
  fun p k => (hbc p k).trans (hab p k)

theorem PortAlert.raise_get_self (c : AlertClass) (a : PortAlert) :
    (a.raise c).classes.get c = ⟨true, (a.classes.get c).count + 1⟩ := PerClass.get_set_self _ _ _

theorem PortAlert.raise_get_ne {c d : AlertClass} (a : PortAlert) (h : d ≠ c) :
    (a.raise c).classes.get d = a.classes.get d := PerClass.get_set_ne _ _ h

theorem latchedSame_present (c : ConditionClass) (now : Bool) (s : State) : LatchedSame s (present c now s) := by
  have hraise (a : PortAlert) (k : LatchedClass) :
      (a.raise (.condition c)).classes.get (.latched k) = a.classes.get (.latched k) :=
    PortAlert.raise_get_ne a (by simp)
  intro p k
  simp only [present_alert, Alert.present]
  split
  · cases p with
    | meter =>
      change (if onMeter c then s.alert.ports.meter.raise (.condition c) else s.alert.ports.meter).classes.get _ = _
      split
      · exact hraise _ k
      · rfl
    | network => exact hraise _ k
  · rfl

theorem latchedSame_settleSwitch (w : Switch) (s : State) : LatchedSame s (settleSwitch w s) :=
  fun p k => latchedSame_present .armed ((settleSwitch w s).sw.state == .armed) s p k

/-- A demand signals no latched class (R93). -/
theorem latchedSame_demand (m : Member) (add : Bool) (s : State) : LatchedSame s (demand m add s) := by
  have hrules : LatchedSame s (applyRules add { s with sw := { s.sw with set := s.sw.set.put m add } }) :=
    (LatchedSame.of_alert rfl).trans (latchedSame_settleSwitch _ { s with sw := { s.sw with set := s.sw.set.put m add } })
  unfold demand
  split
  · exact LatchedSame.of_alert rfl
  · dsimp only
    split
    · exact hrules.trans (latchedSame_present _ _ _)
    · exact hrules

theorem latchedSame_evaluateCredit (s : State) : LatchedSame s (evaluateCredit s) := by
  unfold evaluateCredit
  dsimp only
  refine LatchedSame.trans ?_ (latchedSame_present _ _ _)
  split
  · exact (LatchedSame.of_alert rfl).trans (latchedSame_demand _ _ _)
  · split
    · exact LatchedSame.of_alert rfl
    · exact (LatchedSame.of_alert rfl).trans (latchedSame_demand _ _ _)

/-- An evaluation signals no latched class (R38). -/
theorem latchedSame_evaluate (s : State) : LatchedSame s (evaluate s) :=
  ((LatchedSame.of_alert rfl).trans ((latchedSame_present _ _ _).trans (latchedSame_present _ _ _))).trans
    (latchedSame_evaluateCredit _)

/-- A class that is signalled in the middle, with its latched classes left alone before and behind. -/
theorem Signalled.of_latchedSame {k : LatchedClass} {p : Port} {a b c d : State} (hab : LatchedSame a b)
    (hbc : Signalled (.latched k) (b.alert.ports.get p) (c.alert.ports.get p)) (hcd : LatchedSame c d) :
    Signalled (.latched k) (a.alert.ports.get p) (d.alert.ports.get p) := by
  unfold Signalled at *
  rw [hcd p k, hbc, hab p k]

theorem signalled_occurrence (k : LatchedClass) (p : Port) (s : State) :
    Signalled (.latched k) (s.alert.ports.get p) ((occurrence k true true s).alert.ports.get p) := by
  cases p with
  | meter => exact PortAlert.raise_get_self _ _
  | network => exact PortAlert.raise_get_self _ _

/-! ## Activation (R57 to R59, R41) -/

@[simp] theorem replaceTariff_tariff (n : Tariff) (s : State) :
    (replaceTariff n s).tariff = { s.tariff with active := n, slot := .empty, commissioned := true } := by
  unfold replaceTariff
  dsimp only
  split <;> simp

theorem replaceTariff_set (n : Tariff) (s : State) :
    (replaceTariff n s).sw.set =
      { s.sw.set with uncommissioned := s.sw.set.uncommissioned && s.tariff.commissioned } := by
  unfold replaceTariff
  cases h : s.tariff.commissioned with
  | true => simp
  | false => simp [DemandSet.put]

@[simp] theorem replaceTariff_waiting (n : Tariff) (s : State) : (replaceTariff n s).sw.waiting = s.sw.waiting := by
  unfold replaceTariff
  dsimp only
  split <;> simp

theorem latchedSame_replaceTariff (n : Tariff) (s : State) : LatchedSame s (replaceTariff n s) := by
  unfold replaceTariff
  dsimp only
  split
  · exact LatchedSame.of_alert rfl
  · exact (LatchedSame.of_alert rfl).trans (latchedSame_demand _ _ _)

/-- What a request of an image write leaves of TARIFF, and the write that it starts or asks for (R62). -/
theorem requestImage_sets (s : State) :
    (requestImage s).tariff.active = s.tariff.active ∧ (requestImage s).tariff.slot = s.tariff.slot ∧
      (requestImage s).tariff.commissioned = s.tariff.commissioned ∧
      (requestImage s).tariff.imageState = .writing ∧
      (s.tariff.imageState = .writing →
        (requestImage s).tariff.imageRequest = true ∧
          (requestImage s).tariff.imageWriting = s.tariff.imageWriting ∧
          (requestImage s).tariff.image = s.tariff.image) ∧
      (s.tariff.imageState ≠ .writing →
        (requestImage s).tariff.imageRequest = false ∧
          (requestImage s).tariff.imageWriting = some ⟨s.tariff.active, 0⟩ ∧
          (requestImage s).tariff.image = .failing) := by
  unfold requestImage
  cases h : s.tariff.imageState with
  | writing => exact ⟨rfl, rfl, rfl, h, fun _ => ⟨rfl, rfl, rfl⟩, fun hnot => absurd rfl hnot⟩
  | current | stale => exact ⟨rfl, rfl, rfl, rfl, nofun, fun _ => ⟨rfl, rfl, rfl⟩⟩

/-- With no overload signal due an activation only clears the streak, and only where the limit is 0 (R16, R59). -/
theorem activateMlr_of_lt {s : State} (h : s.mlr.overload < 5) :
    activateMlr s = { s with mlr := { s.mlr with overload := if s.active.policy.ilim = 0 then 0 else s.mlr.overload } } := by
  have hfound : overloadFound s = false := decide_eq_false (not_le.mpr h)
  unfold activateMlr detectOverload
  rw [hfound]
  split <;> rfl

/-- The part that the evaluation of an activation finds (R58 steps 1 to 5, R59). -/
def activated (n : Tariff) (s : State) : State :=
  activateMlr (requestImage (requestCheckpoint
    (occurrence .tariffActivated true true
      (stageRoutine (recordNow .tariffActivated (replaceTariff n s)) (replaceTariff n s)))))

theorem activate_eq (n : Tariff) (s : State) : activate n s = evaluate (activated n s) := rfl

theorem activated_tariff (n : Tariff) (s : State) :
    (activated n s).tariff =
      (requestImage { s with tariff := { s.tariff with active := n, slot := .empty, commissioned := true } }).tariff := by
  unfold activated
  rw [activateMlr_tariff]
  unfold requestImage
  simp

theorem requestImage_active (s : State) : (requestImage s).active = s.active := by
  unfold requestImage State.active TariffStore.startImageWrite
  cases s.tariff.imageState <;> rfl

theorem activated_mlr {n : Tariff} {s : State} (h : s.mlr.overload < 5) :
    (activated n s).mlr = { s.mlr with overload := if n.policy.ilim = 0 then 0 else s.mlr.overload } := by
  unfold activated
  rw [activateMlr_of_lt (by simpa using h), requestImage_active]
  simp [State.active]

theorem activated_handed {n : Tariff} {s : State} (h : s.mlr.overload < 5) : (activated n s).handed = s.handed := by
  unfold activated
  rw [activateMlr_of_lt (by simpa using h)]
  simp

theorem activated_log (n : Tariff) (s : State) :
    (activated n s).log = s.log.offerRoutine (evidenceWaiting s) (recordNow .tariffActivated s) := by
  simp [activated, evidenceWaiting, recordNow]

theorem activated_sw (n : Tariff) (s : State) : (activated n s).sw = (replaceTariff n s).sw := by
  simp [activated]

theorem signalled_activate (n : Tariff) (p : Port) (s : State) :
    Signalled (.latched .tariffActivated) (s.alert.ports.get p) ((activate n s).alert.ports.get p) := by
  have hbehind : LatchedSame
      (occurrence .tariffActivated true true
        (stageRoutine (recordNow .tariffActivated (replaceTariff n s)) (replaceTariff n s))) (activated n s) :=
    LatchedSame.of_alert (by simp [activated])
  exact .of_latchedSame ((latchedSame_replaceTariff n s).trans (.of_alert rfl)) (signalled_occurrence _ p _)
    (hbehind.trans (latchedSame_evaluate _))

theorem activate_frame {n : Tariff} {s : State} (h : s.mlr.overload < 5) :
    activate n s =
      { s with
        tariff := (activate n s).tariff, sw := (activate n s).sw, log := (activate n s).log,
        alert := (activate n s).alert, supmon := (activate n s).supmon, bill := (activate n s).bill,
        mlr := (activate n s).mlr } := by
  have hhanded : (activate n s).handed = s.handed := by rw [activate_eq, evaluate_handed, activated_handed h]
  exact State.eq_of (handed := hhanded)

/-- What an activation does with no overload signal due (R58, R59, R41). -/
theorem activate_sets {n : Tariff} {s : State} (h : s.mlr.overload < 5) :
    (activate n s).tariff =
        (requestImage { s with tariff := { s.tariff with active := n, slot := .empty, commissioned := true } }).tariff ∧
      (activate n s).sw.set =
        { s.sw.set with
          credit := (activate n s).sw.set.credit,
          uncommissioned := s.sw.set.uncommissioned && s.tariff.commissioned } ∧
      (activate n s).log = s.log.offerRoutine (evidenceWaiting s) (recordNow .tariffActivated s) ∧
      (activate n s).supmon = { s.supmon with request := true } ∧
      (activate n s).bill =
        { s.bill with emergency := (activate n s).bill.emergency, deferral := (activate n s).bill.deferral } ∧
      CreditEvaluated s.bill.emergency s.sw.set.credit (activate n s) ∧
      (activate n s).mlr = { s.mlr with overload := if n.policy.ilim = 0 then 0 else s.mlr.overload } := by
  have hbill : (activated n s).bill = s.bill := by simp [activated]
  have hset : (activated n s).sw.set =
      { s.sw.set with uncommissioned := s.sw.set.uncommissioned && s.tariff.commissioned } := by
    rw [activated_sw, replaceTariff_set]
  have hcredit := creditEvaluated_evaluate (activated n s)
  rw [hbill, hset] at hcredit
  refine ⟨?_, ?_, ?_, ?_, ?_, hcredit, ?_⟩
  · rw [activate_eq, evaluate_tariff, activated_tariff]
  · rw [activate_eq, evaluate_set, hset]
  · rw [activate_eq, evaluate_log, activated_log]
  · rw [activate_eq, evaluate_supmon]
    simp [activated]
  · rw [activate_eq, evaluate_bill, hbill]
  · rw [activate_eq, evaluate_mlr, activated_mlr h]

theorem exec_tariffActivation {s : State} (hgood : mainGood s = true) (hgap : NoGapWaits s) :
    exec .tariffActivation s = .next (activationTest (s.take .tariffActivation)) := by
  change execTariffActivation s = _
  rw [execTariffActivation, inMain_good hgood, settleGap_none (noGapWaits_take hgap)]

theorem activationTest_of_due {n : Tariff} {time : Nat} {s : State} (hslot : s.tariff.slot = .armed n time)
    (hvalid : s.cal.valid = true) (hdue : time ≤ s.cal.t) : activationTest s = activate n s := by
  unfold activationTest dueTariff
  rw [hslot]
  simp [hvalid, hdue]

theorem activationTest_of_not_due {n : Tariff} {time : Nat} {s : State} (hslot : s.tariff.slot = .armed n time)
    (hnot : s.cal.valid = false ∨ s.cal.t < time) : activationTest s = s := by
  unfold activationTest dueTariff
  rw [hslot]
  rcases hnot with hinvalid | hearly
  · simp [hinvalid]
  · simp [not_le.mpr hearly]

theorem activationTest_of_not_armed {s : State} (hslot : ∀ n time, s.tariff.slot ≠ .armed n time) :
    activationTest s = s := by
  unfold activationTest dueTariff
  cases h : s.tariff.slot with
  | armed n time => exact absurd h (hslot n time)
  | empty | assembling _ => rfl

theorem exec_imageWriteComplete {s : State} (hgood : mainGood s = true) :
    exec .imageWriteComplete s =
      .next { s.take .imageWriteComplete with tariff := completeImage s.tariff } := by
  change execImageWriteComplete s = _
  rw [execImageWriteComplete, inMain_good hgood]
  rfl

/-- Settles O19, by the cases of the pending slot and of the image state. -/
theorem activationAndImage : Obligations.ActivationAndImage := by
  refine ⟨fun n time s hgood hgap hslot => ⟨fun hvalid hdue hoverload => ?due, fun hnot => ?notDue⟩,
    fun s hgood hgap hslot => ?unarmed, fun w s hgood hwriting => ⟨fun hrequest => ?held, fun hrequest => ?again⟩⟩
  case due =>
    have hexec := exec_tariffActivation hgood hgap
    rw [activationTest_of_due (s := s.take .tariffActivation) hslot hvalid hdue] at hexec
    obtain ⟨htariff, hset, hlog, hsupmon, hbill, hcredit, hmlr⟩ :=
      activate_sets (n := n) (s := s.take .tariffActivation) hoverload
    have hframe := activate_frame (n := n) (s := s.take .tariffActivation) hoverload
    have huncommissioned := congrArg DemandSet.uncommissioned hset
    have hmembers : (activate n (s.take .tariffActivation)).sw.set =
        { s.sw.set with
          credit := (activate n (s.take .tariffActivation)).sw.set.credit,
          uncommissioned := (activate n (s.take .tariffActivation)).sw.set.uncommissioned } := by
      rw [huncommissioned]
      exact hset
    obtain ⟨hactive, hslot', hcommissioned, hstate, hwriting, hstarted⟩ := requestImage_sets
      { s.take .tariffActivation with
        tariff :=
          { (s.take .tariffActivation).tariff with active := n, slot := .empty, commissioned := true } }
    rw [← htariff] at hactive hslot' hcommissioned hstate hwriting hstarted
    exact ⟨_, hexec, hactive, hslot', hcommissioned, huncommissioned, hmembers, hlog,
      signalled_activate n .meter (s.take .tariffActivation), signalled_activate n .network (s.take .tariffActivation),
      hsupmon, hstate, hwriting, hstarted, hbill, hcredit, hmlr, hframe⟩
  case notDue =>
    rw [exec_tariffActivation hgood hgap, activationTest_of_not_due (s := s.take .tariffActivation) hslot hnot]
  case unarmed =>
    rw [exec_tariffActivation hgood hgap, activationTest_of_not_armed (s := s.take .tariffActivation) hslot]
  case held =>
    rw [exec_imageWriteComplete hgood, completeImage, hwriting]
    simp [hrequest]
  case again =>
    rw [exec_imageWriteComplete hgood, completeImage, hwriting]
    simp [hrequest, TariffStore.startImageWrite]

end Sys2Proof.Machine

/-! PROOF. Codes on their way in: intake, the engine and the cipher (04, 4.1 to 4.3). -/

namespace Sys2Proof.Machine

/-! ## Intake (R64 to R66, R68) -/

theorem readDigits_of_bad {chars : List Byte}
    (h : chars.length ≠ 22 ∨ ∃ b ∈ chars, b.toNat < 0x30 ∨ 0x39 < b.toNat) : readDigits chars = none := by
  refine if_neg fun ⟨hlength, hall⟩ => ?_
  rcases h with hne | ⟨b, hb, hout⟩
  · exact hne hlength
  · have hrange := List.all_eq_true.mp hall b hb
    rw [Bool.and_eq_true, decide_eq_true_eq, decide_eq_true_eq] at hrange
    omega

theorem readDigits_of_good {chars : List Byte} (hlength : chars.length = 22)
    (hall : ∀ b ∈ chars, 0x30 ≤ b.toNat ∧ b.toNat ≤ 0x39) :
    readDigits chars = some (chars.map (fun b => b.toNat - 0x30)) :=
  if_pos ⟨hlength, List.all_eq_true.mpr fun b hb => by simpa using hall b hb⟩

theorem exec_submitCode {p : Port} {chars : List Byte} {s : State} (h : Ready p s) :
    exec (.submitCode p chars) s =
      .next (respond p (submitCode p chars (s.take (.submitCode p chars))).2
        (submitCode p chars (s.take (.submitCode p chars))).1) := by
  unfold exec
  exact runCommand_ready h

/-- Settles O20, by the intake tests in their order. -/
theorem codeIntake : Obligations.CodeIntake := by
  intro p chars s hready
  refine ⟨fun hbad => ?_, fun hlength hall => ?_⟩
  · rw [exec_submitCode hready, submitCode, readDigits_of_bad hbad]
  · rw [exec_submitCode hready, submitCode, readDigits_of_good hlength hall]
    refine ⟨fun hunknown => ?_, fun hprovisioned hkey => ⟨fun hcommissioned => ?_, fun hcommissioned hpenalty => ?_,
      fun hcommissioned hpenalty hfull => ?_, fun hcommissioned hpenalty hroom => ?_⟩⟩
    · have hbarred : (!(s.identity.working.provisioned && s.identity.working.key.isSome)) = true := by
        rcases hunknown with h | h <;> simp [h]
      simp [intake, hbarred]
    all_goals
      have hknown : (!(s.identity.working.provisioned && s.identity.working.key.isSome)) = false := by
        simp [hprovisioned, Option.isSome_iff_ne_none.mpr hkey]
    · simp [intake, hknown, hcommissioned]
    · simp [intake, hknown, hcommissioned, hpenalty]
    · simp [intake, hknown, hcommissioned, hpenalty, codeQueueMax, hfull]
    · simp [intake, hknown, hcommissioned, hpenalty, codeQueueMax, not_le.mpr hroom]

/-! ## The engine (R69, R73) -/

theorem exec_decipherEnd {s : State} (hgood : mainGood s = true) :
    exec .decipherEnd s = .next { s.take .decipherEnd with code := endDecipher s.code } := by
  change execDecipherEnd s = _
  rw [execDecipherEnd, inMain_good hgood]
  rfl

/-- The four fields, put together again, are the value they were split from (12.5). -/
theorem splitFields_value (w : BitVec 72) :
    ((((splitFields w).kind * 2 ^ 24 + (splitFields w).issue) * 2 ^ 32 + (splitFields w).payload) * 2 ^ 12 +
      (splitFields w).check) = w.toNat := by
  simp only [splitFields, BitVec.extractLsb'_toNat, Nat.shiftRight_eq_div_pow]
  have := w.isLt
  omega

theorem splitFields_lt (w : BitVec 72) :
    (splitFields w).issue < 2 ^ 24 ∧ (splitFields w).payload < 2 ^ 32 ∧ (splitFields w).check < 2 ^ 12 :=
  ⟨BitVec.isLt _, BitVec.isLt _, BitVec.isLt _⟩

/-- Settles O21, by the phases of the entry in the engine. -/
theorem engineDeciphers : Obligations.EngineDeciphers := by
  refine ⟨fun e rest key s hgood hfree hqueue hkey => ?take, fun e key ms s hgood hflight => ⟨fun hearly => ?early,
    fun hdue => ⟨decipherDigits key e.digits, ?ended, fun hlarge => if_pos hlarge, fun hsmall => ?fields⟩⟩⟩
  case take =>
    change execEngineTake s = _
    rw [execEngineTake, inMain_good hgood]
    simp [takeEntry, hfree, hqueue, hkey]
  case early =>
    rw [exec_decipherEnd hgood, endDecipher, hflight]
    simp only [decipherMs, not_le.mpr hearly, if_false]
    rfl
  case ended =>
    rw [exec_decipherEnd hgood, endDecipher, hflight]
    simp only [decipherMs, hdue, if_true]
  case fields =>
    obtain ⟨hissue, hpayload, hcheck⟩ := splitFields_lt (decipher key (codeValue e.digits))
    exact ⟨_, if_neg (not_le.mpr hsmall), hissue, hpayload, hcheck, splitFields_value _⟩

/-! ## The cipher (R73, R74) -/

/-- One round undoes one of the vending system's. -/
theorem cipherRound_encipherRound (x : BitVec 36 × BitVec 36) (k : BitVec 36) :
    cipherRound (encipherRound x k) k = x := by
  simp [cipherRound, encipherRound]

/-- Rounds under a list of keys undo the vending system's rounds under the list reversed. -/
theorem foldl_cipherRound_foldl_encipherRound (ks : List (BitVec 36)) (x : BitVec 36 × BitVec 36) :
    ks.foldl cipherRound (ks.reverse.foldl encipherRound x) = x := by
  induction ks generalizing x with
  | nil => rfl
  | cons k ks ih =>
    rw [List.reverse_cons, List.foldl_append, List.foldl_cons, List.foldl_cons, List.foldl_nil,
      cipherRound_encipherRound, ih]

theorem append_toNat (l r : BitVec 36) : (l ++ r).toNat = l.toNat * 2 ^ 36 + r.toNat := by
  rw [BitVec.toNat_append, ← Nat.shiftLeft_add_eq_or_of_lt r.isLt, Nat.shiftLeft_eq]

/-- The two halves of V (R74). -/
theorem halves_append (l r : BitVec 36) :
    (BitVec.ofNat 36 ((l ++ r).toNat / 2 ^ 36), BitVec.ofNat 36 (l ++ r).toNat) = (l, r) := by
  have hl := l.isLt
  have hr := r.isLt
  have happend := append_toNat l r
  refine Prod.ext (BitVec.eq_of_toNat_eq ?_) (BitVec.eq_of_toNat_eq ?_)
  · change _ = l.toNat
    rw [BitVec.toNat_ofNat, happend]
    omega
  · change _ = r.toNat
    rw [BitVec.toNat_ofNat, happend]
    omega

theorem extract_append (w : BitVec 72) : (w.extractLsb' 36 36 ++ w.extractLsb' 0 36 : BitVec 72) = w := by
  ext i hi
  simp only [BitVec.getElem_append, BitVec.getElem_extractLsb']
  split
  · rw [Nat.zero_add, BitVec.getLsbD_eq_getElem hi]
  · rw [show 36 + (i - 36) = i by omega, BitVec.getLsbD_eq_getElem hi]

theorem decipher_encipher (key : BitVec 144) (w : BitVec 72) : decipher key (encipher key w) = w := by
  unfold decipher encipher
  dsimp only
  rw [halves_append, foldl_cipherRound_foldl_encipherRound, extract_append]

theorem roundF_toNat (x k : BitVec 36) :
    (roundF x k).toNat =
      (x.toNat + k.toNat) % 2 ^ 36 * 40503 % 2 ^ 36 % 2 ^ 29 * 2 ^ 7 +
        (x.toNat + k.toNat) % 2 ^ 36 * 40503 % 2 ^ 36 / 2 ^ 29 := by
  have hm : ((x + k) * 40503#36).toNat = (x.toNat + k.toNat) % 2 ^ 36 * 40503 % 2 ^ 36 := by
    rw [BitVec.toNat_mul, BitVec.toNat_add, BitVec.toNat_ofNat]
  have hlow : ((x + k) * 40503#36).toNat <<< 7 % 2 ^ 36 = (((x + k) * 40503#36).toNat % 2 ^ 29) <<< 7 := by
    rw [Nat.shiftLeft_eq, Nat.shiftLeft_eq]
    omega
  have hhigh : ((x + k) * 40503#36).toNat >>> 29 < 2 ^ 7 := by
    rw [Nat.shiftRight_eq_div_pow]
    have := ((x + k) * 40503#36).isLt
    omega
  unfold roundF
  rw [BitVec.toNat_rotateLeft, ← hm]
  change _ <<< 7 % 2 ^ 36 ||| _ >>> 29 = _
  rw [hlow, ← Nat.shiftLeft_add_eq_or_of_lt hhigh, Nat.shiftLeft_eq, Nat.shiftRight_eq_div_pow]

/-- The slices of the key, from its most significant end (R74). -/
theorem roundKeys_eq {key : BitVec 144} {k1 k2 k3 k4 : BitVec 36}
    (h : key.toNat = ((k1.toNat * 2 ^ 36 + k2.toNat) * 2 ^ 36 + k3.toNat) * 2 ^ 36 + k4.toNat) :
    roundKeys key = [k1, k2, k3, k4] := by
  have h1 := k1.isLt
  have h2 := k2.isLt
  have h3 := k3.isLt
  have h4 := k4.isLt
  have hslice (i : Nat) (k : BitVec 36) (hk : key.toNat / 2 ^ i % 2 ^ 36 = k.toNat) : key.extractLsb' i 36 = k :=
    BitVec.eq_of_toNat_eq (by rw [BitVec.extractLsb'_toNat, Nat.shiftRight_eq_div_pow, hk])
  unfold roundKeys
  rw [hslice 108 k1 (by omega), hslice 72 k2 (by omega), hslice 36 k3 (by omega), hslice 0 k4 (by omega)]

/-- Settles O22, by the inverse of one round, the value of a rotation, and the slices of the key. -/
theorem cipherInverse : Obligations.CipherInverse := by
  refine ⟨fun key w => ⟨BitVec.isLt _, decipher_encipher key w⟩, roundF_toNat, fun key k1 k2 k3 k4 l0 r0 hkey => ?_⟩
  have hl : BitVec.ofNat 36 ((l0.toNat * 2 ^ 36 + r0.toNat) / 2 ^ 36) = l0 :=
    BitVec.eq_of_toNat_eq (by rw [BitVec.toNat_ofNat]; omega)
  have hr : BitVec.ofNat 36 (l0.toNat * 2 ^ 36 + r0.toNat) = r0 :=
    BitVec.eq_of_toNat_eq (by rw [BitVec.toNat_ofNat]; omega)
  unfold decipher
  rw [roundKeys_eq hkey, hl, hr]
  exact append_toNat _ _

end Sys2Proof.Machine

/-! PROOF. The judging of a code: its tests, what a refusal and an acceptance leave, and lockouts (04, 4.4 to 4.7). -/

namespace Sys2Proof.Machine

theorem PerPort.get_set_self {α : Type} (v : PerPort α) (p : Port) (x : α) : (v.set p x).get p = x := by
  cases p <;> rfl

theorem PerPort.get_set_ne {α : Type} (v : PerPort α) {p q : Port} (x : α) (h : q ≠ p) : (v.set p x).get q = v.get q := by
  cases p with
  | meter =>
    cases q with
    | meter => exact absurd rfl h
    | network => rfl
  | network =>
    cases q with
    | meter => rfl
    | network => exact absurd rfl h

theorem PerPort.set_get {α : Type} (v : PerPort α) (p : Port) : v.set p (v.get p) = v := by
  cases p <;> rfl

theorem PerPort.set_set {α : Type} (v : PerPort α) (p : Port) (x y : α) : (v.set p x).set p y = v.set p y := by
  cases p <;> rfl

@[simp] theorem evaluate_waiting (s : State) : (evaluate s).sw.waiting = s.sw.waiting := by
  unfold evaluate evaluateCredit
  dsimp only
  split
  · simp
  · split <;> simp

@[simp] theorem evidenceWaiting_evaluate (s : State) : evidenceWaiting (evaluate s) = evidenceWaiting s := by
  simp [evidenceWaiting]

/-! ## The judging tests (R76) -/

/-- A penalty of a port that has reached 0 has ended (R88; log entry 13). -/
def penaltyEnded (p : Port) (s : State) : State :=
  { s with code := { s.code with lockout := s.code.lockout.set p (s.code.lockout.get p).expire } }

/-- A code is well formed and its check agrees (R73, R75). -/
def Checked (fields : Option Deciphered) : Bool := fields.any (fun f => decide (f.check = codeCheck f))

theorem judgeFields_of_bad_check {f : Deciphered} (s : State) (h : f.check ≠ codeCheck f) :
    judgeFields (some f) s = { state := s, outcome := .checkFailed } := if_pos h

theorem judgeFields_of_unknown {f : Deciphered} (s : State) (hcheck : f.check = codeCheck f)
    (hkind : f.kind = 0 ∨ 4 < f.kind) : judgeFields (some f) s = { state := s, outcome := .unknownKind } := by
  simp [judgeFields, hcheck, hkind]

theorem judgeFields_of_old {f : Deciphered} {s : State} (hcheck : f.check = codeCheck f) (h1 : 1 ≤ f.kind)
    (h4 : f.kind ≤ 4) (hold : f.issue ≤ s.code.lowMark) :
    judgeFields (some f) s = { state := s, outcome := .old } := by
  have hkind : ¬(f.kind = 0 ∨ 4 < f.kind) := by omega
  simp [judgeFields, hcheck, hkind, hold]

theorem judgeFields_of_used {f : Deciphered} {s : State} (hcheck : f.check = codeCheck f) (h1 : 1 ≤ f.kind)
    (h4 : f.kind ≤ 4) (hlow : s.code.lowMark < f.issue) (hused : f.issue ∈ s.code.accepted) :
    judgeFields (some f) s = { state := s, outcome := .used } := by
  have hkind : ¬(f.kind = 0 ∨ 4 < f.kind) := by omega
  simp [judgeFields, hcheck, hkind, not_le.mpr hlow, hused]

theorem judgeFields_of_passes {f : Deciphered} {s : State} (hcheck : f.check = codeCheck f) (h1 : 1 ≤ f.kind)
    (h4 : f.kind ≤ 4) (hlow : s.code.lowMark < f.issue) (hnew : f.issue ∉ s.code.accepted) :
    judgeFields (some f) s = applyCode (codePart f) s := by
  have hkind : ¬(f.kind = 0 ∨ 4 < f.kind) := by omega
  simp [judgeFields, hcheck, hkind, not_le.mpr hlow, hnew]

/-- A refusal that does not count against the port, and leaves at most an evaluation (R77 to R79, R87). -/
def MildRefusal (s : State) (j : Judged) : Prop :=
  j.outcome ≠ .accepted ∧ countsAgainst j.outcome = false ∧ (j.state = s ∨ j.state = evaluate (settleGap s))

/-- A CREDIT code at the money (R28, R33). -/
def credited (payload : Nat) (s : State) : State :=
  { s with
    bill :=
      creditBill (s.bill.b + (creditAmount payload - recoveryShare payload s : Nat)) (recoveryShare payload s) s.bill }

/-- A TENANCY code at the money (R29, R33). -/
def newTenancy (payload : Nat) (s : State) : State :=
  { s with bill := endEmergency { s.bill with b := 0, d := payload * 1000, floor := false } }

theorem applyCredit_of_lt {payload : Nat} {s : State}
    (h : (s.active.charges.maxCredit : Int) <
      s.bill.b + (creditAmount payload - recoveryShare payload s : Nat)) :
    applyCredit payload s = { state := evaluate s, outcome := .overLimit } := if_pos h

theorem applyCredit_of_le {payload : Nat} {s : State}
    (h : s.bill.b + (creditAmount payload - recoveryShare payload s : Nat) ≤ s.active.charges.maxCredit) :
    applyCredit payload s =
      { state := evaluate (credited payload s), outcome := .accepted, share := some (recoveryShare payload s) } := if_neg (not_lt.mpr h)

theorem applyDebt_of_lt {payload : Nat} {s : State} (h : moneyMax < s.bill.d + payload * 1000) :
    applyDebt payload s = { state := evaluate s, outcome := .debtLimit } := if_pos h

theorem applyDebt_of_le {payload : Nat} {s : State} (h : s.bill.d + payload * 1000 ≤ moneyMax) :
    applyDebt payload s =
      { state := evaluate { s with bill := { s.bill with d := s.bill.d + payload * 1000 } }, outcome := .accepted } :=
  if_neg (not_lt.mpr h)

theorem applyTenancy_of_lt {payload : Nat} {s : State} (h : moneyMax < payload * 1000) :
    applyTenancy payload s = { state := evaluate s, outcome := .debtLimit } := if_pos h

theorem applyTenancy_of_le {payload : Nat} {s : State} (h : payload * 1000 ≤ moneyMax) :
    applyTenancy payload s =
      { state := evaluate (newTenancy payload s), outcome := .accepted } := if_neg (not_lt.mpr h)

theorem applyClearCode_of_accepted {code : CodePart} {s : State} (h : judgeClearance code.payload s = .accepted) :
    applyClearCode code s =
      { state := applyClearance code.payload (some code) s, outcome := .accepted } := by
  unfold applyClearCode
  rw [h]

theorem applyClearCode_of_refused {code : CodePart} {s : State} (h : judgeClearance code.payload s ≠ .accepted) :
    applyClearCode code s = { state := s, outcome := judgeClearance code.payload s } := by
  unfold applyClearCode
  split
  · contradiction
  · rfl

theorem judgeClearance_counts (c : Nat) (s : State) : countsAgainst (judgeClearance c s) = false := by
  unfold judgeClearance
  repeat' split
  all_goals rfl

/-- What the owning blocks answer to a code that passes CODE's own tests (R77 to R79). -/
theorem applyCode_cases (code : CodePart) (s : State) :
    (applyCode code s).outcome = .accepted ∨ MildRefusal s (applyCode code s) := by
  unfold applyCode
  split
  · split
    · exact .inr ⟨by simp, rfl, .inl rfl⟩
    · rcases le_or_gt ((settleGap s).bill.b + (creditAmount code.payload - recoveryShare code.payload (settleGap s) : Nat))
        (settleGap s).active.charges.maxCredit with h | h
      · rw [applyCredit_of_le h]
        exact .inl rfl
      · rw [applyCredit_of_lt h]
        exact .inr ⟨by simp, rfl, .inr rfl⟩
  · rcases le_or_gt ((settleGap s).bill.d + code.payload * 1000) moneyMax with h | h
    · rw [applyDebt_of_le h]
      exact .inl rfl
    · rw [applyDebt_of_lt h]
      exact .inr ⟨by simp, rfl, .inr rfl⟩
  · by_cases h : judgeClearance code.payload s = .accepted
    · rw [applyClearCode_of_accepted h]
      exact .inl rfl
    · rw [applyClearCode_of_refused h]
      exact .inr ⟨h, judgeClearance_counts _ s, .inl rfl⟩
  · rcases le_or_gt (code.payload * 1000) moneyMax with h | h
    · rw [applyTenancy_of_le h]
      exact .inl rfl
    · rw [applyTenancy_of_lt h]
      exact .inr ⟨by simp, rfl, .inr rfl⟩
  · exact .inr ⟨by simp, rfl, .inl rfl⟩

/-- The three ends of judging: a failure that counts, which touches nothing; a mild refusal; and acceptance of a checked code
with a new number (R76). -/
theorem judgeFields_cases (fields : Option Deciphered) (s : State) :
    (Checked fields = false ∧ (judgeFields fields s).state = s ∧ countsAgainst (judgeFields fields s).outcome = true) ∨
      (Checked fields = true ∧ MildRefusal s (judgeFields fields s)) ∨
      (Checked fields = true ∧ (judgeFields fields s).outcome = .accepted ∧
        ∃ f, fields = some f ∧ s.code.lowMark < f.issue ∧ f.issue ∉ s.code.accepted) := by
  cases fields with
  | none => exact .inl ⟨rfl, rfl, rfl⟩
  | some f =>
    by_cases hcheck : f.check = codeCheck f
    · have hchecked : Checked (some f) = true := decide_eq_true hcheck
      refine .inr ?_
      by_cases hkind : f.kind = 0 ∨ 4 < f.kind
      · rw [judgeFields_of_unknown s hcheck hkind]
        exact .inl ⟨hchecked, by simp, rfl, .inl rfl⟩
      · obtain ⟨h1, h4⟩ : 1 ≤ f.kind ∧ f.kind ≤ 4 := by omega
        by_cases hlow : f.issue ≤ s.code.lowMark
        · rw [judgeFields_of_old hcheck h1 h4 hlow]
          exact .inl ⟨hchecked, by simp, rfl, .inl rfl⟩
        · by_cases hused : f.issue ∈ s.code.accepted
          · rw [judgeFields_of_used hcheck h1 h4 (not_le.mp hlow) hused]
            exact .inl ⟨hchecked, by simp, rfl, .inl rfl⟩
          · rw [judgeFields_of_passes hcheck h1 h4 (not_le.mp hlow) hused]
            rcases applyCode_cases (codePart f) s with haccepted | hmild
            · exact .inr ⟨hchecked, haccepted, f, rfl, not_le.mp hlow, hused⟩
            · exact .inl ⟨hchecked, hmild⟩
    · rw [judgeFields_of_bad_check s hcheck]
      exact .inl ⟨decide_eq_false hcheck, rfl, rfl⟩

/-! ## The judged entry: refusal and acceptance (R70, R72, R80, R87) -/

/-- The judging of the entry in flight, from its fields. -/
def judgedAs (e : CodeEntry) (fields : Option Deciphered) (s : State) : Judged :=
  judgeFields fields (penaltyEnded e.port (s.take .codeJudging))

theorem exec_codeJudging {s : State} (hgood : mainGood s = true) :
    exec .codeJudging s = .next (judgeEntry (s.take .codeJudging)) := by
  change execCodeJudging s = _
  rw [execCodeJudging, inMain_good hgood]

theorem judgeEntry_of_refused {e : CodeEntry} {key : BitVec 144} {fields : Option Deciphered} {s : State}
    (hflight : s.code.flight = some ⟨e, key, .judging fields⟩) (h : (judgedAs e fields s).outcome ≠ .accepted) :
    judgeEntry (s.take .codeJudging) =
      refuseEntry ⟨e, key, .judging fields⟩ fields (judgedAs e fields s) := by
  unfold judgeEntry
  rw [State.take_code, hflight]
  dsimp only
  split
  · next hout => exact absurd hout h
  · rfl

theorem judgeEntry_of_accepted {e : CodeEntry} {key : BitVec 144} {f : Deciphered} {s : State}
    (hflight : s.code.flight = some ⟨e, key, .judging (some f)⟩) (h : (judgedAs e (some f) s).outcome = .accepted) :
    judgeEntry (s.take .codeJudging) =
      acceptEntry ⟨e, key, .judging (some f)⟩ (codePart f) (judgedAs e (some f) s) := by
  unfold judgeEntry
  rw [State.take_code, hflight]
  dsimp only
  split
  · next f' _ hf =>
      cases hf
      rfl
  · next hnot => exact absurd rfl (hnot f h)

/-- A failure's record, where the refusal counts (R81, R87). -/
def failureCounted (p : Port) (j : Judged) : State :=
  if countsAgainst j.outcome then
    stageRoutine (recordNow .codeRefused j.state)
      { j.state with code := { j.state.code with lockout := j.state.code.lockout.set p (j.state.code.lockout.get p).fail } }
  else j.state

theorem refuseEntry_eq (fl : Flight) (fields : Option Deciphered) (j : Judged) :
    refuseEntry fl fields j =
      finishEntry fl.entry.port ⟨fl.entry.ticket, j.outcome, resultCode fields j.outcome, none⟩
        (failureCounted fl.entry.port j) := rfl

theorem failureCounted_of_mild {p : Port} {j : Judged} (h : countsAgainst j.outcome = false) :
    failureCounted p j = j.state := by
  unfold failureCounted
  rw [h]
  rfl

theorem failureCounted_of_counts {p : Port} {j : Judged} (h : countsAgainst j.outcome = true) :
    failureCounted p j =
      stageRoutine (recordNow .codeRefused j.state)
        { j.state with
          code := { j.state.code with lockout := j.state.code.lockout.set p (j.state.code.lockout.get p).fail } } := by
  unfold failureCounted
  rw [h]
  rfl

/-- The result list of a port when an entry is DONE (R72, R85). -/
def resultsAfter (r : CodeResult) (old : List CodeResult) : List CodeResult :=
  (if resultsMax ≤ old.length then old.tail else old) ++ [r]

theorem resultsAfter_getLast? (r : CodeResult) (old : List CodeResult) : (resultsAfter r old).getLast? = some r := by
  simp [resultsAfter]

theorem resultsAfter_length {r : CodeResult} {old : List CodeResult} (h : old.length ≤ 4) :
    (resultsAfter r old).length = min old.length 3 + 1 := by
  unfold resultsAfter resultsMax
  split
  · simp
    omega
  · simp
    omega

theorem finishEntry_code (p : Port) (r : CodeResult) (s : State) :
    (finishEntry p r s).code =
      { s.code with flight := none, results := s.code.results.set p (resultsAfter r (s.code.results.get p)) } := rfl

theorem finishEntry_frame (p : Port) (r : CodeResult) (s : State) :
    finishEntry p r s = { s with code := (finishEntry p r s).code, alert := (finishEntry p r s).alert } := rfl

/-- DONE signals CODE_DONE to the entry's port (R72). -/
theorem signalled_finishEntry (p : Port) (r : CodeResult) (s : State) :
    Signalled (.latched .codeDone) (s.alert.ports.get p) ((finishEntry p r s).alert.ports.get p) := by
  cases p with
  | meter => exact PortAlert.raise_get_self _ _
  | network => exact PortAlert.raise_get_self _ _

theorem acceptIssue_frame (n : Nat) (c : CodeEngine) :
    acceptIssue n c = { c with accepted := (acceptIssue n c).accepted, lowMark := (acceptIssue n c).lowMark } := by
  unfold acceptIssue
  dsimp only
  split <;> rfl

/-- An issue number counts as consumed: it is in the list, or at or below the low mark (R83). -/
def Consumed (n : Nat) (c : CodeEngine) : Prop := n ∈ c.accepted ∨ n ≤ c.lowMark

theorem consumed_acceptIssue (n : Nat) (c : CodeEngine) : Consumed n (acceptIssue n c) := by
  have hmem : n ∈ insertIssue n c.accepted := (mem_insertIssue n n c.accepted).mpr (.inl rfl)
  unfold Consumed acceptIssue
  dsimp only
  split
  · cases hlist : insertIssue n c.accepted with
    | nil => simp [hlist] at hmem
    | cons x xs =>
      rw [hlist, List.mem_cons] at hmem
      rcases hmem with rfl | hmem
      · exact .inr (le_refl _)
      · exact .inl hmem
  · exact .inl hmem

/-- What was consumed stays consumed at an acceptance, since the list is ascending above the low mark (R83). -/
theorem consumed_acceptIssue_of_consumed {n k : Nat} {c : CodeEngine} (h : ListSound c.lowMark c.accepted)
    (hlow : c.lowMark < n) (hk : Consumed k c) : Consumed k (acceptIssue n c) := by
  obtain ⟨_, _, habove⟩ := h
  unfold Consumed acceptIssue
  dsimp only
  split
  · cases hlist : insertIssue n c.accepted with
    | nil =>
      have hmem : n ∈ insertIssue n c.accepted := (mem_insertIssue n n c.accepted).mpr (.inl rfl)
      simp [hlist] at hmem
    | cons x xs =>
      have hx : c.lowMark < x := by
        rcases (mem_insertIssue n x c.accepted).mp (by simp [hlist]) with rfl | hmem
        · exact hlow
        · exact habove x hmem
      rcases hk with hmem | hle
      · have hk' : k ∈ insertIssue n c.accepted := (mem_insertIssue n k c.accepted).mpr (.inr hmem)
        rw [hlist, List.mem_cons] at hk'
        rcases hk' with rfl | hk'
        · exact .inr (le_refl _)
        · exact .inl hk'
      · exact .inr (hle.trans hx.le)
  · exact hk.imp (fun hmem => (mem_insertIssue n k c.accepted).mpr (.inr hmem)) id

theorem acceptEntry_code (fl : Flight) (code : CodePart) (j : Judged) :
    (acceptEntry fl code j).code =
      { acceptIssue code.issue j.state.code with
        lockout := (acceptIssue code.issue j.state.code).lockout.set fl.entry.port Lockout.clear
        flight := some { fl with phase := .persisting code j.share false } } := rfl

theorem acceptEntry_log (fl : Flight) (code : CodePart) (j : Judged) :
    (acceptEntry fl code j).log =
      j.state.log.offerRoutine (evidenceWaiting j.state)
        { recordNow .codeAccepted j.state with code := some code } := rfl

theorem acceptEntry_frame (fl : Flight) (code : CodePart) (j : Judged) :
    acceptEntry fl code j =
      { j.state with
        code := (acceptEntry fl code j).code
        log := (acceptEntry fl code j).log
        supmon := { j.state.supmon with request := true } } := rfl

end Sys2Proof.Machine

/-! PROOF. What a judged code leaves: refusals, CREDIT, DEBT and TENANCY codes, and lockouts (04, 4.4 to 4.7). -/

namespace Sys2Proof.Machine

theorem judgedAs_code (e : CodeEntry) (fields : Option Deciphered) (s : State) :
    (judgedAs e fields s).state.code =
      { s.code with lockout := s.code.lockout.set e.port (s.code.lockout.get e.port).expire } :=
  (keeps_judgeFields fields (penaltyEnded e.port (s.take .codeJudging))).code

theorem failureCounted_code (p : Port) (j : Judged) :
    (failureCounted p j).code =
      { j.state.code with
        lockout :=
          if countsAgainst j.outcome then j.state.code.lockout.set p (j.state.code.lockout.get p).fail
          else j.state.code.lockout } := by
  unfold failureCounted
  split <;> rfl

theorem acceptIssue_lockout (n : Nat) (c : CodeEngine) (l : PerPort Lockout) :
    acceptIssue n { c with lockout := l } = { acceptIssue n c with lockout := l } := by
  unfold acceptIssue
  dsimp only
  split <;> rfl

theorem applyCode_supmon (code : CodePart) {s : State} (hgap : NoGapWaits s) :
    (applyCode code s).state.supmon = s.supmon := by
  unfold applyCode
  rw [settleGap_none hgap]
  split
  · split
    · rfl
    · unfold applyCredit
      dsimp only
      split <;> simp
  · unfold applyDebt
    split <;> simp
  · unfold applyClearCode
    split <;> simp
  · unfold applyTenancy
    split <;> simp
  · rfl

/-- Judging asks for no checkpoint before an acceptance does (R80). -/
theorem judgeFields_supmon (fields : Option Deciphered) {s : State} (hgap : NoGapWaits s) :
    (judgeFields fields s).state.supmon = s.supmon := by
  unfold judgeFields
  split
  · rfl
  · repeat' split
    any_goals rfl
    exact applyCode_supmon _ hgap

section Refused

variable {e : CodeEntry} {key : BitVec 144} {fields : Option Deciphered} {s : State}

/-- The result entry of a refused code (R72, R85). -/
theorem refused_result (hflight : s.code.flight = some ⟨e, key, .judging fields⟩)
    (h : (judgedAs e fields s).outcome ≠ .accepted) :
    ((judgeEntry (s.take .codeJudging)).code.results.get e.port).getLast? =
      some ⟨e.ticket, (judgedAs e fields s).outcome, resultCode fields (judgedAs e fields s).outcome, none⟩ := by
  rw [judgeEntry_of_refused hflight h, refuseEntry_eq, finishEntry_code, PerPort.get_set_self, resultsAfter_getLast?]

/-- A refused code leaves the engine, and of CODE only the results and the lockout record of its port change. -/
theorem refused_code (hflight : s.code.flight = some ⟨e, key, .judging fields⟩)
    (h : (judgedAs e fields s).outcome ≠ .accepted) :
    (judgeEntry (s.take .codeJudging)).code =
      { s.code with
        flight := none
        results := s.code.results.set e.port
          (resultsAfter ⟨e.ticket, (judgedAs e fields s).outcome, resultCode fields (judgedAs e fields s).outcome, none⟩
            (s.code.results.get e.port))
        lockout := s.code.lockout.set e.port
          (if countsAgainst (judgedAs e fields s).outcome then (s.code.lockout.get e.port).expire.fail
            else (s.code.lockout.get e.port).expire) } := by
  rw [judgeEntry_of_refused hflight h, refuseEntry_eq, finishEntry_code, failureCounted_code, judgedAs_code]
  simp only [PerPort.set_set, PerPort.get_set_self]
  split <;> rfl

/-- An accepted code has fields, with a new number (R76). -/
theorem accepted_fields (h : (judgedAs e fields s).outcome = .accepted) :
    ∃ f, fields = some f ∧ s.code.lowMark < f.issue ∧ f.issue ∉ s.code.accepted := by
  cases fields with
  | none => exact absurd h (by simp [judgedAs, judgeFields])
  | some f => exact ⟨f, rfl, new_of_accepted (s := penaltyEnded e.port (s.take .codeJudging)) h⟩

/-- An accepted code waits in PERSISTING with its number consumed and its port's lockout record clear (R80). -/
theorem accepted_code {f : Deciphered} (hflight : s.code.flight = some ⟨e, key, .judging (some f)⟩)
    (h : (judgedAs e (some f) s).outcome = .accepted) :
    (judgeEntry (s.take .codeJudging)).code =
      { s.code with
        accepted := (acceptIssue f.issue s.code).accepted
        lowMark := (acceptIssue f.issue s.code).lowMark
        lockout := s.code.lockout.set e.port Lockout.clear
        flight := some ⟨e, key, .persisting (codePart f) (judgedAs e (some f) s).share false⟩ } := by
  rw [judgeEntry_of_accepted hflight h, acceptEntry_code, judgedAs_code, acceptIssue_frame]
  simp only [PerPort.set_set, acceptIssue_lockout]
  rfl

/-- What a refusal leaves outside CODE, LOG and the alerts: an evaluation at most (R77 to R79). -/
def RefusalLeaves (s t : State) : Prop :=
  t.bill = { s.bill with emergency := t.bill.emergency, deferral := t.bill.deferral } ∧ t.tamper = s.tamper ∧
    t.supmon = s.supmon ∧ t.totals = s.totals ∧ t.tariff = s.tariff

theorem refusalLeaves_evaluate (s : State) : RefusalLeaves s (evaluate s) :=
  ⟨evaluate_bill s, evaluate_tamper s, evaluate_supmon s, evaluate_totals s, evaluate_tariff s⟩

theorem failureCounted_leaves (p : Port) (j : Judged) :
    (failureCounted p j).bill = j.state.bill ∧ (failureCounted p j).tamper = j.state.tamper ∧
      (failureCounted p j).supmon = j.state.supmon ∧ (failureCounted p j).totals = j.state.totals ∧
      (failureCounted p j).tariff = j.state.tariff ∧ (failureCounted p j).alert = j.state.alert := by
  unfold failureCounted
  split <;> exact ⟨rfl, rfl, rfl, rfl, rfl, rfl⟩

/-- The state that a refused code's owner leaves: as it was, or evaluated (R77 to R79). -/
theorem refused_state (hgap : NoGapWaits s) (h : (judgedAs e fields s).outcome ≠ .accepted) :
    (judgedAs e fields s).state = penaltyEnded e.port (s.take .codeJudging) ∨
      (judgedAs e fields s).state = evaluate (penaltyEnded e.port (s.take .codeJudging)) := by
  have hsettled : settleGap (penaltyEnded e.port (s.take .codeJudging)) = penaltyEnded e.port (s.take .codeJudging) :=
    settleGap_none (s := penaltyEnded e.port (s.take .codeJudging)) (noGapWaits_take hgap)
  rcases judgeFields_cases fields (penaltyEnded e.port (s.take .codeJudging)) with
    ⟨_, hstate, _⟩ | ⟨_, _, _, hstate⟩ | ⟨_, haccepted, _⟩
  · exact .inl hstate
  · rw [hsettled] at hstate
    exact hstate
  · exact absurd haccepted h

theorem refused_leaves (hflight : s.code.flight = some ⟨e, key, .judging fields⟩) (hgap : NoGapWaits s)
    (h : (judgedAs e fields s).outcome ≠ .accepted) :
    RefusalLeaves s (judgeEntry (s.take .codeJudging)) ∧
      Signalled (.latched .codeDone) (s.alert.ports.get e.port)
        ((judgeEntry (s.take .codeJudging)).alert.ports.get e.port) := by
  rw [judgeEntry_of_refused hflight h, refuseEntry_eq]
  obtain ⟨hbill, htamper, hsupmon, htotals, htariff, halert⟩ := failureCounted_leaves e.port (judgedAs e fields s)
  have hstate : RefusalLeaves s (judgedAs e fields s).state ∧ LatchedSame s (judgedAs e fields s).state := by
    rcases refused_state hgap h with hsame | hevaluated
    · rw [hsame]
      exact ⟨⟨rfl, rfl, rfl, rfl, rfl⟩, .of_alert rfl⟩
    · rw [hevaluated]
      exact ⟨refusalLeaves_evaluate (penaltyEnded e.port (s.take .codeJudging)),
        LatchedSame.trans (.of_alert rfl) (latchedSame_evaluate (penaltyEnded e.port (s.take .codeJudging)))⟩
  obtain ⟨⟨hb, ht, hs, hto, hta⟩, hlatched⟩ := hstate
  refine ⟨⟨?_, htamper.trans ht, hsupmon.trans hs, htotals.trans hto, htariff.trans hta⟩, ?_⟩
  · change (failureCounted e.port (judgedAs e fields s)).bill =
      { s.bill with
        emergency := (failureCounted e.port (judgedAs e fields s)).bill.emergency
        deferral := (failureCounted e.port (judgedAs e fields s)).bill.deferral }
    rw [hbill]
    exact hb
  · exact .of_latchedSame (hlatched.trans (.of_alert halert)) (signalled_finishEntry _ _ _) (.of_alert rfl)

/-- MALFORMED and CHECK_FAILED alone count against the port (R87). -/
theorem counts_judgedAs (e : CodeEntry) (fields : Option Deciphered) (s : State) :
    countsAgainst (judgedAs e fields s).outcome = !Checked fields := by
  rcases judgeFields_cases fields (penaltyEnded e.port (s.take .codeJudging)) with
    ⟨hbad, _, hcounts⟩ | ⟨hgood, _, hmild, _⟩ | ⟨hgood, haccepted, _⟩
  · rw [hbad]
    exact hcounts
  · rw [hgood]
    exact hmild
  · rw [hgood]
    exact congrArg countsAgainst haccepted

theorem not_checked (fields : Option Deciphered) :
    fields.all (fun f => decide (f.check ≠ (7 * f.kind + 3 * f.issue + f.payload) % 4093)) = !Checked fields := by
  cases fields with
  | none => rfl
  | some f => by_cases h : f.check = (7 * f.kind + 3 * f.issue + f.payload) % 4093 <;> simp [Checked, codeCheck, h]

/-- A running penalty is not ended, and a count below 5 is not lowered (R88; log entry 13). -/
theorem Lockout.expire_of_running {l : Lockout} (h : l.penalty ≠ 0) : l.expire = l :=
  if_neg fun ⟨_, hzero⟩ => h hzero

theorem Lockout.expire_of_lt {l : Lockout} (h : l.failures < 5) : l.expire = l :=
  if_neg fun ⟨hfive, _⟩ => by omega

theorem Lockout.fail_of_running {l : Lockout} (h : l.penalty ≠ 0) : l.fail = l := if_pos h

end Refused

/-- The tests that CODE makes itself, in their order (R76). -/
theorem result_of_outcome {e : CodeEntry} {key : BitVec 144} {f : Deciphered} {s : State}
    (hflight : s.code.flight = some ⟨e, key, .judging (some f)⟩) {o : CodeOutcome} (ho : o ≠ .accepted)
    (hout : (judgedAs e (some f) s).outcome = o) :
    ((judgeEntry (s.take .codeJudging)).code.results.get e.port).getLast? =
      some ⟨e.ticket, o, if countsAgainst o then none else some (codePart f), none⟩ := by
  rw [refused_result hflight (hout ▸ ho), hout]
  rfl

/-- Settles O23, by the judging tests in their order and by the three ends of judging. -/
theorem judgingRefuses : Obligations.JudgingRefuses := by
  refine ⟨fun e key fields s hgood hflight => ?tests, fun e key fields s hgood hgap hflight => ?ends⟩
  case tests =>
    refine ⟨_, exec_codeJudging hgood, fun hnone => ?malformed, fun f hf => ?fields⟩
    case malformed =>
      subst hnone
      exact refused_result hflight (by simp [judgedAs, judgeFields])
    case fields =>
      subst hf
      refine ⟨fun hcheck => ?failed, fun hcheck => ⟨fun hkind => ?unknown, fun h1 h4 =>
        ⟨fun hold => ?old, fun hlow hused => ?used, fun hlow hnew hkind hpayload => ?field⟩⟩⟩
      case failed =>
        exact result_of_outcome hflight (by simp) (congrArg Judged.outcome (judgeFields_of_bad_check _ hcheck))
      case unknown =>
        exact result_of_outcome hflight (by simp) (congrArg Judged.outcome (judgeFields_of_unknown _ hcheck hkind))
      case old =>
        exact result_of_outcome hflight (by simp) (congrArg Judged.outcome
          (judgeFields_of_old (s := penaltyEnded e.port (s.take .codeJudging)) hcheck h1 h4 hold))
      case used =>
        exact result_of_outcome hflight (by simp) (congrArg Judged.outcome
          (judgeFields_of_used (s := penaltyEnded e.port (s.take .codeJudging)) hcheck h1 h4 hlow hused))
      case field =>
        refine result_of_outcome (o := .invalidField) hflight (by simp) ?_
        rw [judgedAs, judgeFields_of_passes (s := penaltyEnded e.port (s.take .codeJudging)) hcheck h1 h4 hlow hnew]
        simp [applyCode, codePart, hkind, hpayload]
  case ends =>
    refine ⟨_, exec_codeJudging hgood, ?_⟩
    by_cases hout : (judgedAs e fields s).outcome = .accepted
    case neg =>
      have hcode := refused_code hflight hout
      obtain ⟨⟨hbill, htamper, hsupmon, htotals, htariff⟩, hdone⟩ := refused_leaves hflight hgap hout
      have hfree : (judgeEntry (s.take .codeJudging)).code.flight = none := by rw [hcode]
      refine ⟨.inl hfree, fun _ => ⟨by rw [hcode], by rw [hcode], by rw [hcode], hbill, htamper, hsupmon, htotals, htariff,
        fun hlt hzero => ?lockout, fun hrunning => ?running, fun hlength => ?length, ?last, hdone⟩,
        fun code share h => by rw [hfree] at h; cases h⟩
      case lockout =>
        rw [hcode, not_checked, counts_judgedAs, Lockout.expire_of_lt hlt, PerPort.get_set_self]
      case running =>
        rw [hcode, Lockout.expire_of_running hrunning, Lockout.fail_of_running hrunning, ite_self, PerPort.set_get]
      case length =>
        rw [hcode, PerPort.get_set_self, resultsAfter_length hlength]
      case last =>
        rw [hcode, PerPort.get_set_self, resultsAfter_getLast?]
        simp [hout]
    case pos =>
      obtain ⟨f, rfl, hlow, hnew⟩ : ∃ f, fields = some f ∧ s.code.lowMark < f.issue ∧ f.issue ∉ s.code.accepted :=
        accepted_fields hout
      have hcode := accepted_code hflight hout
      have hflight' : (judgeEntry (s.take .codeJudging)).code.flight =
          some ⟨e, key, .persisting (codePart f) (judgedAs e (some f) s).share false⟩ := by rw [hcode]
      refine ⟨.inr ⟨_, _, hflight'⟩, fun h => absurd (hflight'.symm.trans h) (by simp), fun code share h => ?_⟩
      rw [hflight'] at h
      cases h
      refine ⟨⟨f, rfl, rfl⟩, hlow, hnew, ?consumed, fun hsound n hn => ?kept, ?cleared, ?request, ?results⟩
      case consumed => rw [hcode]; exact consumed_acceptIssue f.issue s.code
      case kept => rw [hcode]; exact consumed_acceptIssue_of_consumed hsound hlow hn
      case cleared => rw [hcode, PerPort.get_set_self]
      case request =>
        have hsupmon : (judgedAs e (some f) s).state.supmon = s.supmon :=
          judgeFields_supmon _ (s := penaltyEnded e.port (s.take .codeJudging)) (noGapWaits_take hgap)
        rw [judgeEntry_of_accepted hflight hout, acceptEntry_frame, hsupmon]
      case results => rw [hcode]

/-! ## Codes of the money (R27 to R29, R33, R77, R78, R80) -/

/-- What the acceptance of a code of the money leaves, from the money that the code sets (R38, R80, R81). -/
theorem accepted_money {e : CodeEntry} {key : BitVec 144} {f : Deciphered} {b : Bill} {share : Option Nat} {s : State}
    (hflight : s.code.flight = some ⟨e, key, .judging (some f)⟩)
    (hjudged : judgedAs e (some f) s =
      { state := evaluate { penaltyEnded e.port (s.take .codeJudging) with bill := b }, outcome := .accepted,
        share := share }) :
    (judgeEntry (s.take .codeJudging)).bill =
        { b with
          emergency := (judgeEntry (s.take .codeJudging)).bill.emergency
          deferral := (judgeEntry (s.take .codeJudging)).bill.deferral } ∧
      (judgeEntry (s.take .codeJudging)).code.flight = some ⟨e, key, .persisting (codePart f) share false⟩ ∧
      CreditEvaluated b.emergency s.sw.set.credit (judgeEntry (s.take .codeJudging)) ∧
      AcceptedFrame .codeJudging (codePart f) s (judgeEntry (s.take .codeJudging)) := by
  have hout : (judgedAs e (some f) s).outcome = .accepted := by rw [hjudged]
  have hcode := congrArg CodeEngine.flight (accepted_code hflight hout)
  rw [hjudged] at hcode
  refine ⟨?bill, hcode, ?_⟩
  all_goals rw [judgeEntry_of_accepted hflight hout, hjudged]
  case bill => exact evaluate_bill { penaltyEnded e.port (s.take .codeJudging) with bill := b }
  refine ⟨creditEvaluated_evaluate { penaltyEnded e.port (s.take .codeJudging) with bill := b },
    evaluate_set { penaltyEnded e.port (s.take .codeJudging) with bill := b }, ?log, ?frame⟩
  case log =>
    rw [acceptEntry_log]
    simp [recordNow, penaltyEnded, evidenceWaiting]
  case frame =>
    rw [acceptEntry_frame]
    exact State.eq_of (supmon := by simp [penaltyEnded]) (totals := by simp [penaltyEnded])
      (mlr := by simp [penaltyEnded]) (tariff := by simp [penaltyEnded]) (cal := by simp [penaltyEnded])
      (tamper := by simp [penaltyEnded]) (ports := by simp [penaltyEnded]) (identity := by simp [penaltyEnded])
      (pins := by simp [penaltyEnded]) (handed := by simp [penaltyEnded]) (pending := by simp [penaltyEnded])

theorem endEmergency_frame (b : Bill) : endEmergency b = { b with emergency := (endEmergency b).emergency } := by
  unfold endEmergency
  split <;> rfl

theorem endEmergency_emergency (b : Bill) :
    (endEmergency b).emergency = if b.emergency = .inUse ∧ 0 ≤ b.b then .unavailable else b.emergency := by
  unfold endEmergency
  split <;> rfl

/-- No emergency use goes on at a balance of 0 or above (R33). -/
theorem endEmergency_ne_inUse {b : Bill} (h : 0 ≤ b.b) : (endEmergency b).emergency ≠ .inUse := by
  rw [endEmergency_emergency]
  split
  · simp
  · next hnot => exact fun huse => hnot ⟨huse, h⟩

theorem creditBill_frame (b' : Int) (d : Nat) (b : Bill) :
    creditBill b' d b =
      { b with
        b := b', d := b.d - d, floor := b.floor && !decide (balanceMin < b'),
        emergency := if b.emergency = .inUse ∧ 0 ≤ b' then .unavailable else b.emergency } := by
  rw [creditBill, endEmergency_frame, endEmergency_emergency]

/-- A code that passes CODE's tests is judged by its kind (R76). -/
theorem judgedAs_of_passes {e : CodeEntry} {f : Deciphered} {s : State} (h1 : 1 ≤ f.kind) (h4 : f.kind ≤ 4)
    (hpasses : PassesTests f s) :
    judgedAs e (some f) s = applyCode (codePart f) (penaltyEnded e.port (s.take .codeJudging)) := by
  obtain ⟨hcheck, hlow, hnew⟩ := hpasses
  exact judgeFields_of_passes hcheck h1 h4 hlow hnew

theorem settleGap_penaltyEnded {p : Port} {s : State} (hgap : NoGapWaits s) :
    settleGap (penaltyEnded p (s.take .codeJudging)) = penaltyEnded p (s.take .codeJudging) :=
  settleGap_none (s := penaltyEnded p (s.take .codeJudging)) (noGapWaits_take hgap)

theorem applyCode_credit {code : CodePart} {s : State} (hkind : code.kind = 1) (hpayload : code.payload ≠ 0) :
    applyCode code s = applyCredit code.payload (settleGap s) := by
  unfold applyCode
  rw [hkind]
  exact if_neg hpayload

theorem applyCode_debt {code : CodePart} (s : State) (hkind : code.kind = 2) :
    applyCode code s = applyDebt code.payload (settleGap s) := by
  unfold applyCode
  rw [hkind]
  rfl

theorem applyCode_tenancy {code : CodePart} (s : State) (hkind : code.kind = 4) :
    applyCode code s = applyTenancy code.payload (settleGap s) := by
  unfold applyCode
  rw [hkind]
  rfl

/-- Settles O24, by whether the credit fits, from what an acceptance and a refusal leave. -/
theorem creditCodeApplied : Obligations.CreditCodeApplied := by
  intro e key f s hgood hgap hflight hkind hpayload hpasses
  have hpart : codePart f = ⟨1, f.issue, f.payload⟩ := by rw [codePart, hkind]
  have hjudged : judgedAs e (some f) s = applyCredit f.payload (penaltyEnded e.port (s.take .codeJudging)) := by
    rw [judgedAs_of_passes (by omega) (by omega) hpasses, applyCode_credit hkind hpayload, settleGap_penaltyEnded hgap]
    rfl
  dsimp only
  refine ⟨fun hfits => ?fits, fun hlarge => ?large⟩
  case fits =>
    rw [applyCredit_of_le (s := penaltyEnded e.port (s.take .codeJudging)) hfits] at hjudged
    obtain ⟨hbill, hwaits, hcredit, hset, hlog, hframe⟩ := accepted_money hflight hjudged
    rw [creditBill_frame] at hbill hcredit
    rw [hpart] at hwaits hlog
    have hb := congrArg Bill.b hbill
    have hd := congrArg Bill.d hbill
    have hr := congrArg Bill.r hbill
    have hq := congrArg Bill.q hbill
    have hh := congrArg Bill.h hbill
    have hfloor := congrArg Bill.floor hbill
    exact ⟨_, exec_codeJudging hgood, hb, hd, hr, hq, hh,
      fun habove => hfloor.trans
        ((congrArg (s.bill.floor && !·) (decide_eq_true habove)).trans (Bool.and_false _)),
      hcredit, hset, hwaits, hlog, hframe⟩
  case large =>
    rw [applyCredit_of_lt (s := penaltyEnded e.port (s.take .codeJudging)) hlarge] at hjudged
    have hout : (judgedAs e (some f) s).outcome = .overLimit := by rw [hjudged]
    have hrefused : (judgedAs e (some f) s).outcome ≠ .accepted := by simp [hout]
    obtain ⟨⟨hbill, _⟩, _⟩ := refused_leaves hflight hgap hrefused
    have hcode := refused_code hflight hrefused
    refine ⟨_, exec_codeJudging hgood, ?result, hbill, by rw [hcode], ?log⟩
    case result => rw [result_of_outcome hflight (by simp) hout, hpart]; rfl
    case log =>
      rw [judgeEntry_of_refused hflight hrefused, refuseEntry_eq, finishEntry_frame,
        failureCounted_of_mild (by rw [hout]; rfl), hjudged]
      simp [penaltyEnded]

/-- R, Q and H: what no code changes. -/
def RemaindersKept (a b : Bill) : Prop := b.r = a.r ∧ b.q = a.q ∧ b.h = a.h

theorem remaindersKept_evaluate {a : Bill} {s : State} (h : RemaindersKept a s.bill) :
    RemaindersKept a (evaluate s).bill := by
  rw [evaluate_bill]
  exact h

theorem applyCode_remainders (code : CodePart) {s : State} (hgap : NoGapWaits s) :
    RemaindersKept s.bill (applyCode code s).state.bill := by
  have hsame : RemaindersKept s.bill s.bill := ⟨rfl, rfl, rfl⟩
  unfold applyCode
  rw [settleGap_none hgap]
  split
  · split
    · exact hsame
    · unfold applyCredit
      dsimp only
      split
      · exact remaindersKept_evaluate hsame
      · rw [creditBill_frame]
        exact remaindersKept_evaluate hsame
  · unfold applyDebt
    split
    · exact remaindersKept_evaluate hsame
    · exact remaindersKept_evaluate hsame
  · unfold applyClearCode
    split
    · simpa using hsame
    · exact hsame
  · unfold applyTenancy
    split
    · exact remaindersKept_evaluate hsame
    · rw [endEmergency_frame]
      exact remaindersKept_evaluate hsame
  · exact hsame

theorem judgeFields_remainders (fields : Option Deciphered) {s : State} (hgap : NoGapWaits s) :
    RemaindersKept s.bill (judgeFields fields s).state.bill := by
  unfold judgeFields
  split
  · exact ⟨rfl, rfl, rfl⟩
  · repeat' split
    any_goals exact ⟨rfl, rfl, rfl⟩
    exact applyCode_remainders _ hgap

/-- What the judged entry leaves of BILL is what the code's owner left of it. -/
theorem judgeEntry_bill {e : CodeEntry} {key : BitVec 144} {f : Deciphered} {s : State}
    (hflight : s.code.flight = some ⟨e, key, .judging (some f)⟩) :
    (judgeEntry (s.take .codeJudging)).bill = (judgedAs e (some f) s).state.bill := by
  by_cases hout : (judgedAs e (some f) s).outcome = .accepted
  · rw [judgeEntry_of_accepted hflight hout, acceptEntry_frame]
  · rw [judgeEntry_of_refused hflight hout, refuseEntry_eq, finishEntry_frame]
    exact (failureCounted_leaves e.port (judgedAs e (some f) s)).1

/-- A code over the debt limit, DEBT or TENANCY, is refused and leaves the money (R27, R29). -/
theorem debtLimit_leaves {e : CodeEntry} {key : BitVec 144} {f : Deciphered} {s : State} (hgap : NoGapWaits s)
    (hflight : s.code.flight = some ⟨e, key, .judging (some f)⟩)
    (hout : (judgedAs e (some f) s).outcome = .debtLimit) :
    ((judgeEntry (s.take .codeJudging)).code.results.get e.port).getLast? =
        some ⟨e.ticket, .debtLimit, some ⟨f.kind, f.issue, f.payload⟩, none⟩ ∧
      (judgeEntry (s.take .codeJudging)).bill.b = s.bill.b ∧ (judgeEntry (s.take .codeJudging)).bill.d = s.bill.d ∧
      (judgeEntry (s.take .codeJudging)).code.accepted = s.code.accepted := by
  have hrefused : (judgedAs e (some f) s).outcome ≠ .accepted := by simp [hout]
  obtain ⟨⟨hbill, _⟩, _⟩ := refused_leaves hflight hgap hrefused
  have hb := congrArg Bill.b hbill
  have hd := congrArg Bill.d hbill
  exact ⟨result_of_outcome hflight (by simp) hout, hb, hd, by rw [refused_code hflight hrefused]⟩

/-- Outside IN_USE an evaluation does not look at the emergency state before it (R31). -/
theorem creditEvaluated_of_ne {before : Emergency} {wasIn : Bool} {t : State} (hne : before ≠ .inUse)
    (h : CreditEvaluated before wasIn t) : CreditEvaluated .unavailable wasIn t := by
  obtain ⟨hemergency, hrest⟩ := h
  rw [if_neg hne] at hemergency
  exact ⟨hemergency, hrest⟩

/-- Settles O25, by the kind of the code and whether the debt fits. -/
theorem debtAndTenancyApplied : Obligations.DebtAndTenancyApplied := by
  intro e key f s hgood hgap hflight hpasses
  have hremainders : RemaindersKept s.bill (judgeEntry (s.take .codeJudging)).bill := by
    rw [judgeEntry_bill hflight]
    exact judgeFields_remainders _ (s := penaltyEnded e.port (s.take .codeJudging)) (noGapWaits_take hgap)
  obtain ⟨hr, hq, hh⟩ := hremainders
  have hdebt (hkind : f.kind = 2) :
      judgedAs e (some f) s = applyDebt f.payload (penaltyEnded e.port (s.take .codeJudging)) := by
    rw [judgedAs_of_passes (by omega) (by omega) hpasses, applyCode_debt _ hkind, settleGap_penaltyEnded hgap]
    rfl
  have htenancy (hkind : f.kind = 4) :
      judgedAs e (some f) s = applyTenancy f.payload (penaltyEnded e.port (s.take .codeJudging)) := by
    rw [judgedAs_of_passes (by omega) (by omega) hpasses, applyCode_tenancy _ hkind, settleGap_penaltyEnded hgap]
    rfl
  refine ⟨_, exec_codeJudging hgood, hr, hq, hh, fun hkind hfits => ?debt, fun hkind hfits => ?tenancy,
    fun hlimit => debtLimit_leaves hgap hflight ?limit⟩
  case debt =>
    have hjudged := (hdebt hkind).trans (applyDebt_of_le (s := penaltyEnded e.port (s.take .codeJudging)) hfits)
    obtain ⟨hbill, hwaits, hcredit, hframe⟩ := accepted_money hflight hjudged
    have hd := congrArg Bill.d hbill
    have hb := congrArg Bill.b hbill
    have hfloor := congrArg Bill.floor hbill
    rw [codePart, hkind] at hwaits hframe
    exact ⟨hd, hb, hfloor, hwaits, hcredit, hframe⟩
  case tenancy =>
    have hjudged := (htenancy hkind).trans (applyTenancy_of_le (s := penaltyEnded e.port (s.take .codeJudging)) hfits)
    obtain ⟨hbill, hwaits, hcredit, hframe⟩ := accepted_money hflight hjudged
    rw [endEmergency_frame] at hbill
    have hd := congrArg Bill.d hbill
    have hb := congrArg Bill.b hbill
    have hfloor := congrArg Bill.floor hbill
    have hends := creditEvaluated_of_ne (endEmergency_ne_inUse (by exact le_refl _)) hcredit
    rw [codePart, hkind] at hwaits hframe
    exact ⟨hb, hd, hfloor, hwaits, hends, hframe⟩
  case limit =>
    rcases hlimit with ⟨hkind, hover⟩ | ⟨hkind, hover⟩
    · rw [hdebt hkind, applyDebt_of_lt (s := penaltyEnded e.port (s.take .codeJudging)) hover]
    · rw [htenancy hkind, applyTenancy_of_lt (s := penaltyEnded e.port (s.take .codeJudging)) hover]

/-! ## Lockouts (R81, R87, R88) -/

theorem judgeFields_of_not_checked {fields : Option Deciphered} (s : State)
    (h : ∀ f, fields = some f → f.check ≠ codeCheck f) :
    (judgeFields fields s).state = s ∧ (judgeFields fields s).outcome ≠ .accepted ∧
      countsAgainst (judgeFields fields s).outcome = true := by
  cases fields with
  | none => exact ⟨rfl, by simp [judgeFields], rfl⟩
  | some f =>
    rw [judgeFields_of_bad_check s (h f rfl)]
    exact ⟨rfl, by simp, rfl⟩

theorem Lockout.expire_of_ended {l : Lockout} (hfive : l.failures = 5) (hzero : l.penalty = 0) :
    l.expire = { l with failures := 4 } := if_pos ⟨hfive, hzero⟩

theorem Lockout.fail_of_lt {l : Lockout} (hzero : l.penalty = 0) (h : l.failures < 4) :
    l.fail = { l with failures := l.failures + 1 } := by
  have hlt : l.failures + 1 < 5 := by omega
  simp [Lockout.fail, hzero, hlt]

theorem Lockout.fail_of_four {l : Lockout} (hzero : l.penalty = 0) (h : l.failures = 4) :
    l.fail = { failures := 5, k := min (l.k + 1) 6, penalty := 60 * 2 ^ l.k } := by
  simp [Lockout.fail, hzero, h]

/-- Settles O26, by the lockout record that a refusal leaves. -/
theorem penaltiesCount : Obligations.PenaltiesCount := by
  refine ⟨fun e key fields s hgood hflight hbad => ?failure, fun e key f s hgood hflight hcheck => ?checked,
    fun s hgood => ?second, fun p s hgood hfive hzero => ?expiry⟩
  case failure =>
    obtain ⟨hstate, hrefused, hcounts⟩ :=
      judgeFields_of_not_checked (penaltyEnded e.port (s.take .codeJudging)) hbad
    change (judgedAs e fields s).state = _ at hstate
    change countsAgainst (judgedAs e fields s).outcome = true at hcounts
    have hcode := refused_code hflight hrefused
    have hlockout : (judgeEntry (s.take .codeJudging)).code.lockout =
        s.code.lockout.set e.port (s.code.lockout.get e.port).expire.fail := by
      rw [hcode, hcounts]
      rfl
    intro l other
    have hother : other ≠ e.port := by
      dsimp only [other]
      cases e.port <;> simp
    refine ⟨_, exec_codeJudging hgood, ?_, fun hrunning => ?_, fun hzero hlt => ?_, fun hzero hfour => ?_,
      fun hzero hfive => ?_, ?log⟩
    case log =>
      rw [judgeEntry_of_refused hflight hrefused, refuseEntry_eq, finishEntry_frame, failureCounted_of_counts hcounts,
        hstate]
      rfl
    all_goals rw [hlockout]
    · rw [PerPort.get_set_ne _ _ hother]
    all_goals rw [PerPort.get_set_self]
    · rw [Lockout.expire_of_running hrunning, Lockout.fail_of_running hrunning]
    · rw [Lockout.expire_of_lt (Nat.lt_trans hlt (by decide)), Lockout.fail_of_lt hzero hlt]
    · rw [Lockout.expire_of_lt (hfour.trans_lt (by decide)), Lockout.fail_of_four hzero hfour]
    · rw [Lockout.expire_of_ended hfive hzero, Lockout.fail_of_four (l := { l with failures := 4 }) hzero rfl]
  case checked =>
    have hchecked : Checked (some f) = true := decide_eq_true hcheck
    intro l other
    have hother : other ≠ e.port := by
      dsimp only [other]
      cases e.port <;> simp
    refine ⟨_, exec_codeJudging hgood, ?_⟩
    by_cases hout : (judgedAs e (some f) s).outcome = .accepted
    · have hcode := accepted_code hflight hout
      refine ⟨by rw [hcode, PerPort.get_set_ne _ _ hother], fun hfree => ?_⟩
      rw [hcode] at hfree
      cases hfree
    · have hcode := refused_code hflight hout
      refine ⟨by rw [hcode, PerPort.get_set_ne _ _ hother], fun _ => ?_⟩
      rw [hcode, PerPort.get_set_self, counts_judgedAs, hchecked]
      rfl
  case second =>
    change execPenaltyDecrement s = _
    rw [execPenaltyDecrement, inMain_good hgood]
    rfl
  case expiry =>
    change execPenaltyExpiry p s = _
    rw [execPenaltyExpiry, inMain_good hgood]
    simp [Lockout.expire_of_ended hfive hzero]

end Sys2Proof.Machine

/-! PROOF. Tickets and the code floor (04, 4.5 and 4.6); clearances (06, 6.7). -/

namespace Sys2Proof.Machine

theorem queuePosition_of_absent {p : Port} {k : Byte} {q : List CodeEntry} (n : Nat)
    (h : ∀ x ∈ q, ¬(x.port = p ∧ x.ticket = k)) : queuePosition p k n q = none := by
  induction q generalizing n with
  | nil => rfl
  | cons e rest ih =>
    rw [queuePosition, if_neg (h e (by simp))]
    exact ih (n + 1) fun x hx => h x (by simp [hx])

theorem queuePosition_of_first {p : Port} {k : Byte} {e : CodeEntry} (after : List CodeEntry) (n : Nat)
    {before : List CodeEntry} (he : e.port = p ∧ e.ticket = k) (h : ∀ x ∈ before, ¬(x.port = p ∧ x.ticket = k)) :
    queuePosition p k n (before ++ e :: after) = some (n + before.length) := by
  induction before generalizing n with
  | nil => exact if_pos he
  | cons x rest ih =>
    rw [List.cons_append, queuePosition, if_neg (h x (by simp)), ih (n + 1) fun y hy => h y (by simp [hy]),
      List.length_cons]
    congr 1
    omega

/-- The data of a result, each absent part as a presence byte of 0 and zeros (R85, R86; log entry 19). -/
theorem resultBytes_eq (r : CodeResult) :
    resultBytes r =
      [r.ticket,
        match r.outcome with
        | .accepted => 0#8 | .malformed => 1#8 | .checkFailed => 2#8 | .unknownKind => 3#8 | .old => 4#8
        | .used => 5#8 | .invalidField => 6#8 | .overLimit => 7#8 | .debtLimit => 8#8 | .staleClearance => 9#8
        | .conditionPresent => 10#8] ++
      (match r.code with
        | some x => [1#8] ++ beNat 1 x.kind ++ beNat 3 x.issue ++ beNat 4 x.payload
        | none => List.replicate 9 0#8) ++
      (match r.share with
        | some d => [1#8] ++ beNat 8 d
        | none => List.replicate 9 0#8) := by
  obtain ⟨ticket, outcome, code, share⟩ := r
  have houtcome : beNat 1 (outcomeCode outcome) = [BitVec.ofNat 8 (outcomeCode outcome)] := beNat_one _
  unfold resultBytes
  rw [houtcome]
  cases outcome <;> cases code <;> cases share <;> rfl

/-! Where a ticket is found (R86). -/
section LookUp

variable {p : Port} {k : Byte} {s : State}

theorem lookUpTicket_of_queued {before after : List CodeEntry} {e : CodeEntry}
    (hqueue : s.code.queue = before ++ e :: after) (he : e.port = p ∧ e.ticket = k)
    (hfirst : ∀ x ∈ before, ¬(x.port = p ∧ x.ticket = k)) :
    lookUpTicket p k s = ⟨.pending, [4#8, BitVec.ofNat 8 (before.length + 1)]⟩ := by
  unfold lookUpTicket
  rw [hqueue, queuePosition_of_first after 1 he hfirst]
  dsimp only
  rw [beNat_one, beNat_one, Nat.add_comm]
  rfl

theorem lookUpTicket_of_flying {fl : Flight} (habsent : ∀ x ∈ s.code.queue, ¬(x.port = p ∧ x.ticket = k))
    (hflight : s.code.flight = some fl) (hentry : fl.entry.port = p ∧ fl.entry.ticket = k) :
    lookUpTicket p k s = ⟨.pending, [BitVec.ofNat 8 (flightCode (some fl))]⟩ := by
  obtain ⟨hport, hticket⟩ := hentry
  unfold lookUpTicket
  rw [queuePosition_of_absent 1 habsent, hflight]
  simp [hport, hticket, beNat_one]

theorem lookUpTicket_of_elsewhere (habsent : ∀ x ∈ s.code.queue, ¬(x.port = p ∧ x.ticket = k))
    (hnot : ∀ fl, s.code.flight = some fl → ¬(fl.entry.port = p ∧ fl.entry.ticket = k)) :
    lookUpTicket p k s =
      match (s.code.results.get p).find? (fun r => r.ticket == k) with
      | some r => ⟨.ok, resultBytes r⟩
      | none => .bare .unknownTicket := by
  have hany : s.code.flight.any (fun fl => fl.entry.port == p && fl.entry.ticket == k) = false := by
    cases hflight : s.code.flight with
    | none => rfl
    | some fl => simpa using hnot fl hflight
  unfold lookUpTicket
  rw [queuePosition_of_absent 1 habsent, hany]
  rfl

end LookUp

/-- Settles O27, by where the ticket is found. -/
theorem ticketsAndFloor : Obligations.TicketsAndFloor := by
  refine ⟨fun p k s hready => ?result, fun m s hready => ?floor⟩
  case result =>
    dsimp only
    refine ⟨fun before after e hqueue he hfirst => ?queued, fun habsent =>
      ⟨fun fl hflight hentry => ?flying, fun hnot => ⟨fun r hfind => ?found, fun hnone => ?unknown⟩⟩⟩
    all_goals rw [exec_codeResult hready]
    case queued => rw [lookUpTicket_of_queued (s := s.take _) hqueue he hfirst]
    case flying =>
      rw [lookUpTicket_of_flying (s := s.take _) habsent hflight hentry, flightCode]
      cases fl.phase <;> rfl
    all_goals rw [lookUpTicket_of_elsewhere (s := s.take _) habsent hnot, State.take_code]
    case found =>
      rw [hfind]
      exact congrArg (fun d => Host.Outcome.next (respond p ⟨.ok, d⟩ _)) (resultBytes_eq r)
    case unknown =>
      have hfind : (s.code.results.get p).find? (fun r => r.ticket == k) = none :=
        List.find?_eq_none.mpr fun r hr => by simpa using hnone r hr
      rw [hfind]
  case floor =>
    have hexec : exec (.setCodeFloor .network m) s =
        .next (respond .network (setFloor m (s.take (.setCodeFloor .network m))).2
          (setFloor m (s.take (.setCodeFloor .network m))).1) := by
      unfold exec
      exact runCommand_ready hready
    dsimp only
    rw [hexec]
    refine ⟨fun hin => ?_, fun hout hlarge => ?_, fun hout hfits => ?_⟩
    · simp [setFloor, hin]
    · simp [setFloor, hout, hlarge]
    · simp [setFloor, hout, not_lt.mpr hfits, requestCheckpoint]

end Sys2Proof.Machine

/-! PROOF. SWITCH's rules, permits and phases, one equation per state (05, 5.3 and 5.4). -/

namespace Sys2Proof.Machine

/-! ## The rules of 5.3, state by state (R94, R95, R102) -/

section Rules

variable {w : Switch} {joined : Bool}

theorem rules_of_closed (h : w.state = .closed) :
    w.rules joined = if !w.set.isEmpty && (joined || !w.fault) then w.startOpening else w := by
  unfold Switch.rules
  rw [h]

theorem rules_of_closing (h : w.state = .closing) :
    w.rules joined = if !w.set.isEmpty then w.abandonClosing else w := by
  unfold Switch.rules
  rw [h]

theorem rules_of_opened (h : w.state = .opened) :
    w.rules joined =
      if w.set.isEmpty then (if w.confirm then { w with state := .armed } else w.startClosing) else w := by
  unfold Switch.rules
  rw [h]

theorem rules_of_armed (h : w.state = .armed) :
    w.rules joined =
      if !w.set.isEmpty then { w with state := .opened } else if w.confirm then w else w.startClosing := by
  unfold Switch.rules
  rw [h]

theorem rules_of_opening (h : w.state = .opening ∨ w.state = .unknown) : w.rules joined = w := by
  unfold Switch.rules
  rcases h with h | h <;> rw [h]

theorem rules_frame (w : Switch) (joined : Bool) :
    (w.rules joined).position = w.position ∧ (w.rules joined).fault = w.fault ∧ (w.rules joined).holdOff = w.holdOff ∧
      (w.rules joined).overload = w.overload := by
  have hcut : w.cutPulse.position = w.position ∧ w.cutPulse.fault = w.fault ∧ w.cutPulse.holdOff = w.holdOff ∧
      w.cutPulse.overload = w.overload := by
    unfold Switch.cutPulse
    split <;> exact ⟨rfl, rfl, rfl, rfl⟩
  unfold Switch.rules
  split
  · split <;> exact ⟨rfl, rfl, rfl, rfl⟩
  · split
    · exact hcut
    · exact ⟨rfl, rfl, rfl, rfl⟩
  · split
    · split <;> exact ⟨rfl, rfl, rfl, rfl⟩
    · exact ⟨rfl, rfl, rfl, rfl⟩
  · split
    · exact ⟨rfl, rfl, rfl, rfl⟩
    · split <;> exact ⟨rfl, rfl, rfl, rfl⟩
  · exact ⟨rfl, rfl, rfl, rfl⟩
  · exact ⟨rfl, rfl, rfl, rfl⟩

end Rules

/-! ## Phases that go on at once (R96, R97) -/

theorem advance_frame (w : Switch) (ok : Coil → Bool) :
    w.advance ok = { w with phase := (w.advance ok).phase, opTimer := (w.advance ok).opTimer } := by
  rcases advance_cases w ok with h | ⟨_, _, _, h⟩ | ⟨_, _, _, _, _, h⟩ <;> rw [h]

theorem advance_of_waiting {w : Switch} {c : Coil} (ok : Coil → Bool) (hcoil : w.coil = some c)
    (hphase : w.phase = some .waitPermit ∨ w.phase = some .deadTime) :
    w.advance ok =
      if ok c = true then
        (if w.deadTimeMet c = true then { w with phase := some .pulse, opTimer := .started }
          else { w with phase := some .deadTime })
      else w := by
  unfold Switch.advance
  rw [hcoil]
  simp only [hphase, true_and]

theorem advance_of_not_waiting {w : Switch} (ok : Coil → Bool)
    (hphase : w.coil = none ∨ (w.phase ≠ some .waitPermit ∧ w.phase ≠ some .deadTime)) : w.advance ok = w := by
  unfold Switch.advance
  rcases hphase with hcoil | ⟨hwait, hdead⟩
  · rw [hcoil]
  · split
    · rfl
    · simp [hwait, hdead]

theorem deadTimeMet_iff (w : Switch) (c : Coil) :
    w.deadTimeMet c = true ↔ w.deadCoil = none ∨ w.deadCoil = some c ∨ 20 ≤ w.deadMs := by
  unfold Switch.deadTimeMet
  cases w.deadCoil with
  | none => simp
  | some x =>
    change (decide (x = c) || decide (20 ≤ w.deadMs)) = true ↔ _
    simp

theorem settleSwitch_sw (w : Switch) (s : State) :
    (settleSwitch w s).sw = w.advance (permits { s with sw := w }) := rfl

theorem settleSwitch_armed (w : Switch) (s : State) :
    (settleSwitch w s).alert.conditions.armed = decide (w.state = .armed) := by
  change ((w.advance _).state == .armed) = _
  rw [advance_state]
  exact beq_eq_decide _ _

/-- The permits of a coil while the main domain runs (R96). -/
theorem permits_iff {s : State} (hgood : mainGood s = true) (w : Switch) (c : Coil) :
    permits { s with sw := w } c = true ↔
      s.pins.crdy = true ∧ s.pins.cinhn = true ∧ s.supmon.brownOut = false ∧
        (c = .closeCoil → w.holdOff.running = false) := by
  have hgood' : mainGood { s with sw := w } = true := hgood
  unfold permits
  rw [hgood']
  cases c <;> simp [and_assoc]

/-! ## Requests on the demand set (R92 to R97, R102) -/

/-- SWITCH with a member put into its set or taken from it. -/
def Switch.withMember (w : Switch) (m : Member) (add : Bool) : Switch := { w with set := w.set.put m add }

theorem demand_of_same {m : Member} {add : Bool} {s : State} (h : s.sw.set.has m = add) : demand m add s = s := if_pos h

theorem demand_sw {m : Member} {add : Bool} {s : State} (h : s.sw.set.has m ≠ add) :
    (demand m add s).sw = ((s.sw.withMember m add).rules add).advance
      (permits { s with sw := (s.sw.withMember m add).rules add }) := by
  unfold demand
  rw [if_neg h]
  dsimp only
  split <;> rfl

theorem demand_presents {m : Member} {add : Bool} {s : State} (h : s.sw.set.has m ≠ add) :
    (demand m add s).alert.conditions.armed = decide ((demand m add s).sw.state = .armed) ∧
      (m = .credit → (demand m add s).alert.conditions.creditExhausted = add) := by
  have harmed := settleSwitch_armed ((s.sw.withMember m add).rules add) { s with sw := s.sw.withMember m add }
  rw [demand_sw h, advance_state]
  unfold demand
  rw [if_neg h]
  dsimp only
  split
  · exact ⟨harmed, fun _ => rfl⟩
  · next hm => exact ⟨harmed, fun h => absurd h hm⟩

theorem demand_frame (m : Member) (add : Bool) (s : State) :
    demand m add s = { s with sw := (demand m add s).sw, alert := (demand m add s).alert } := State.eq_of

theorem put_true_isEmpty (d : DemandSet) (m : Member) : (d.put m true).isEmpty = false := by
  cases m <;> simp [DemandSet.put, DemandSet.isEmpty]

theorem advance_phase_of_waiting {w : Switch} {c : Coil} {ph : OpPhase} (ok : Coil → Bool) (hcoil : w.coil = some c)
    (hphase : w.phase = some ph) (hph : ph = .waitPermit ∨ ph = .deadTime) :
    (w.advance ok).phase =
      some (if ok c = true then (if w.deadTimeMet c = true then .pulse else .deadTime) else ph) := by
  rw [advance_of_waiting ok hcoil (by rcases hph with rfl | rfl <;> simp [hphase])]
  split
  · split <;> rfl
  · exact hphase

theorem coil_of_opening {w : Switch} (h : w.state = .opening) : w.coil = some .openCoil :=
  (coil_eq_some_iff w .openCoil).mpr (.inl ⟨h, rfl⟩)

theorem coil_of_closing {w : Switch} (h : w.state = .closing) : w.coil = some .closeCoil :=
  (coil_eq_some_iff w .closeCoil).mpr (.inr ⟨h, rfl⟩)

/-- SWITCH drives no coil at rest. -/
theorem coil_of_resting {w : Switch} (h : w.state ≠ .opening ∧ w.state ≠ .closing) : w.coil = none := by
  obtain ⟨hopening, hclosing⟩ := h
  unfold Switch.coil
  split <;> simp_all

theorem cutPulse_of_pulse {w : Switch} (h : w.phase = some .pulse) :
    w.cutPulse = { w with deadCoil := w.coil, deadMs := 0, opTimer := .stopped } := if_pos h

theorem cutPulse_of_ne {w : Switch} (h : w.phase ≠ some .pulse) : w.cutPulse = w := if_neg h

/-- What an advance leaves: all but the phase and the operation timer. -/
theorem advance_keeps (w : Switch) (ok : Coil → Bool) :
    (w.advance ok).set = w.set ∧ (w.advance ok).position = w.position ∧ (w.advance ok).fault = w.fault ∧
      (w.advance ok).confirm = w.confirm ∧ (w.advance ok).attempts = w.attempts ∧
      (w.advance ok).deadCoil = w.deadCoil ∧ (w.advance ok).deadMs = w.deadMs ∧ (w.advance ok).state = w.state := by
  rw [advance_frame]
  exact ⟨rfl, rfl, rfl, rfl, rfl, rfl, rfl, rfl⟩

theorem exec_demandSetRequest {m : Member} {add : Bool} {s : State} (hgood : mainGood s = true) :
    exec (.demandSetRequest m add) s = .next (demand m add (s.take (.demandSetRequest m add))) := by
  have hsupply : s.supmon.supply = .mainGood := by simpa [mainGood] using hgood
  change execDemandSetRequest m add s = _
  rw [execDemandSetRequest, hsupply]
  change inMain _ _ s = _
  rw [inMain_good hgood]

theorem rules_of_joined_closed (m : Member) {w : Switch} (h : w.state = .closed) :
    (w.withMember m true).rules true = (w.withMember m true).startOpening := by
  rw [rules_of_closed (w := w.withMember m true) h]
  simp [Switch.withMember, put_true_isEmpty]

theorem rules_of_joined_closing (m : Member) {w : Switch} (h : w.state = .closing) :
    (w.withMember m true).rules true = (w.withMember m true).abandonClosing := by
  rw [rules_of_closing (w := w.withMember m true) h]
  simp [Switch.withMember, put_true_isEmpty]

theorem rules_of_joined_resting (m : Member) {w : Switch} (h : w.state = .opened ∨ w.state = .armed) :
    (w.withMember m true).rules true = { w.withMember m true with state := .opened } := by
  rcases h with h | h
  · rw [rules_of_opened (w := w.withMember m true) h]
    simp [Switch.withMember, put_true_isEmpty, h]
  · rw [rules_of_armed (w := w.withMember m true) h]
    simp [Switch.withMember, put_true_isEmpty]

/-- How an opening goes on at once: with every permit into the pulse, or into DEAD_TIME while the dead time from a close pulse
runs (R96, R97). -/
theorem opening_phase {w : Switch} {ph : OpPhase} {s : State} (hgood : mainGood s = true) (hstate : w.state = .opening)
    (hphase : w.phase = some ph) (hph : ph = .waitPermit ∨ ph = .deadTime) :
    (w.advance (permits { s with sw := w })).phase =
      some (if s.pins.crdy = true ∧ s.pins.cinhn = true ∧ s.supmon.brownOut = false then
        (if w.deadCoil ≠ some .closeCoil ∨ 20 ≤ w.deadMs then .pulse else .deadTime) else ph) := by
  have hready : permits { s with sw := w } .openCoil = true ↔
      s.pins.crdy = true ∧ s.pins.cinhn = true ∧ s.supmon.brownOut = false := by
    simp [permits_iff hgood]
  have hmet : w.deadTimeMet .openCoil = true ↔ w.deadCoil ≠ some .closeCoil ∨ 20 ≤ w.deadMs := by
    rw [deadTimeMet_iff]
    cases w.deadCoil with
    | none => simp
    | some c => cases c <;> simp
  rw [advance_phase_of_waiting _ (coil_of_opening hstate) hphase hph]
  simp only [hready, hmet]

/-- A member that joins opens a closed switch, and abandons a closing (R94 to R97). -/
theorem joined_sw (m : Member) {s : State} (hgood : mainGood s = true) (hout : s.sw.set.has m ≠ true) :
    let t := demand m true s
    let ready := s.pins.crdy = true ∧ s.pins.cinhn = true ∧ s.supmon.brownOut = false
    let met := s.sw.deadCoil ≠ some .closeCoil ∨ 20 ≤ s.sw.deadMs
    (s.sw.state = .closed ∨ s.sw.state = .closing →
        t.sw.state = .opening ∧ t.sw.confirm = true ∧ t.sw.attempts = 0) ∧
      (s.sw.state = .closed →
        t.sw.deadCoil = s.sw.deadCoil ∧ t.sw.deadMs = s.sw.deadMs ∧
        t.sw.phase = some (if ready then (if met then .pulse else .deadTime) else .waitPermit)) ∧
      (s.sw.state = .closing → s.sw.phase = some .pulse →
        t.sw.deadCoil = some .closeCoil ∧ t.sw.deadMs = 0 ∧ t.sw.phase = some .deadTime) ∧
      (s.sw.state = .closing → s.sw.phase ≠ some .pulse →
        t.sw.deadCoil = s.sw.deadCoil ∧ t.sw.deadMs = s.sw.deadMs ∧
        t.sw.phase = some (if ready ∧ met then .pulse else .deadTime)) ∧
      (s.sw.state = .opened ∨ s.sw.state = .armed → t.sw.state = .opened ∧ t.sw.confirm = s.sw.confirm) := by
  dsimp only
  have hsw := demand_sw hout
  refine ⟨fun h => ?opens, fun h => ?closed, fun h hpulse => ?cut, fun h hpulse => ?abandoned, fun h => ?rests⟩
  case opens =>
    rcases h with h | h
    · rw [hsw, rules_of_joined_closed m h, advance_frame]
      exact ⟨rfl, rfl, rfl⟩
    · rw [hsw, rules_of_joined_closing m h, advance_frame]
      exact ⟨rfl, rfl, rfl⟩
  case closed =>
    have hphase := opening_phase (w := (s.sw.withMember m true).startOpening) hgood rfl rfl (.inl rfl)
    rw [hsw, rules_of_joined_closed m h]
    refine ⟨?_, ?_, hphase⟩
    · rw [advance_frame]
      rfl
    · rw [advance_frame]
      rfl
  case cut =>
    have hphase := opening_phase (w := (s.sw.withMember m true).abandonClosing) hgood rfl rfl (.inr rfl)
    have hcut := cutPulse_of_pulse (w := s.sw.withMember m true) hpulse
    have hcoil : (s.sw.withMember m true).coil = some .closeCoil := coil_of_closing h
    rw [hsw, rules_of_joined_closing m h]
    rw [Switch.abandonClosing, hcut, hcoil] at hphase ⊢
    refine ⟨?_, ?_, hphase.trans (by simp [Switch.operate])⟩
    · rw [advance_frame]
      rfl
    · rw [advance_frame]
      rfl
  case abandoned =>
    have hphase := opening_phase (w := (s.sw.withMember m true).abandonClosing) hgood rfl rfl (.inr rfl)
    have hcut := cutPulse_of_ne (w := s.sw.withMember m true) hpulse
    rw [hsw, rules_of_joined_closing m h]
    rw [Switch.abandonClosing, hcut] at hphase ⊢
    refine ⟨?_, ?_, hphase.trans ?_⟩
    · rw [advance_frame]
      rfl
    · rw [advance_frame]
      rfl
    · exact congrArg some (ite_and ..).symm
  case rests =>
    rw [hsw, rules_of_joined_resting m h, advance_frame]
    exact ⟨rfl, rfl⟩

/-- Settles O28, by the supply state and by SWITCH's state before the request. -/
theorem demandRules : Obligations.DemandRules := by
  refine ⟨fun m add s => ⟨fun hsupply => ?held, fun hsupply => ?failed⟩, fun m add s hgood => ?good⟩
  case held =>
    change execDemandSetRequest m add s = _
    rw [execDemandSetRequest, hsupply]
    rfl
  case failed =>
    change execDemandSetRequest m add s = _
    rw [execDemandSetRequest, hsupply]
  case good =>
    dsimp only
    rw [exec_demandSetRequest hgood]
    refine ⟨fun hsame => by rw [demand_of_same (s := s.take _) hsame], fun hchange => ?_⟩
    have hout : (s.take (.demandSetRequest m add)).sw.set.has m ≠ add := hchange
    have hsw := demand_sw hout
    obtain ⟨harmed, hexhausted⟩ := demand_presents hout
    obtain ⟨hposition, hfault, -, -⟩ := rules_frame (s.sw.withMember m add) add
    refine ⟨_, rfl, demand_set _ _ _, ?position, ?fault, harmed, hexhausted, demand_frame _ _ _, ?joins, ?closed, ?closing,
      ?empties, ?stays, ?elsewhere⟩
    case position => rw [hsw, advance_frame]; exact hposition
    case fault => rw [hsw, advance_frame]; exact hfault
    case joins =>
      rintro rfl
      exact joined_sw m (s := s.take (.demandSetRequest m true)) hgood hout
    case closed =>
      rintro rfl hstate hquiet
      have hrules : (s.sw.withMember m false).rules false = s.sw.withMember m false := by
        rw [rules_of_closed (w := s.sw.withMember m false) hstate]
        refine if_neg ?_
        rw [demand_set] at hquiet
        rcases hquiet with hfault | hempty
        · simp [Switch.withMember, show s.sw.fault = true from hfault]
        · simp [Switch.withMember, show (s.sw.set.put m false).isEmpty = true from hempty]
      rw [hsw, State.take_sw, hrules, advance_of_not_waiting _ (.inl (coil_of_resting (by simp [Switch.withMember, hstate])))]
      rfl
    case closing =>
      rintro rfl hstate hempty
      have hrules : (s.sw.withMember m false).rules false = s.sw.withMember m false := by
        rw [demand_set] at hempty
        rw [rules_of_closing (w := s.sw.withMember m false) hstate]
        simp [Switch.withMember, show (s.sw.set.put m false).isEmpty = true from hempty]
      rw [hsw, State.take_sw, hrules, advance_frame]
      exact ⟨hstate, rfl⟩
    case empties =>
      rintro rfl hempty
      rw [demand_set] at hempty
      have hrules (hstate : s.sw.state = .opened) := rules_of_opened (w := s.sw.withMember m false) (joined := false) hstate
      refine ⟨fun hstate hconfirm => ?_, fun hstate hconfirm => ?_⟩
      all_goals
        rw [hsw, State.take_sw, hrules hstate, advance_frame]
        simp [Switch.withMember, show (s.sw.set.put m false).isEmpty = true from hempty, hconfirm, Switch.startClosing,
          Switch.operate]
    case stays =>
      rintro rfl hmembers hstate
      rw [demand_set] at hmembers
      rw [hsw, State.take_sw, rules_of_opened (w := s.sw.withMember m false) hstate, advance_frame]
      simp [Switch.withMember, show (s.sw.set.put m false).isEmpty = false from hmembers, hstate]
    case elsewhere =>
      intro hstate
      rw [hsw, State.take_sw, rules_of_opening (w := s.sw.withMember m add) hstate, advance_frame]
      exact ⟨rfl, rfl⟩

end Sys2Proof.Machine

/-! PROOF. Permits, dead time, pulse and the check after it (05, 5.4). -/

namespace Sys2Proof.Machine

/-! ## A phase that waits goes on, or does not (R96, R97) -/

section GoesOn

variable {w : Switch} {c : Coil} {s : State}

theorem settleSwitch_of_withheld (hcoil : w.coil = some c) (hno : permits { s with sw := w } c = false) :
    (settleSwitch w s).sw = w := by
  rw [settleSwitch_sw]
  unfold Switch.advance
  rw [hcoil]
  simp [hno]

theorem settleSwitch_of_not_waiting (hphase : w.phase ≠ some .waitPermit ∧ w.phase ≠ some .deadTime) :
    (settleSwitch w s).sw = w := advance_of_not_waiting _ (.inr hphase)

theorem settleSwitch_of_met (hcoil : w.coil = some c) (hphase : w.phase = some .waitPermit ∨ w.phase = some .deadTime)
    (hyes : permits { s with sw := w } c = true) (hmet : w.deadCoil = none ∨ w.deadCoil = some c ∨ 20 ≤ w.deadMs) :
    (settleSwitch w s).sw = { w with phase := some .pulse, opTimer := .started } := by
  rw [settleSwitch_sw, advance_of_waiting _ hcoil hphase, if_pos hyes, if_pos ((deadTimeMet_iff w c).mpr hmet)]

theorem settleSwitch_of_not_met (hcoil : w.coil = some c)
    (hphase : w.phase = some .waitPermit ∨ w.phase = some .deadTime) (hyes : permits { s with sw := w } c = true)
    (hnone : w.deadCoil ≠ none) (hother : w.deadCoil ≠ some c) (hms : w.deadMs < 20) :
    (settleSwitch w s).sw = { w with phase := some .deadTime } := by
  have hmet : ¬w.deadTimeMet c = true := fun h => by
    rcases (deadTimeMet_iff w c).mp h with h | h | h
    · exact hnone h
    · exact hother h
    · omega
  rw [settleSwitch_sw, advance_of_waiting _ hcoil hphase, if_pos hyes, if_neg hmet]

end GoesOn

/-! ## CRDY and CINHN (R96, R98, R99) -/

section Permit

variable {coil : Coil} {s : State}

theorem losePermit_of_deadTime {w : Switch} (cuts : Bool) (h : w.phase = some .deadTime) :
    w.losePermit cuts = { w with phase := some .waitPermit } := by
  unfold Switch.losePermit
  rw [h]

theorem losePermit_of_pulse {w : Switch} (cuts : Bool) (h : w.phase = some .pulse) :
    w.losePermit cuts = if cuts then { w.cutPulse with phase := some .waitPermit } else w := by
  unfold Switch.losePermit
  rw [h]

theorem losePermit_of_settle {w : Switch} (cuts : Bool) (h : w.phase = some .settle) : w.losePermit cuts = w := by
  unfold Switch.losePermit
  rw [h]

theorem permits_eq_false {c : Coil} (w : Switch) (h : s.pins.crdy = false ∨ s.pins.cinhn = false) :
    permits { s with sw := w } c = false := by
  unfold permits
  rcases h with h | h <;> simp [h]

/-- A permit withheld in DEAD_TIME (R97). -/
theorem permitChange_of_deadTime (cuts : Bool) (hcoil : s.sw.coil = some coil) (hphase : s.sw.phase = some .deadTime)
    (hpin : s.pins.crdy = false ∨ s.pins.cinhn = false) :
    (permitChange false cuts s).sw = { s.sw with phase := some .waitPermit } := by
  unfold permitChange
  rw [if_neg (by simp), losePermit_of_deadTime cuts hphase]
  exact settleSwitch_of_withheld hcoil (permits_eq_false _ hpin)

/-- The loss of CRDY does not cut a pulse (R98). -/
theorem permitChange_of_uncut_pulse (hphase : s.sw.phase = some .pulse) : (permitChange false false s).sw = s.sw := by
  unfold permitChange
  rw [if_neg (by simp), losePermit_of_pulse false hphase]
  exact settleSwitch_of_not_waiting (by simp [hphase])

/-- The inhibit cuts a pulse (R99). -/
theorem permitChange_of_cut_pulse (hcoil : s.sw.coil = some coil) (hphase : s.sw.phase = some .pulse)
    (hpin : s.pins.crdy = false ∨ s.pins.cinhn = false) :
    (permitChange false true s).sw =
      { s.sw with phase := some .waitPermit, deadCoil := some coil, deadMs := 0, opTimer := .stopped } := by
  unfold permitChange
  rw [if_neg (by simp), losePermit_of_pulse true hphase, if_pos rfl, cutPulse_of_pulse hphase, hcoil]
  exact settleSwitch_of_withheld (c := coil) hcoil (permits_eq_false _ hpin)

theorem permitChange_of_settle (granted cuts : Bool) (hphase : s.sw.phase = some .settle) :
    (permitChange granted cuts s).sw = s.sw := by
  unfold permitChange
  rw [losePermit_of_settle cuts hphase, ite_self]
  exact settleSwitch_of_not_waiting (by simp [hphase])

/-- Every permit held in WAIT_PERMIT: the pulse, or DEAD_TIME (R97). -/
theorem permitChange_of_granted (cuts : Bool) (hgood : mainGood s = true) (hcoil : s.sw.coil = some coil)
    (hphase : s.sw.phase = some .waitPermit) (hcrdy : s.pins.crdy = true) (hcinhn : s.pins.cinhn = true)
    (hbrown : s.supmon.brownOut = false) (hhold : coil = .closeCoil → s.sw.holdOff.running = false) :
    (s.sw.deadCoil = none ∨ s.sw.deadCoil = some coil ∨ 20 ≤ s.sw.deadMs →
        (permitChange true cuts s).sw = { s.sw with phase := some .pulse, opTimer := .started }) ∧
      (s.sw.deadCoil ≠ none → s.sw.deadCoil ≠ some coil → s.sw.deadMs < 20 →
        (permitChange true cuts s).sw = { s.sw with phase := some .deadTime }) := by
  have hyes : permits { s with sw := s.sw } coil = true := (permits_iff hgood s.sw coil).mpr ⟨hcrdy, hcinhn, hbrown, hhold⟩
  exact ⟨settleSwitch_of_met hcoil (.inl hphase) hyes, settleSwitch_of_not_met hcoil (.inl hphase) hyes⟩

theorem exec_crdyChange (high : Bool) (hgood : mainGood s = true) :
    exec (.crdyChange high) s = .next (permitChange high false { s with pins := { s.pins with crdy := high } }) := by
  change execCrdyChange high s = _
  simp [execCrdyChange, pinChange, hgood]

theorem exec_cinhnChange (high : Bool) (hgood : mainGood s = true) :
    exec (.cinhnChange high) s = .next (permitChange high true { s with pins := { s.pins with cinhn := high } }) := by
  change execCinhnChange high s = _
  simp [execCinhnChange, pinChange, hgood]

end Permit

/-! ## The ends of the phases (R97, R98, R100) -/

section Ends

variable {s : State}

theorem hasPermits_eq_true (h : hasPermits s = true) : ∃ c, s.sw.coil = some c ∧ permits s c = true := by
  unfold hasPermits at h
  cases hcoil : s.sw.coil with
  | none => simp [hcoil] at h
  | some c => exact ⟨c, rfl, by simpa [hcoil] using h⟩

theorem deadTimeOver_iff :
    deadTimeOver s = true ↔
      s.sw.phase = some .deadTime ∧ hasPermits s = true ∧
        (s.sw.deadCoil = none ∨ s.sw.deadCoil = s.sw.coil ∨ 20 ≤ s.sw.deadMs) := by
  unfold deadTimeOver
  rw [Bool.and_eq_true, Bool.and_eq_true, decide_eq_true_eq, and_assoc]
  refine and_congr_right fun _ => and_congr_right fun hyes => ?_
  obtain ⟨c, hcoil, -⟩ := hasPermits_eq_true hyes
  rw [hcoil, Option.any_some, deadTimeMet_iff]

theorem exec_deadTimeEnd (hgood : mainGood s = true) :
    exec .deadTimeEnd s =
      .next (if deadTimeOver s = true then settleSwitch s.sw (s.take .deadTimeEnd) else s.take .deadTimeEnd) := by
  change execDeadTimeEnd s = _
  rw [execDeadTimeEnd, inMain_good hgood]
  rfl

theorem exec_pulseEnd (hgood : mainGood s = true) :
    exec .pulseEnd s =
      .next (if s.sw.phaseOver .pulse 60 = true then { s.take .pulseEnd with sw := s.sw.endPulse } else s.take .pulseEnd) := by
  change execPulseEnd s = _
  rw [execPulseEnd, inMain_good hgood]
  rfl

theorem phaseOver_of {w : Switch} {ph : OpPhase} {limit : Nat} (hphase : w.phase = some ph)
    (hrun : w.opTimer.running = true) (hms : limit ≤ w.opTimer.ms) : w.phaseOver ph limit = true := by
  simp [Switch.phaseOver, hphase, Timer.due_eq_true hrun hms]

theorem phaseOver_eq_false {w : Switch} {ph : OpPhase} {limit : Nat}
    (h : w.phase ≠ some ph ∨ w.opTimer.running = false ∨ w.opTimer.ms < limit) : w.phaseOver ph limit = false := by
  unfold Switch.phaseOver
  rcases h with hphase | htimer
  · simp [hphase]
  · simp [Timer.due_eq_false htimer]

theorem due_of_phaseOver {w : Switch} {ph : OpPhase} {limit : Nat} (h : w.phaseOver ph limit = false)
    (hphase : w.phase = some ph) : w.opTimer.due limit = false := by
  simpa [Switch.phaseOver, hphase] using h

/-- A timer that rests at a higher count than its limit counts up to the limit as one that rests there. -/
theorem counts_tick_of_le {limit cap : Nat} {t : Timer} (h : t.due limit = false) (hle : limit ≤ cap) :
    Counts limit t (t.tick cap) := by
  intro hrun
  obtain ⟨hlt, -⟩ := counts_tick h hrun
  refine ⟨hlt, ?_⟩
  simp only [Timer.tick, hrun, if_true]
  congr
  omega

end Ends

/-- Settles O29, by the phase in which a permit changes and by the end of each phase. -/
theorem permitsAndPhases : Obligations.PermitsAndPhases := by
  refine ⟨fun high coil s hcoil => ⟨fun hgood => ⟨?crdy, ?cinhn⟩, fun hstopped => ⟨?crdyStopped, ?cinhnStopped⟩⟩,
    fun s hgood hphase hpermits => ⟨fun hmet => ?starts, fun hnone hother hms => ?early⟩, fun s hgood hnot => ?noPermit,
    fun s hgood hnot => ?notPulse, fun s hidle => ?idle, fun s hgood hphase hrun hms => ?pulse⟩
  case crdy =>
    refine ⟨_, exec_crdyChange high hgood, rfl, ?_, ?_, ?_, permitChange_of_settle (s := { s with pins := { s.pins with crdy := high } }) high false⟩
    · rintro rfl hphase
      exact permitChange_of_uncut_pulse (s := { s with pins := { s.pins with crdy := false } }) hphase
    · rintro rfl hphase
      exact permitChange_of_deadTime (s := { s with pins := { s.pins with crdy := false } }) false hcoil hphase (.inl rfl)
    · rintro rfl hphase hcinhn hbrown hhold
      exact permitChange_of_granted (s := { s with pins := { s.pins with crdy := true } }) false hgood hcoil hphase rfl
        hcinhn hbrown hhold
  case cinhn =>
    refine ⟨_, exec_cinhnChange high hgood, rfl, ?_, ?_, ?_, permitChange_of_settle (s := { s with pins := { s.pins with cinhn := high } }) high true⟩
    · rintro rfl hphase
      exact permitChange_of_cut_pulse (s := { s with pins := { s.pins with cinhn := false } }) hcoil hphase (.inr rfl)
    · rintro rfl hphase
      exact permitChange_of_deadTime (s := { s with pins := { s.pins with cinhn := false } }) true hcoil hphase (.inr rfl)
    · rintro rfl hphase hcrdy hbrown hhold
      exact permitChange_of_granted (s := { s with pins := { s.pins with cinhn := true } }) true hgood hcoil hphase hcrdy
        rfl hbrown hhold
  case crdyStopped =>
    change execCrdyChange high s = _
    simp [execCrdyChange, pinChange, hstopped]
  case cinhnStopped =>
    change execCinhnChange high s = _
    simp [execCinhnChange, pinChange, hstopped]
  case starts =>
    obtain ⟨c, hcoil, hyes⟩ := hasPermits_eq_true hpermits
    rw [exec_deadTimeEnd hgood, if_pos (deadTimeOver_iff.mpr ⟨hphase, hpermits, hmet⟩)]
    rw [hcoil] at hmet
    exact ⟨_, rfl, settleSwitch_of_met hcoil (.inr hphase) hyes hmet, rfl⟩
  case early =>
    rw [exec_deadTimeEnd hgood, if_neg fun hover => ?_]
    obtain ⟨-, -, h | h | h⟩ := deadTimeOver_iff.mp hover
    · exact hnone h
    · exact hother h
    · omega
  case noPermit =>
    rw [exec_deadTimeEnd hgood, if_neg fun hover => ?_]
    obtain ⟨hphase, hpermits, -⟩ := deadTimeOver_iff.mp hover
    rcases hnot with hne | hwithheld
    · exact hne hphase
    · simp [hwithheld] at hpermits
  case notPulse => rw [exec_pulseEnd hgood, phaseOver_eq_false hnot, if_neg (by simp)]
  case idle =>
    have hnothing := hidle.nothing_due.2.2
    have hpulse := hnothing (s.sw.phaseOver .pulse pulseMs, .pulseEnd) (by simp [dueTimers])
    have hsettle := hnothing (s.sw.phaseOver .settle settleMs, .settleEnd) (by simp [dueTimers])
    have hdead := hnothing (deadTimeOver s, .deadTimeEnd) (by simp [dueTimers])
    refine ⟨_, step_idle hidle, rfl, fun hphase => ?_, fun hphase => ?_, fun hphase hpermits => ?_⟩
    · exact counts_tick_of_le (due_of_phaseOver hpulse hphase) (by decide)
    · exact counts_tick_of_le (due_of_phaseOver hsettle hphase) (le_refl _)
    · have hlt : s.sw.deadMs < 20 := by
        by_contra hms
        rw [deadTimeOver_iff.mpr ⟨hphase, hpermits, .inr (.inr (not_lt.mp hms))⟩] at hdead
        cases hdead
      refine ⟨hlt, ?_⟩
      change min (s.sw.deadMs + 1) 100 = _
      omega
  case pulse =>
    rw [exec_pulseEnd hgood, if_pos (phaseOver_of hphase hrun hms)]
    rfl

end Sys2Proof.Machine

/-! PROOF. Relay faults, verified operations and the watches of SWITCH (05, 5.4 to 5.8). -/

namespace Sys2Proof.Machine

/-! ## One latched class, wherever others are signalled (R190) -/

/-- A latched class of both ports stands in b as in a. -/
def SameAt (k : LatchedClass) (a b : State) : Prop :=
  ∀ p, (b.alert.ports.get p).classes.get (.latched k) = (a.alert.ports.get p).classes.get (.latched k)

theorem LatchedSame.at {a b : State} (k : LatchedClass) (h : LatchedSame a b) : SameAt k a b := fun p => h p k

theorem SameAt.trans {k : LatchedClass} {a b c : State} (hab : SameAt k a b) (hbc : SameAt k b c) : SameAt k a c :=
  fun p => (hbc p).trans (hab p)

theorem SameAt.of_alert {k : LatchedClass} {a b : State} (h : b.alert = a.alert) : SameAt k a b :=
  (LatchedSame.of_alert h).at k

theorem sameAt_occurrence {j k : LatchedClass} (toMeter toNetwork : Bool) (s : State) (h : k ≠ j) :
    SameAt k s (occurrence j toMeter toNetwork s) := by
  have hraise (a : PortAlert) : (a.raise (.latched j)).classes.get (.latched k) = a.classes.get (.latched k) :=
    PortAlert.raise_get_ne a (by simpa using h)
  intro p
  cases p with
  | meter =>
    change (if toMeter then s.alert.ports.meter.raise (.latched j) else s.alert.ports.meter).classes.get _ = _
    split
    · exact hraise _
    · rfl
  | network =>
    change (if toNetwork then s.alert.ports.network.raise (.latched j) else s.alert.ports.network).classes.get _ = _
    split
    · exact hraise _
    · rfl

theorem Signalled.of_sameAt {k : LatchedClass} {a b c d : State} (hab : SameAt k a b) (hcd : SameAt k c d) {p : Port}
    (hbc : Signalled (.latched k) (b.alert.ports.get p) (c.alert.ports.get p)) :
    Signalled (.latched k) (a.alert.ports.get p) (d.alert.ports.get p) := by
  unfold Signalled at *
  rw [hcd p, hbc, hab p]

/-- A class that has been signalled once more on both ports. -/
def SignalledOnBoth (k : LatchedClass) (a b : State) : Prop :=
  Signalled (.latched k) a.alert.ports.meter b.alert.ports.meter ∧
    Signalled (.latched k) a.alert.ports.network b.alert.ports.network

theorem signalledOnBoth_occurrence {k : LatchedClass} {a b c : State} (hab : SameAt k a b)
    (hbc : SameAt k (occurrence k true true b) c) : SignalledOnBoth k a c :=
  ⟨.of_sameAt (p := .meter) hab hbc (signalled_occurrence k .meter b),
    .of_sameAt (p := .network) hab hbc (signalled_occurrence k .network b)⟩

theorem SignalledOnBoth.of_sameAt {k : LatchedClass} {a b c d : State} (h : SignalledOnBoth k b c) (hab : SameAt k a b)
    (hcd : SameAt k c d) : SignalledOnBoth k a d :=
  ⟨.of_sameAt (p := .meter) hab hcd h.1, .of_sameAt (p := .network) hab hcd h.2⟩

/-! ## The believed position (R103) -/

theorem sensed_ne_unknown (s : State) : sensed s ≠ .unknown := by
  unfold sensed
  split <;> simp

theorem believe_of_same {p : Position} (n : Nat) {s : State} (h : s.sw.position = p) : believe p n s = s := by
  subst h
  exact if_pos (.inl rfl)

/-- The routine record of a believed position that changes (R103). -/
def positionRecord (p : Position) (n : Nat) (s : State) : Record :=
  { time := s.cal.t, valid := s.cal.valid, kind := if p = .closed then .relayClosed else .relayOpened,
    relay := some ⟨s.sw.position, p, s.sw.set, n⟩ }

theorem believe_of_changed {p : Position} {n : Nat} {s : State} (hp : p ≠ .unknown) (h : s.sw.position ≠ p) :
    (believe p n s).log = s.log.offerRoutine (evidenceWaiting s) (positionRecord p n s) ∧
      SignalledOnBoth .supplyChanged s (believe p n s) ∧
      ∀ k, k ≠ .supplyChanged → SameAt k s (believe p n s) := by
  have hmoves : ¬(p = s.sw.position ∨ p = .unknown) := by
    rintro (h' | h')
    · exact h h'.symm
    · exact hp h'
  unfold believe
  rw [if_neg hmoves]
  refine ⟨?_, signalledOnBoth_occurrence (.of_alert rfl) (.of_alert rfl), fun k hk => ?_⟩
  · cases p with
    | unknown => exact absurd rfl hp
    | opened => rfl
    | closed => rfl
  · exact SameAt.trans (.of_alert rfl) (sameAt_occurrence _ _ _ hk)

/-! ## Relay faults (R101, R109) -/

/-- The RELAY_FAULT record (R101). -/
def faultRecord (n : Nat) (s : State) : Record :=
  { time := s.cal.t, valid := s.cal.valid, kind := .relayFault, relay := some ⟨s.sw.position, sensed s, s.sw.set, n⟩,
    energy := some s.totals.imported }

/-- SWITCH's waiting records and LOG with that record staged (R101). -/
def faultStaged (n : Nat) (s : State) : List Record × EvidenceLog := s.log.stageFrom s.sw.waiting 2 (faultRecord n s)

/-- The fault flag is set, and its record and its alert are given; the position is not yet taken (R101 steps 1 to 3). -/
def faultRaised (n : Nat) (s : State) : State :=
  occurrence .relayFault true true (stageSwitch (faultRecord n s) { s with sw := { s.sw with fault := true } })

theorem relayFault_eq (n : Nat) (s : State) : relayFault n s = believe (sensed s) n (faultRaised n s) := rfl

theorem evidenceWaiting_faultRaised (n : Nat) (s : State) :
    evidenceWaiting (faultRaised n s) = decide (s.tamper.hold ≠ [] ∨ (faultStaged n s).1 ≠ [] ∨ s.cal.hold ≠ []) := by
  have hempty (l : List Record) : (!l.isEmpty) = decide (l ≠ []) := by cases l <;> rfl
  change (!s.tamper.hold.isEmpty || !(faultStaged n s).1.isEmpty || !s.cal.hold.isEmpty) = _
  rw [hempty, hempty, hempty, Bool.decide_or, Bool.decide_or, Bool.or_assoc]

theorem sameAt_believe (k : LatchedClass) {p : Position} {n : Nat} {s : State} (hp : p ≠ .unknown)
    (hk : k ≠ .supplyChanged) : SameAt k s (believe p n s) := by
  by_cases h : s.sw.position = p
  · rw [believe_of_same n h]
    exact .of_alert rfl
  · exact (believe_of_changed hp h).2.2 k hk

/-- What a relay fault records and signals: RELAY_FAULT first, and the position's record behind it where it changes (R101,
R103; log entry 43). -/
theorem relayFault_records (n : Nat) (s : State) :
    (relayFault n s).sw.waiting = (faultStaged n s).1 ∧ SignalledOnBoth .relayFault s (relayFault n s) ∧
      (s.sw.position = sensed s → (relayFault n s).log = (faultStaged n s).2) ∧
      (s.sw.position ≠ sensed s →
        (relayFault n s).log =
            (faultStaged n s).2.offerRoutine
              (decide (s.tamper.hold ≠ [] ∨ (faultStaged n s).1 ≠ [] ∨ s.cal.hold ≠ []))
              (positionRecord (sensed s) n s) ∧
          SignalledOnBoth .supplyChanged s (relayFault n s)) := by
  rw [relayFault_eq]
  refine ⟨by rw [believe_sw]; rfl, ?alert, fun h => ?same, fun h => ?changed⟩
  case alert =>
    exact signalledOnBoth_occurrence (.of_alert rfl) (sameAt_believe _ (sensed_ne_unknown s) (by simp))
  case same =>
    rw [believe_of_same n (s := faultRaised n s) h]
    rfl
  case changed =>
    obtain ⟨hlog, hsupply, -⟩ := believe_of_changed (n := n) (s := faultRaised n s) (sensed_ne_unknown s) h
    rw [evidenceWaiting_faultRaised] at hlog
    have hbefore : SameAt .supplyChanged s (faultRaised n s) :=
      SameAt.trans (.of_alert rfl) (sameAt_occurrence true true _ (by simp))
    exact ⟨hlog, hsupply.of_sameAt hbefore (.of_alert rfl)⟩

theorem settleSwitch_of_resting {w : Switch} {s : State} (h : w.state ≠ .opening ∧ w.state ≠ .closing) :
    (settleSwitch w s).sw = w := advance_of_not_waiting _ (.inl (coil_of_resting h))

/-! ## The check at the end of SETTLE (R100, R101) -/

theorem exec_settleEnd {s : State} (hgood : mainGood s = true) :
    exec .settleEnd s =
      .next (if s.sw.phaseOver .settle 100 = true then checkOperation (s.take .settleEnd) else s.take .settleEnd) := by
  change execSettleEnd s = _
  rw [execSettleEnd, inMain_good hgood]
  rfl

theorem latchedSame_applyRules (joined : Bool) (s : State) : LatchedSame s (applyRules joined s) :=
  latchedSame_settleSwitch _ s

/-- SWITCH at rest after a verified operation, before the rules look at its set (R100). -/
def restedAt (w : Switch) (target : Position) : Switch :=
  { w.rest (if target = .closed then .closed else .opened) with
    position := target, fault := false, streak := 0, bypass := .stopped, bypassRaised := false }

theorem verified_sw (s : State) :
    (verified s).sw = ((restedAt s.sw s.sw.target).rules false).advance
      (permits { believe s.sw.target s.sw.attempts s with sw := (restedAt s.sw s.sw.target).rules false }) := by
  unfold verified
  dsimp only
  rw [believe_sw]
  rfl

theorem target_ne_unknown (w : Switch) : w.target ≠ .unknown := by
  unfold Switch.target
  split <;> simp

theorem target_eq (w : Switch) (h : w.state = .opening ∨ w.state = .closing) :
    w.target = if w.state = .closing then .closed else .opened := by
  unfold Switch.target
  rcases h with h | h <;> rw [h] <;> rfl

/-- A verified operation rests at its target; the rules then look at the set (R100). -/
theorem verified_states {s : State} :
    (verified s).sw.position = s.sw.target ∧ (verified s).sw.fault = false ∧
      (s.sw.state = .closing → s.sw.set.isEmpty = true →
        (verified s).sw.state = .closed ∧ (verified s).sw.phase = none) ∧
      (s.sw.state = .opening → s.sw.set.isEmpty = false →
        (verified s).sw.state = .opened ∧ (verified s).sw.phase = none) ∧
      (s.sw.state = .opening → s.sw.set.isEmpty = true → s.sw.confirm = true → (verified s).sw.state = .armed) ∧
      (s.sw.state = .opening → s.sw.set.isEmpty = true → s.sw.confirm = false → (verified s).sw.state = .closing) := by
  obtain ⟨hposition, hfault, -, -⟩ := rules_frame (restedAt s.sw s.sw.target) false
  have htarget (h : s.sw.state = .opening) : s.sw.target = .opened := by rw [target_eq _ (.inl h), h]; rfl
  rw [verified_sw]
  refine ⟨by rw [advance_frame]; exact hposition, by rw [advance_frame]; exact hfault, fun hstate hempty => ?_,
    fun hstate hmembers => ?_, fun hstate hempty hconfirm => ?_, fun hstate hempty hconfirm => ?_⟩
  · have hclosed : s.sw.target = .closed := by rw [target_eq _ (.inr hstate), hstate]; rfl
    have hrules : (restedAt s.sw .closed).rules false = restedAt s.sw .closed := by
      rw [rules_of_closed (w := restedAt s.sw .closed) rfl]
      simp [restedAt, Switch.rest, hempty]
    rw [hclosed, hrules, advance_of_not_waiting _ (.inl rfl)]
    exact ⟨rfl, rfl⟩
  all_goals
    rw [htarget hstate, rules_of_opened (w := restedAt s.sw .opened) rfl]
  · simp [restedAt, Switch.rest, hmembers, advance_of_not_waiting]
  · simp [restedAt, Switch.rest, hempty, hconfirm]
  · simp [restedAt, Switch.rest, hempty, hconfirm, Switch.startClosing, Switch.operate]

theorem verified_log (s : State) : (verified s).log = (believe s.sw.target s.sw.attempts s).log := rfl

theorem sameAt_verified (k : LatchedClass) (s : State) :
    SameAt k (believe s.sw.target s.sw.attempts s) (verified s) :=
  (LatchedSame.trans (.of_alert rfl) (latchedSame_applyRules false _)).at k

/-- A third failed check: the relay fault, and SWITCH rests where the fault leaves it (R101). -/
theorem operationFailed_sw {s : State} (h : s.sw.state = .opening ∨ s.sw.state = .closing) :
    (operationFailed s).sw =
      { (relayFault s.sw.attempts s).sw.rest (if s.sw.state = .closing then .armed else .closed) with
        confirm := s.sw.confirm || decide (s.sw.state = .closing) } := by
  have hconfirm : (relayFault s.sw.attempts s).sw.confirm = s.sw.confirm := by rw [relayFault_sw]
  unfold operationFailed
  dsimp only
  rcases h with h | h
  · rw [h, if_neg (by decide), if_neg (by decide), settleSwitch_of_resting ⟨by simp [Switch.rest], by simp [Switch.rest]⟩]
    simp [Switch.rest, hconfirm]
  · rw [h, if_pos (by decide), if_pos rfl, settleSwitch_of_resting ⟨by simp [Switch.rest], by simp [Switch.rest]⟩]
    simp

theorem verified_frame (s : State) :
    verified s = { s with sw := (verified s).sw, log := (verified s).log, alert := (verified s).alert } ∧
      (verified s).sw.set = s.sw.set := by
  unfold verified
  dsimp only
  exact ⟨State.eq_of, by simp [Switch.rest, believe_sw]⟩

theorem operationFailed_frame (s : State) :
    operationFailed s =
        { s with sw := (operationFailed s).sw, log := (operationFailed s).log, alert := (operationFailed s).alert } ∧
      (operationFailed s).sw.set = s.sw.set ∧ (operationFailed s).log = (relayFault s.sw.attempts s).log ∧
      ∀ k, SameAt k (relayFault s.sw.attempts s) (operationFailed s) := by
  unfold operationFailed
  dsimp only
  refine ⟨State.eq_of, ?_, rfl, fun k => (latchedSame_settleSwitch _ _).at k⟩
  rw [settleSwitch_set]
  split <;> simp [Switch.rest]

/-- A further attempt: the operation goes on from WAIT_PERMIT (R100). -/
def tryAgain (s : State) : State := settleSwitch { s.sw with phase := some .waitPermit, opTimer := .stopped } s

theorem tryAgain_sw (s : State) :
    (tryAgain s).sw.state = s.sw.state ∧ (tryAgain s).sw.attempts = s.sw.attempts ∧
      (tryAgain s).sw.position = s.sw.position ∧ (tryAgain s).sw.set = s.sw.set ∧
      (tryAgain s).sw.phase ≠ some .settle ∧ (tryAgain s).sw.phase ≠ none := by
  unfold tryAgain
  rw [settleSwitch_sw]
  rcases advance_cases { s.sw with phase := some .waitPermit, opTimer := .stopped }
      (permits { s with sw := { s.sw with phase := some .waitPermit, opTimer := .stopped } }) with
    h | ⟨_, _, _, h⟩ | ⟨_, _, _, _, _, h⟩
  all_goals
    rw [h]
    exact ⟨rfl, rfl, rfl, rfl, by simp, by simp⟩

theorem checkOperation_of_success {s : State} (h : sensed s = s.sw.target) : checkOperation s = verified s := if_pos h

theorem checkOperation_of_retry {s : State} (h : sensed s ≠ s.sw.target) (hlt : s.sw.attempts < 3) :
    checkOperation s = tryAgain s := (if_neg h).trans (if_pos hlt)

theorem checkOperation_of_failure {s : State} (h : sensed s ≠ s.sw.target) (hle : 3 ≤ s.sw.attempts) :
    checkOperation s = operationFailed s := (if_neg h).trans (if_neg (not_lt.mpr hle))

theorem checkOperation_frame (s : State) :
    checkOperation s =
        { s with
          sw := (checkOperation s).sw, log := (checkOperation s).log, alert := (checkOperation s).alert } ∧
      (checkOperation s).sw.set = s.sw.set := by
  by_cases hshown : sensed s = s.sw.target
  · rw [checkOperation_of_success hshown]
    exact verified_frame s
  · by_cases hlt : s.sw.attempts < 3
    · rw [checkOperation_of_retry hshown hlt]
      exact ⟨rfl, (tryAgain_sw s).2.2.2.1⟩
    · rw [checkOperation_of_failure hshown (not_lt.mp hlt)]
      exact ⟨(operationFailed_frame s).1, (operationFailed_frame s).2.1⟩

/-- Settles O30, by whether the check finds the target and by the number of attempts. -/
theorem settleChecks : Obligations.SettleChecks := by
  refine ⟨fun s hgood hnot => ?_, fun s hgood hphase hrun hms hoperation => ?_⟩
  · rw [exec_settleEnd hgood, phaseOver_eq_false hnot, if_neg (by simp)]
  dsimp only
  rw [exec_settleEnd hgood, if_pos (phaseOver_of hphase hrun hms), ← target_eq _ hoperation]
  obtain ⟨hframe, hset⟩ := checkOperation_frame (s.take .settleEnd)
  refine ⟨_, rfl, hframe, hset, fun hshown => ?success, fun hshown hlt => ?retry, fun hshown hle => ?failure⟩
  case success =>
    rw [checkOperation_of_success (s := s.take .settleEnd) hshown]
    obtain ⟨hposition, hfault, hclosed, hopened, harmed, hclosing⟩ := verified_states (s := s.take .settleEnd)
    refine ⟨hposition, hfault, hclosed, hopened, harmed, hclosing, fun hsame => ?_, fun hchanged => ?_⟩
    · have hbelieved := congrArg State.log (believe_of_same s.sw.attempts (s := s.take .settleEnd) hsame)
      exact (verified_log _).trans hbelieved
    · obtain ⟨hlog, hsupply, -⟩ := believe_of_changed (n := s.sw.attempts) (s := s.take .settleEnd)
        (target_ne_unknown s.sw) hchanged
      exact ⟨hlog, hsupply.of_sameAt (.of_alert rfl) (sameAt_verified _ _)⟩
  case retry =>
    rw [checkOperation_of_retry (s := s.take .settleEnd) hshown hlt]
    obtain ⟨hstate, hattempts, hposition, -, hsettle, hnone⟩ := tryAgain_sw (s.take .settleEnd)
    exact ⟨hstate, hattempts, hposition, rfl, hsettle, hnone⟩
  case failure =>
    rw [checkOperation_of_failure (s := s.take .settleEnd) hshown hle]
    obtain ⟨-, -, hlog, hsame⟩ := operationFailed_frame (s.take .settleEnd)
    obtain ⟨hwaiting, hfault, hstays, hmoves⟩ := relayFault_records s.sw.attempts (s.take .settleEnd)
    have hsw := operationFailed_sw (s := s.take .settleEnd) hoperation
    have hrelay := relayFault_sw s.sw.attempts (s.take .settleEnd)
    have hfailed := hfault.of_sameAt (.of_alert rfl) (hsame _)
    refine ⟨?flag, ?position, ?phase, fun hstate => ?closed, fun hstate => ?armed, hfailed.1, hfailed.2, ?waiting,
      fun hposition => ?stays, fun hposition => ?moves⟩
    case flag => rw [hsw]; exact relayFault_fault _ _
    case position => rw [hsw]; exact congrArg Switch.position hrelay
    case phase => rw [hsw]; rfl
    case closed => rw [hsw]; exact if_neg (by simp [hstate])
    case armed => rw [hsw]; exact ⟨if_pos hstate, by simp [hstate]⟩
    case waiting => rw [hsw]; exact hwaiting
    case stays => rw [hlog]; exact hstays hposition
    case moves =>
      rw [hlog]
      obtain ⟨hoffered, hsupply⟩ := hmoves hposition
      exact ⟨hoffered, hsupply.of_sameAt (.of_alert rfl) (hsame _)⟩

end Sys2Proof.Machine

/-! PROOF. Reconnection, the timers and the watches of SWITCH (05, 5.5 to 5.8). -/

namespace Sys2Proof.Machine

theorem settleSwitch_keeps (w : Switch) (s : State) :
    (settleSwitch w s).sw.set = w.set ∧ (settleSwitch w s).sw.position = w.position ∧
      (settleSwitch w s).sw.fault = w.fault ∧ (settleSwitch w s).sw.confirm = w.confirm ∧
      (settleSwitch w s).sw.attempts = w.attempts ∧ (settleSwitch w s).sw.deadCoil = w.deadCoil ∧
      (settleSwitch w s).sw.deadMs = w.deadMs ∧ (settleSwitch w s).sw.state = w.state :=
  advance_keeps w _

/-! ## CONFIRM_RECONNECT, REMOTE_OPEN, REMOTE_RELEASE (R104 to R106) -/

/-- SWITCH when a remote release is taken, before the rules (R106). -/
def released (close : Bool) (w : Switch) : Switch :=
  { w with set := w.set.put .remote false, confirm := w.confirm && !close }

theorem remoteRelease_sw (close : Bool) (s : State) :
    (remoteRelease close s).sw =
      ((released close s.sw).rules false).advance (permits { s with sw := (released close s.sw).rules false }) := rfl

/-- The rules leave the confirmation flag, but where they open the switch (R94, R95). -/
theorem rules_confirm {w : Switch} {joined : Bool}
    (h : (w.state ≠ .closed ∧ w.state ≠ .closing) ∨ w.set.isEmpty = true ∨
      (w.state = .closed ∧ w.fault = true ∧ joined = false)) : (w.rules joined).confirm = w.confirm := by
  unfold Switch.rules
  split
  · next hstate =>
      refine congrArg Switch.confirm (if_neg ?_)
      rcases h with ⟨hne, -⟩ | hempty | ⟨-, hfault, hjoined⟩
      · exact absurd hstate hne
      · simp [hempty]
      · simp [hfault, hjoined]
  · next hstate =>
      refine congrArg Switch.confirm (if_neg ?_)
      rcases h with ⟨-, hne⟩ | hempty | ⟨hclosed, -⟩
      · exact absurd hstate hne
      · simp [hempty]
      · simp [hstate] at hclosed
  · split
    · split <;> rfl
    · rfl
  · split
    · rfl
    · split <;> rfl
  · rfl
  · rfl

/-- What a release does, from SWITCH's state (R106). -/
theorem released_states (close : Bool) (s : State) :
    let t := remoteRelease close s
    let empty := (s.sw.set.put .remote false).isEmpty
    (s.sw.state = .opened → empty = true → t.sw.state = if s.sw.confirm && !close then .armed else .closing) ∧
      (s.sw.state = .opened → empty = false → t.sw.state = .opened) ∧
      (s.sw.state = .armed → empty = true → t.sw.state = if s.sw.confirm && !close then .armed else .closing) ∧
      (s.sw.state = .opening ∨ s.sw.state = .unknown → t.sw.state = s.sw.state) ∧
      (s.sw.state = .closed → empty = true ∨ s.sw.fault = true → t.sw = released close s.sw) ∧
      (s.sw.state = .closing → empty = true → t.sw.state = .closing ∧ t.sw.attempts = s.sw.attempts) ∧
      ((s.sw.state ≠ .closed ∧ s.sw.state ≠ .closing) ∨ empty = true ∨ (s.sw.state = .closed ∧ s.sw.fault = true) →
        t.sw.confirm = (s.sw.confirm && !close)) := by
  dsimp only
  rw [remoteRelease_sw]
  refine ⟨fun hstate hempty => ?opened, fun hstate hmembers => ?stays, fun hstate hempty => ?armed, fun hstate => ?opening,
    fun hstate hquiet => ?closed, fun hstate hempty => ?closing, fun h => ?confirm⟩
  case opened =>
    rw [advance_state, rules_of_opened (w := released close s.sw) hstate, if_pos (by exact hempty)]
    change (if (s.sw.confirm && !close) = true then { released close s.sw with state := .armed }
      else (released close s.sw).startClosing).state = _
    split <;> rfl
  case stays =>
    rw [advance_state, rules_of_opened (w := released close s.sw) hstate,
      if_neg (by rw [Bool.not_eq_true]; exact hmembers)]
    exact hstate
  case armed =>
    rw [advance_state, rules_of_armed (w := released close s.sw) hstate, if_neg (by simpa [released] using hempty)]
    change (if (s.sw.confirm && !close) = true then released close s.sw
      else (released close s.sw).startClosing).state = _
    split
    · exact hstate
    · rfl
  case opening => rw [advance_state, rules_of_opening (w := released close s.sw) hstate]; rfl
  case closed =>
    have hrules : (released close s.sw).rules false = released close s.sw := by
      rw [rules_of_closed (w := released close s.sw) hstate]
      refine if_neg ?_
      rcases hquiet with hempty | hfault
      · simp [released, hempty]
      · simp [released, hfault]
    rw [hrules, advance_of_not_waiting _ (.inl (coil_of_resting (by simp [released, hstate])))]
  case closing =>
    have hrules : (released close s.sw).rules false = released close s.sw := by
      rw [rules_of_closing (w := released close s.sw) hstate]
      simp [released, hempty]
    rw [hrules, advance_frame]
    exact ⟨hstate, rfl⟩
  case confirm =>
    rw [advance_frame]
    exact rules_confirm (w := released close s.sw) (h.imp id (Or.imp id fun ⟨hstate, hfault⟩ => ⟨hstate, hfault, rfl⟩))

theorem exec_remoteRelease {mode : Byte} {s : State} (h : Ready .network s) (hmode : mode = 0#8 ∨ mode = 1#8) :
    exec (.remoteRelease .network mode) s =
      .next (respond .network (.bare .ok)
        (remoteRelease (decide (mode = 1#8)) (s.take (.remoteRelease .network mode)))) := by
  rcases hmode with rfl | rfl
  · unfold exec
    exact runCommand_ready h
  · unfold exec
    exact runCommand_ready h

/-- Settles O31, by the state of SWITCH at each order. -/
theorem reconnectOrders : Obligations.ReconnectOrders := by
  refine ⟨fun s hready => ?confirm, fun s hready => ?openOrder, fun mode s hready => ⟨fun hbad => ?bad, fun hmode => ?release⟩⟩
  case confirm =>
    have hexec : exec (.confirmReconnect .meter) s =
        .next (respond .meter (confirmReconnect (s.take (.confirmReconnect .meter))).2
          (confirmReconnect (s.take (.confirmReconnect .meter))).1) := by
      unfold exec
      exact runCommand_ready hready
    dsimp only
    rw [hexec]
    refine ⟨fun harmed => ?_, fun hnot => ?_⟩
    · have hconfirm : confirmReconnect (s.take (.confirmReconnect .meter)) =
          (settleSwitch { s.sw.startClosing with confirm := false } (s.take (.confirmReconnect .meter)), .bare .ok) := by
        unfold confirmReconnect
        rw [State.take_sw, harmed]
      rw [hconfirm]
      obtain ⟨hset, -, -, hflag, hattempts, -, -, hstate⟩ :=
        settleSwitch_keeps { s.sw.startClosing with confirm := false } (s.take (.confirmReconnect .meter))
      exact ⟨_, rfl, hstate, hflag, hattempts, hset, settleSwitch_armed _ _, rfl⟩
    · have hrefused : confirmReconnect (s.take (.confirmReconnect .meter)) =
          (s.take (.confirmReconnect .meter), .bare .notArmed) := by
        unfold confirmReconnect
        rw [State.take_sw]
        cases hstate : s.sw.state with
        | armed => exact absurd hstate hnot
        | unknown | closed | opened | opening | closing => rfl
      rw [hrefused]
  case openOrder =>
    have hexec : exec (.remoteOpen .network) s =
        .next (respond .network (.bare .ok) (demand .remote true (s.take (.remoteOpen .network)))) := by
      unfold exec
      exact runCommand_ready hready
    refine ⟨_, hexec, demand_set _ _ _, demand_frame _ _ _, fun hin => demand_of_same (s := s.take _) hin, fun hout => ?_⟩
    obtain ⟨hopens, -, -, -, hrests⟩ := joined_sw .remote (s := s.take (.remoteOpen .network)) hready.1
      (by simp [DemandSet.has, hout])
    exact ⟨fun h => ⟨(hopens h).1, (hopens h).2.1⟩, hrests⟩
  case bad =>
    have hneither : mode.toNat ≠ 0 ∧ mode.toNat ≠ 1 := by omega
    change execRemoteRelease .network mode s = _
    unfold execRemoteRelease
    refine (runCommand_ready hready).trans ?_
    split
    · next h => exact absurd h hneither.1
    · next h => exact absurd h hneither.2
    · rfl
  case release =>
    have hbit : mode = 0#8 ∨ mode = 1#8 := by bv_omega
    obtain ⟨hopened, hstays, harmed, hopening, hclosed, hclosing, hconfirm⟩ :=
      released_states (decide (mode = 1#8)) (s.take (.remoteRelease .network mode))
    have hset : (remoteRelease (decide (mode = 1#8)) (s.take (.remoteRelease .network mode))).sw.set =
        s.sw.set.put .remote false := by
      unfold remoteRelease
      simp
    have hclose : (!decide (mode = 1#8)) = decide (mode = 0#8) := by rcases hbit with rfl | rfl <;> rfl
    rw [hclose] at hopened harmed hconfirm
    refine ⟨_, exec_remoteRelease hready hbit, hset, rfl, ?_⟩
    rw [hset]
    have hflag : (mode = 0#8 ∧ s.sw.confirm = true) ↔ (s.sw.confirm && decide (mode = 0#8)) = true := by
      rw [Bool.and_eq_true, decide_eq_true_eq, and_comm]
    simp only [hflag]
    refine ⟨hopened, hstays, harmed, hopening, fun hstate hquiet => ?_, hclosing, hconfirm⟩
    rw [hclosed hstate hquiet]
    rfl

/-! ## Timers (R107, R108, R110) -/

theorem demand_keeps (m : Member) (add : Bool) (s : State) :
    (demand m add s).sw.overload = s.sw.overload ∧ (demand m add s).sw.holdOff = s.sw.holdOff := by
  by_cases h : s.sw.set.has m = add
  · rw [demand_of_same h]
    exact ⟨rfl, rfl⟩
  · obtain ⟨-, -, hholdOff, hoverload⟩ := rules_frame (s.sw.withMember m add) add
    rw [demand_sw h, advance_frame]
    exact ⟨hoverload, hholdOff⟩

theorem exec_holdOffEnd {s : State} (hgood : mainGood s = true) :
    exec .holdOffEnd s =
      .next (if s.sw.holdOff.due 10000 = true ∧ s.supmon.brownOut = false then
        settleSwitch { s.sw with holdOff := .expired 10000 } (s.take .holdOffEnd) else s.take .holdOffEnd) := by
  change execHoldOffEnd s = _
  rw [execHoldOffEnd, inMain_good hgood]
  rfl

theorem exec_overloadSignal {s : State} (hgood : mainGood s = true) :
    exec .overloadSignal s =
      .next (demand .overload true { s.take .overloadSignal with sw := { s.sw with overload := .started } }) := by
  change execOverloadSignal s = _
  rw [execOverloadSignal, inMain_good hgood]
  rfl

theorem exec_overloadRestoreExpiry {s : State} (hgood : mainGood s = true) :
    exec .overloadRestoreExpiry s =
      .next (if overloadDue s = true then
        demand .overload false
          { s.take .overloadRestoreExpiry with sw := { s.sw with overload := { s.sw.overload with running := false } } }
        else s.take .overloadRestoreExpiry) := by
  change execOverloadRestoreExpiry s = _
  rw [execOverloadRestoreExpiry, inMain_good hgood]
  rfl

theorem overloadDue_iff (s : State) :
    overloadDue s = true ↔
      s.sw.overload.running = true ∧ s.sw.overload.ms % 1000 = 0 ∧
        s.active.policy.restoreDelay ≤ s.sw.overload.ms / 1000 := by
  unfold overloadDue
  rw [Bool.and_eq_true, Bool.and_eq_true, decide_eq_true_eq, decide_eq_true_eq, and_assoc]
  rfl

theorem exec_bypassTimerExpiry {s : State} (hgood : mainGood s = true) :
    exec .bypassTimerExpiry s =
      .next (if s.sw.bypass.due 2000 = true ∧ s.sw.bypassRaised = false then
        State.hand [.tamperEvent .bypass]
          { s.take .bypassTimerExpiry with sw := { s.sw with bypass := .expired 2000, bypassRaised := true } }
        else s.take .bypassTimerExpiry) := by
  change execBypassTimerExpiry s = _
  rw [execBypassTimerExpiry, inMain_good hgood]
  rfl

/-! ## Energy while open, and the sense input (R109, R110) -/

theorem exec_energyWhileOpenDetect {s : State} (hgood : mainGood s = true) :
    exec .energyWhileOpenDetect s = .next (detectEnergy (s.take .energyWhileOpenDetect)) := by
  change execEnergyWhileOpenDetect s = _
  rw [execEnergyWhileOpenDetect, inMain_good hgood]

theorem restsOpen_iff (w : Switch) : restsOpen w = true ↔ w.state = .opened ∨ w.state = .armed := by
  unfold restsOpen
  rw [Bool.or_eq_true, beq_iff_eq, beq_iff_eq]

/-- SWITCH behind an energy-while-open fault (R109; log entry 33). -/
def caughtOpen (lsense : Bool) (w : Switch) : Switch :=
  { w with
    state := if lsense then .closed else w.state,
    bypass := { w.bypass with running := w.bypass.running && !lsense } }

theorem caughtOpen_false (w : Switch) : caughtOpen false w = w := by
  simp [caughtOpen]

theorem caughtOpen_true (w : Switch) :
    caughtOpen true w = { w with state := .closed, bypass := { w.bypass with running := false } } := by
  simp [caughtOpen]

theorem detectEnergy_of_found {s : State} (hopen : s.sw.state = .opened ∨ s.sw.state = .armed)
    (hfault : s.sw.fault = false) (hstreak : 3 ≤ s.sw.streak) :
    (detectEnergy s).sw =
        caughtOpen s.pins.lsense (relayFault 0 { s with sw := { s.sw with streak := 0 } }).sw ∧
      (detectEnergy s).log = (relayFault 0 { s with sw := { s.sw with streak := 0 } }).log ∧
      (∀ k, SameAt k (relayFault 0 { s with sw := { s.sw with streak := 0 } }) (detectEnergy s)) ∧
      detectEnergy s =
        { s with sw := (detectEnergy s).sw, log := (detectEnergy s).log, alert := (detectEnergy s).alert } := by
  have hfound : energyFound s = true := by
    simp [energyFound, (restsOpen_iff s.sw).mpr hopen, hfault, energyOpenRun, hstreak]
  have hrest : (caughtOpen s.pins.lsense (relayFault 0 { s with sw := { s.sw with streak := 0 } }).sw).state ≠ .opening ∧
      (caughtOpen s.pins.lsense (relayFault 0 { s with sw := { s.sw with streak := 0 } }).sw).state ≠ .closing := by
    unfold caughtOpen
    rw [relayFault_sw]
    rcases hopen with h | h <;> cases s.pins.lsense <;> simp [h]
  have heq : detectEnergy s =
      settleSwitch (caughtOpen s.pins.lsense (relayFault 0 { s with sw := { s.sw with streak := 0 } }).sw)
        (relayFault 0 { s with sw := { s.sw with streak := 0 } }) := by
    unfold detectEnergy
    rw [if_pos hfound]
    dsimp only
    rw [relayFault_pins]
    cases s.pins.lsense with
    | false => rw [caughtOpen_false]; rfl
    | true => rw [caughtOpen_true]; rfl
  rw [heq]
  exact ⟨settleSwitch_of_resting hrest, rfl, fun k => (latchedSame_settleSwitch _ _).at k, State.eq_of⟩

theorem exec_lsenseChange {present : Bool} {s : State} (hgood : mainGood s = true) :
    exec (.lsenseChange present) s =
      .next { s with pins := { s.pins with lsense := present }, sw := s.sw.sense present } := by
  change execLsenseChange present s = _
  simp [execLsenseChange, pinChange, hgood]

/-- Settles O32, timer by timer, from the relay fault and from the rules of the demand set. -/
theorem timersAndWatches : Obligations.TimersAndWatches := by
  refine ⟨⟨fun s hgood hnot => ?early, fun s hgood hnot => ?tooSoon, fun s hgood hnot => ?notBypass, fun s hidle => ?idle,
    fun s hgood hrun hms hbrown => ?holdOff, fun s hgood => ?signal, fun s hgood hrun hsecond hdelay => ?restore⟩,
    fun s hgood hopen hfault hstreak => ?energy, fun s hgood => ⟨?absent, ?present⟩, fun s hgood hrun hms hraised => ?bypass⟩
  case early =>
    rw [exec_holdOffEnd hgood, if_neg]
    rintro ⟨hdue, hbrown⟩
    rcases hnot with h | h | h
    · simp [Timer.due_eq_false (limit := 10000) (.inl h)] at hdue
    · simp [Timer.due_eq_false (limit := 10000) (.inr h)] at hdue
    · simp [h] at hbrown
  case tooSoon =>
    rw [exec_overloadRestoreExpiry hgood, if_neg]
    rw [overloadDue_iff]
    rintro ⟨hrun, hsecond, hdelay⟩
    rcases hnot with h | h | h
    · simp [h] at hrun
    · exact h hsecond
    · omega
  case notBypass =>
    rw [exec_bypassTimerExpiry hgood, if_neg]
    rintro ⟨hdue, hraised⟩
    rcases hnot with h | h | h
    · simp [Timer.due_eq_false (limit := 2000) (.inl h)] at hdue
    · simp [Timer.due_eq_false (limit := 2000) (.inr h)] at hdue
    · simp [h] at hraised
  case idle =>
    have hholdOff := hidle.nothing_due.2.2 (s.sw.holdOff.due holdOffMs && !s.supmon.brownOut, .holdOffEnd)
      (by simp [dueTimers])
    have hoverload := hidle.nothing_due.2.2 (overloadDue s, .overloadRestoreExpiry) (by simp [dueTimers])
    refine ⟨_, step_idle hidle, hidle.counts (i := .bypassTimerExpiry) (by simp [dueTimers, bypassMs]), fun hbrown => ?_,
      fun hbrown => if_pos hbrown, fun hrun hms => ⟨fun hsecond => ?_, ?_⟩⟩
    · have hcounts : Counts holdOffMs s.sw.holdOff (s.sw.holdOff.tick holdOffMs) :=
        counts_tick (by simpa [hbrown] using hholdOff)
      change Counts 10000 s.sw.holdOff (if s.supmon.brownOut then s.sw.holdOff else s.sw.holdOff.tick 10000)
      rw [hbrown]
      exact hcounts
    · by_contra hdelay
      rw [(overloadDue_iff s).mpr ⟨hrun, hsecond, not_lt.mp hdelay⟩] at hoverload
      cases hoverload
    · change s.sw.overload.tick 3600000 = _
      simp only [Timer.tick, hrun, if_true]
      congr
      omega
  case holdOff =>
    rw [exec_holdOffEnd hgood, if_pos ⟨Timer.due_eq_true hrun hms, hbrown⟩]
    obtain ⟨hset, -, -, -, -, -, -, hstate⟩ :=
      settleSwitch_keeps { s.sw with holdOff := .expired 10000 } (s.take .holdOffEnd)
    refine ⟨_, rfl, ?_, hstate, hset, rfl, fun hclosing hphase hcrdy hcinhn hnone => ?_⟩
    · rw [settleSwitch_sw, advance_frame]
      rfl
    · have hyes : permits { s.take .holdOffEnd with sw := { s.sw with holdOff := .expired 10000 } } .closeCoil = true :=
        (permits_iff (s := s.take .holdOffEnd) hgood _ _).mpr ⟨hcrdy, hcinhn, hbrown, fun _ => rfl⟩
      rw [settleSwitch_of_met (coil_of_closing (w := { s.sw with holdOff := .expired 10000 }) hclosing) (.inl hphase) hyes
        (.inl hnone)]
  case signal =>
    rw [exec_overloadSignal hgood]
    refine ⟨_, rfl, (demand_keeps _ _ _).1, demand_set _ _ _, demand_frame _ _ _, fun hin => ?_, fun hout hclosed => ?_⟩
    · rw [demand_of_same (by exact hin)]
      exact ⟨rfl, rfl⟩
    · obtain ⟨hopens, -⟩ := joined_sw .overload
        (s := { s.take .overloadSignal with sw := { s.sw with overload := .started } }) hgood (by simp [DemandSet.has, hout])
      exact ⟨(hopens (.inl hclosed)).1, (hopens (.inl hclosed)).2.1⟩
  case restore =>
    rw [exec_overloadRestoreExpiry hgood, if_pos ((overloadDue_iff s).mpr ⟨hrun, hsecond, hdelay⟩)]
    exact ⟨_, rfl, (demand_keeps _ _ _).1, demand_set _ _ _, demand_frame _ _ _⟩
  case energy =>
    obtain ⟨hsw, hlog, hsame, hframe⟩ := detectEnergy_of_found (s := s.take .energyWhileOpenDetect) hopen hfault hstreak
    obtain ⟨hwaiting, hsignalled, hstays, hmoves⟩ :=
      relayFault_records 0 { s.take .energyWhileOpenDetect with sw := { s.sw with streak := 0 } }
    have hrelay := relayFault_sw 0 { s.take .energyWhileOpenDetect with sw := { s.sw with streak := 0 } }
    have hboth := hsignalled.of_sameAt (.of_alert (a := s) rfl) (hsame _)
    dsimp only
    refine ⟨_, exec_energyWhileOpenDetect hgood, ?flag, ?streak, ?position, ?set, ?state, ?raised, ?timer, hboth.1, hboth.2,
      ?waiting, fun hposition => ?stays, fun hposition => ?moves, hframe⟩
    case waiting => rw [hsw]; exact hwaiting
    case stays => rw [hlog]; exact hstays hposition
    case moves =>
      obtain ⟨hoffered, hsupply⟩ := hmoves hposition
      rw [hlog]
      exact ⟨hoffered, hsupply.of_sameAt (.of_alert (a := s) rfl) (hsame _)⟩
    all_goals rw [hsw, caughtOpen, State.take_sw, hrelay]
    case position | state | timer => rfl
  case absent =>
    rw [exec_lsenseChange hgood]
    rfl
  case present =>
    rw [exec_lsenseChange hgood]
    have hsense : (restsOpen s.sw && !s.sw.bypass.running && !s.sw.bypassRaised) = true ↔
        (s.sw.state = .opened ∨ s.sw.state = .armed) ∧ s.sw.bypass.running = false ∧ s.sw.bypassRaised = false := by
      rw [Bool.and_eq_true, Bool.and_eq_true, restsOpen_iff, and_assoc, Bool.not_eq_true', Bool.not_eq_true']
    simp only [Switch.sense, if_true, hsense]
    split <;> rfl
  case bypass =>
    rw [exec_bypassTimerExpiry hgood, if_pos ⟨Timer.due_eq_true hrun hms, hraised⟩]
    rfl

end Sys2Proof.Machine

/-! PROOF. Tamper events, cover and magnetic watches, and clearances (06). -/

namespace Sys2Proof.Machine

/-! ## A tamper event (R116, R125 to R129) -/

theorem numberEvent_eq (mask : BitVec 7) (k : TamperKind) (m : Tamper) :
    numberEvent mask k m =
      { m with
        ts := min (m.ts + 1) max32
        tsLock := if mask.getLsbD (tamperKindCode k - 1) then min (m.ts + 1) max32 else m.tsLock
        tsClear :=
          if mask.getLsbD (tamperKindCode k - 1) = true ∧ m.ts = max32 ∧ m.tsClear = max32 then max32 - 1
          else m.tsClear } := by
  unfold numberEvent maskHolds
  cases mask.getLsbD (tamperKindCode k - 1) <;> simp

/-- The record of a tamper event, with its number (R128). -/
def eventRecord (k : TamperKind) (time : Nat) (valid : Bool) (s : State) : Record :=
  { time := time, valid := valid, kind := .tamper, tamper := some ⟨min (s.tamper.ts + 1) max32, some k⟩,
    energy := some s.totals.imported }

/-- TAMPER's waiting records and LOG with that record staged (R128). -/
def eventStaged (k : TamperKind) (time : Nat) (valid : Bool) (s : State) : List Record × EvidenceLog :=
  s.log.stageFrom s.tamper.hold 8 (eventRecord k time valid s)

/-- TAMPER after an event (R126 to R128). -/
def eventTamper (k : TamperKind) (time : Nat) (valid : Bool) (s : State) : Tamper :=
  { numberEvent s.active.policy.lockout k s.tamper with hold := (eventStaged k time valid s).1 }

/-- The demand of an event that locks (R129). -/
def eventDemand (k : TamperKind) (s : State) : State :=
  if (numberEvent s.active.policy.lockout k s.tamper).tsClear < (numberEvent s.active.policy.lockout k s.tamper).tsLock then
    demand .tamper true { s with tamper := numberEvent s.active.policy.lockout k s.tamper }
  else { s with tamper := numberEvent s.active.policy.lockout k s.tamper }

theorem tamperEvent_eq (k : TamperKind) (time : Nat) (valid : Bool) (s : State) :
    tamperEvent k time valid s =
      requestCheckpoint (occurrence .tamper true true
        { eventDemand k s with tamper := eventTamper k time valid s, log := (eventStaged k time valid s).2 }) := by
  have hrecord : tamperRecord k time valid { s with tamper := numberEvent s.active.policy.lockout k s.tamper } =
      eventRecord k time valid s := by
    rw [tamperRecord, numberEvent_eq]
    rfl
  have hkeeps : (eventDemand k s).log = s.log ∧
      (eventDemand k s).tamper = numberEvent s.active.policy.lockout k s.tamper := by
    unfold eventDemand
    split <;> simp
  obtain ⟨hlog, htamper⟩ := hkeeps
  have hhold : (eventDemand k s).tamper.hold = s.tamper.hold := by rw [htamper, numberEvent_eq]
  unfold tamperEvent
  dsimp only
  rw [hrecord]
  change requestCheckpoint (occurrence .tamper true true (stageTamper _ (eventDemand k s))) = _
  unfold stageTamper
  rw [hlog, hhold, htamper]
  rfl

theorem eventDemand_sw (k : TamperKind) (s : State) :
    ((numberEvent s.active.policy.lockout k s.tamper).tsClear < (numberEvent s.active.policy.lockout k s.tamper).tsLock →
        (eventDemand k s).sw.set = { s.sw.set with tamper := true }) ∧
      ((numberEvent s.active.policy.lockout k s.tamper).tsLock ≤ (numberEvent s.active.policy.lockout k s.tamper).tsClear →
        (eventDemand k s).sw = s.sw) := by
  unfold eventDemand
  refine ⟨fun h => ?_, fun h => ?_⟩
  · rw [if_pos h, demand_set]
    rfl
  · rw [if_neg (not_lt.mpr h)]

theorem latchedSame_eventDemand (k : TamperKind) (s : State) : LatchedSame s (eventDemand k s) := by
  unfold eventDemand
  split
  · exact LatchedSame.trans (.of_alert rfl) (latchedSame_demand _ _ _)
  · exact .of_alert rfl

/-- What a tamper event does beside its numbers and its record (R128, R129). -/
theorem tamperEvent_effects (k : TamperKind) (time : Nat) (valid : Bool) (s : State) :
    (tamperEvent k time valid s).tamper = eventTamper k time valid s ∧
      (tamperEvent k time valid s).log = (eventStaged k time valid s).2 ∧
      (tamperEvent k time valid s).sw = (eventDemand k s).sw ∧
      SignalledOnBoth .tamper s (tamperEvent k time valid s) ∧
      tamperEvent k time valid s =
        { s with
          tamper := (tamperEvent k time valid s).tamper, sw := (tamperEvent k time valid s).sw,
          log := (tamperEvent k time valid s).log, alert := (tamperEvent k time valid s).alert,
          supmon := { s.supmon with request := true } } := by
  have hframe : eventDemand k s =
      { s with
        tamper := numberEvent s.active.policy.lockout k s.tamper, sw := (eventDemand k s).sw,
        alert := (eventDemand k s).alert } := by
    unfold eventDemand
    split
    · exact State.eq_of
    · rfl
  rw [tamperEvent_eq]
  refine ⟨rfl, rfl, rfl, ?_, ?_⟩
  · exact signalledOnBoth_occurrence
      (b := { eventDemand k s with tamper := eventTamper k time valid s, log := (eventStaged k time valid s).2 })
      ((latchedSame_eventDemand k s).at _) (.of_alert rfl)
  · rw [hframe]
    rfl

theorem exec_tamperEvent {k : TamperKind} {s : State} (hgood : mainGood s = true) :
    exec (.tamperEvent k) s = .next (tamperEvent k s.cal.t s.cal.valid (s.take (.tamperEvent k))) := by
  change execTamperEvent k s = _
  rw [execTamperEvent, inMain_good hgood]
  rfl

/-- A locking event locks, at saturation too (R127; log entry 17). -/
theorem locks_of_mask {mask : BitVec 7} {k : TamperKind} {m : Tamper} (hmask : mask.getLsbD (tamperKindCode k - 1) = true)
    (hclear : m.tsClear ≤ m.ts) (hmax : m.ts ≤ max32) :
    (numberEvent mask k m).tsClear < (numberEvent mask k m).tsLock := by
  rw [numberEvent_eq]
  simp only [hmask, true_and, if_true]
  have hpos : 0 < max32 := by decide
  split <;> omega

/-- Settles O33, from the number, the record and the demand of an event. -/
theorem tamperEventNumbered : Obligations.TamperEventNumbered := by
  intro k s hgood
  dsimp only
  obtain ⟨htamper, hlog, hsw, hsignalled, hframe⟩ :=
    tamperEvent_effects k s.cal.t s.cal.valid (s.take (.tamperEvent k))
  obtain ⟨hlocked, hfree⟩ := eventDemand_sw k (s.take (.tamperEvent k))
  refine ⟨_, exec_tamperEvent hgood, ?ts, ?tsLock, ?tsClear, ?hold, hlog, fun h => ?locked, fun h => ?free,
    fun hmask hclear hmax => ?mask, hsignalled.1, hsignalled.2, ?frame⟩
  case frame =>
    refine hframe.trans ?_
    rw [htamper, eventTamper, numberEvent_eq]
    rfl
  case locked =>
    rw [htamper] at h
    rw [hsw]
    exact hlocked h
  case free =>
    rw [htamper] at h
    rw [hsw]
    exact hfree h
  case mask =>
    rw [hsw, hlocked (locks_of_mask hmask hclear hmax)]
  all_goals rw [htamper, eventTamper, numberEvent_eq]
  all_goals rfl

/-! ## Covers (R117 to R119) -/

theorem PerCover.get_set_self {α : Type} (v : PerCover α) (i : CoverInput) (x : α) : (v.set i x).get i = x := by
  cases i <;> rfl

theorem exec_coverInputChange {i : CoverInput} {reading : CoverPos} {s : State} (hgood : mainGood s = true) :
    exec (.coverInputChange i reading) s =
      .next { s with
        pins := { s.pins with covers := s.pins.covers.set i reading }, tamper := watchCover i reading s.tamper } := by
  change execCoverInputChange i reading s = _
  unfold execCoverInputChange
  have hgood' : mainGood { s with pins := { s.pins with covers := s.pins.covers.set i reading } } = true := hgood
  simp only [hgood, if_true]

theorem exec_debounceExpiry {i : CoverInput} {s : State} (hgood : mainGood s = true) :
    exec (.debounceExpiry i) s =
      .next (if (s.tamper.debounce.get i).due 20 = true then endDebounce i (s.take (.debounceExpiry i))
        else s.take (.debounceExpiry i)) := by
  change execDebounceExpiry i s = _
  rw [execDebounceExpiry, inMain_good hgood]
  rfl

/-- The debounced position follows the input, and its timer is idle (R117). -/
def followed (i : CoverInput) (s : State) : State :=
  { s with
    tamper :=
      { s.tamper with
        debounced := s.tamper.debounced.set i (s.pins.covers.get i), debounce := s.tamper.debounce.set i .stopped } }

theorem endDebounce_of_quiet {i : CoverInput} {s : State}
    (h : s.pins.covers.get i = .closed ∨ s.tamper.debounced.get i = .opened) : endDebounce i s = followed i s := by
  refine if_neg ?_
  rintro ⟨hclosed, hopened⟩
  rcases h with h | h
  · simp [h] at hopened
  · simp [h] at hclosed

theorem endDebounce_of_opening {i : CoverInput} {s : State} (hopened : s.pins.covers.get i = .opened)
    (hclosed : s.tamper.debounced.get i = .closed) :
    endDebounce i s = formLatch i ((s.tamper.latch.get i).getD ⟨s.cal.t, s.cal.valid⟩) (followed i s) :=
  if_pos ⟨hclosed, hopened⟩

/-- The latch of a cover is cleared (R118). -/
def unlatched (i : CoverInput) (s : State) : State :=
  { s with tamper := { s.tamper with latch := s.tamper.latch.set i none } }

theorem formLatch_effects (i : CoverInput) (l : LatchTime) (s : State) :
    (formLatch i l s).tamper = eventTamper (coverKind i) l.time l.valid (unlatched i s) ∧
      (formLatch i l s).log = (eventStaged (coverKind i) l.time l.valid (unlatched i s)).2 ∧
      (formLatch i l s).sw = (eventDemand (coverKind i) (unlatched i s)).sw ∧
      SignalledOnBoth .tamper s (formLatch i l s) ∧
      formLatch i l s =
        { unlatched i s with
          tamper := (formLatch i l s).tamper, sw := (formLatch i l s).sw, log := (formLatch i l s).log,
          alert := (formLatch i l s).alert, supmon := { s.supmon with request := true } } := by
  obtain ⟨htamper, hlog, hsw, hsignalled, hframe⟩ := tamperEvent_effects (coverKind i) l.time l.valid (unlatched i s)
  exact ⟨htamper, hlog, hsw, hsignalled.of_sameAt (.of_alert rfl) (.of_alert rfl), hframe⟩

/-- Where nothing waits and there is room, evidence takes the next number and a place in the queue (R140). -/
theorem stageFrom_of_room {l : EvidenceLog} {cap n : Nat} (r : Record) (hnext : l.next = some n)
    (hroom : l.staging.length < 8) : l.stageFrom [] cap r = ([], l.accept n r) := by
  have hfree : l.room = true := decide_eq_true hroom
  unfold EvidenceLog.stageFrom EvidenceLog.offerEvidence
  simp only [hnext, hfree]
  rfl

/-- An opening whose debounce has ended is one event, formed from its latch (R117, R118). -/
theorem endDebounce_event {i : CoverInput} {s : State} (hopened : s.pins.covers.get i = .opened)
    (hclosed : s.tamper.debounced.get i = .closed) :
    (endDebounce i s).tamper.debounced.get i = .opened ∧ (endDebounce i s).tamper.debounce.get i = .stopped ∧
      (endDebounce i s).tamper.ts = min (s.tamper.ts + 1) max32 ∧ (endDebounce i s).tamper.latch.get i = none ∧
      SignalledOnBoth .tamper s (endDebounce i s) ∧ (endDebounce i s).supmon = { s.supmon with request := true } ∧
      (s.tamper.latch.get i = none → s.tamper.hold = [] → ∀ n, s.log.next = some n → s.log.staging.length < 8 →
        (endDebounce i s).log.staging =
          s.log.staging ++ [⟨n, eventRecord (coverKind i) s.cal.t s.cal.valid s⟩]) := by
  obtain ⟨htamper, hlog, -, hsignalled, hframe⟩ :=
    formLatch_effects i ((s.tamper.latch.get i).getD ⟨s.cal.t, s.cal.valid⟩) (followed i s)
  have hsupmon := congrArg State.supmon hframe
  rw [endDebounce_of_opening hopened hclosed]
  refine ⟨?debounced, ?debounce, ?ts, ?latch, hsignalled.of_sameAt (.of_alert rfl) (.of_alert rfl), hsupmon,
    fun hempty hhold n hnext hroom => ?staged⟩
  case staged =>
    have hnow : (s.tamper.latch.get i).getD ⟨s.cal.t, s.cal.valid⟩ = ⟨s.cal.t, s.cal.valid⟩ := by rw [hempty]; rfl
    have hhold' : (unlatched i (followed i s)).tamper.hold = [] := hhold
    rw [hlog, hnow, eventStaged, hhold',
      stageFrom_of_room (l := (unlatched i (followed i s)).log) _ hnext hroom]
    rfl
  all_goals rw [htamper, eventTamper, numberEvent_eq]
  case debounced => rw [← hopened]; exact PerCover.get_set_self _ _ _
  case debounce | latch => exact PerCover.get_set_self _ _ _
  case ts => rfl

/-- Settles O34, by the reading of a cover, and sample by sample while the main domain is stopped. -/
theorem coversWatched : Obligations.CoversWatched := by
  refine ⟨fun i reading s hgood => ⟨?change, fun hnot => ?early, fun hidle => ?idle, fun hrun hms hreading => ?ends⟩,
    fun s hnot => ?noSample, fun s hstopped hrun hms => ?sample⟩
  case change =>
    refine ⟨_, exec_coverInputChange hgood, rfl, rfl, fun hsame => ?_, fun hdiffers hidle => ?_, fun hdiffers hrun => ?_⟩
    · change (s.tamper.debounce.set i _).get i = _
      rw [PerCover.get_set_self, if_pos hsame]
    · change (s.tamper.debounce.set i _).get i = _
      rw [PerCover.get_set_self, if_neg hdiffers, hidle]
      rfl
    · change s.tamper.debounce.set i _ = _
      rw [if_neg hdiffers, if_pos hrun]
      cases i <;> rfl
  case early => rw [exec_debounceExpiry hgood, if_neg (by simp [Timer.due_eq_false hnot])]
  case idle =>
    refine ⟨_, step_idle hidle, ?_⟩
    cases i with
    | cover =>
      exact hidle.counts (t := s.tamper.debounce.cover) (i := .debounceExpiry .cover) (by simp [dueTimers, debounceMs])
    | terminal =>
      exact hidle.counts (t := s.tamper.debounce.terminal) (i := .debounceExpiry .terminal)
        (by simp [dueTimers, debounceMs])
  case ends =>
    rw [exec_debounceExpiry hgood, if_pos (Timer.due_eq_true hrun hms)]
    by_cases hopening : reading = .opened ∧ s.tamper.debounced.get i = .closed
    case neg =>
      have hquiet : s.pins.covers.get i = .closed ∨ s.tamper.debounced.get i = .opened := by
        rw [hreading]
        cases reading <;> cases hpos : s.tamper.debounced.get i <;> simp_all
      rw [endDebounce_of_quiet (s := s.take (.debounceExpiry i)) hquiet]
      refine ⟨_, rfl, ?_, ?_, fun _ => ⟨rfl, rfl, rfl⟩, fun h h' => absurd ⟨h, h'⟩ hopening⟩
      · rw [← hreading]
        exact PerCover.get_set_self _ _ _
      · exact PerCover.get_set_self _ _ _
    case pos =>
      obtain ⟨rfl, hclosed⟩ := hopening
      obtain ⟨hdebounced, hdebounce, hts, hlatch, hsignalled, hsupmon, hstaged⟩ :=
        endDebounce_event (s := s.take (.debounceExpiry i)) hreading hclosed
      refine ⟨_, rfl, hdebounced, hdebounce, ?quiet, fun _ _ => ⟨hts, hlatch, hsignalled.1, hsupmon,
        fun hempty hhold n hnext hroom => ?staged⟩⟩
      case quiet =>
        rintro (h | h)
        · cases h
        · rw [hclosed] at h
          cases h
      case staged =>
        rw [hstaged hempty hhold n hnext hroom, hts]
        cases i <;> rfl
  case noSample =>
    change execBackupCoverSample s = _
    unfold execBackupCoverSample
    rw [if_pos]
    rcases hnot with h | h
    · simp [h]
    · have hdue : s.tamper.sampling.due samplingMs = false := Timer.due_eq_false h
      simp [hdue]
  case sample =>
    have hgood : mainGood s = false := by simpa [mainGood] using hstopped
    have hdue : s.tamper.sampling.due samplingMs = true := Timer.due_eq_true hrun hms
    have hexec : exec .backupCoverSample s =
        .next { s with tamper :=
          { sampleCover .terminal s.pins.covers.terminal ⟨s.cal.t, s.cal.valid⟩
              (sampleCover .cover s.pins.covers.cover ⟨s.cal.t, s.cal.valid⟩ s.tamper) with sampling := .started } } := by
      change execBackupCoverSample s = _
      unfold execBackupCoverSample
      rw [if_neg (by simp [hgood, hdue])]
    refine ⟨_, hexec, rfl, fun i => ?_, rfl⟩
    cases i <;> rfl

/-! ## The magnetic watch (R122 to R124) -/

theorem exec_magsChange {high : Bool} {s : State} (hgood : mainGood s = true) :
    exec (.magsChange high) s = .next (watchMagnetic { s with pins := { s.pins with mags := high } }) := by
  change execMagsChange high s = _
  have hgood' : mainGood { s with pins := { s.pins with mags := high } } = true := hgood
  unfold execMagsChange
  simp only [hgood, if_true]

/-- The condition is active, and both timers are stopped (R123). -/
def magneticRaised (s : State) : State :=
  { s with tamper := { s.tamper with magnetic := true, presence := .stopped, release := .stopped } }

theorem exec_magneticPresenceExpiry {s : State} (hgood : mainGood s = true) :
    exec .magneticPresenceExpiry s =
      .next (if s.tamper.presence.due 2000 = true then
        magneticRaised (tamperEvent .magnetic s.cal.t s.cal.valid (s.take .magneticPresenceExpiry))
        else s.take .magneticPresenceExpiry) := by
  change execMagneticPresenceExpiry s = _
  rw [execMagneticPresenceExpiry, inMain_good hgood]
  rfl

theorem exec_magneticReleaseExpiry {s : State} (hgood : mainGood s = true) :
    exec .magneticReleaseExpiry s =
      .next (if s.tamper.release.due 10000 = true then
        watchMagnetic
          { s.take .magneticReleaseExpiry with tamper := { s.tamper with magnetic := false, release := .stopped } }
        else s.take .magneticReleaseExpiry) := by
  change execMagneticReleaseExpiry s = _
  rw [execMagneticReleaseExpiry, inMain_good hgood]
  rfl

theorem magneticTimers_of_inactive {m : Tamper} (source : Bool) (h : m.magnetic = false) :
    magneticTimers source m =
      { m with presence := if source then (if m.presence.running then m.presence else .started) else .stopped } := by
  unfold magneticTimers
  rw [h]
  rfl

theorem magneticTimers_of_active {m : Tamper} (source : Bool) (h : m.magnetic = true) :
    magneticTimers source m =
      { m with release := if source then .stopped else if m.release.running then m.release else .started } := by
  unfold magneticTimers
  rw [h]
  rfl

theorem watchMagnetic_of_inactive {s : State} (h : s.tamper.magnetic = false) :
    (watchMagnetic s).tamper =
      { s.tamper with
        presence :=
          if sourcePresent s then (if s.tamper.presence.running then s.tamper.presence else .started) else .stopped } :=
  magneticTimers_of_inactive _ h

theorem watchMagnetic_of_active {s : State} (h : s.tamper.magnetic = true) :
    (watchMagnetic s).tamper =
      { s.tamper with
        release :=
          if sourcePresent s then .stopped else if s.tamper.release.running then s.tamper.release else .started } :=
  magneticTimers_of_active _ h

theorem sourcePresent_iff (s : State) : sourcePresent s = true ↔ s.pins.mags = true ∨ s.tamper.feFlag = true := by
  unfold sourcePresent
  rw [Bool.or_eq_true]

/-- Settles O35, by whether the condition is active and whether a source is present. -/
theorem magneticWatched : Obligations.MagneticWatched := by
  refine ⟨fun high s hgood => ?mags, fun s hgood => ⟨fun hnot => ?noPresence, fun hnot => ?noRelease⟩, fun s hidle => ?idle,
    fun s hgood hrun hms => ?presence, fun s hgood hrun hms => ?release⟩
  case mags =>
    refine ⟨_, exec_magsChange hgood, ?frame, fun hinactive hlow hflag => ?_, fun hinactive hsource => ?_,
      fun hactive hsource => ?_, fun hactive hlow hflag => ?_⟩
    case frame => exact State.eq_of (tamper := magneticTimers_frame _ _)
    · have hnone : ¬sourcePresent { s with pins := { s.pins with mags := high } } = true := by simp [sourcePresent, hlow, hflag]
      rw [watchMagnetic_of_inactive (s := { s with pins := { s.pins with mags := high } }) hinactive, if_neg hnone]
    · have hsome := (sourcePresent_iff { s with pins := { s.pins with mags := high } }).mpr hsource
      rw [watchMagnetic_of_inactive (s := { s with pins := { s.pins with mags := high } }) hinactive, if_pos hsome]
    · have hsome := (sourcePresent_iff { s with pins := { s.pins with mags := high } }).mpr hsource
      rw [watchMagnetic_of_active (s := { s with pins := { s.pins with mags := high } }) hactive, if_pos hsome]
    · have hnone : ¬sourcePresent { s with pins := { s.pins with mags := high } } = true := by simp [sourcePresent, hlow, hflag]
      rw [watchMagnetic_of_active (s := { s with pins := { s.pins with mags := high } }) hactive, if_neg hnone]
  case noPresence => rw [exec_magneticPresenceExpiry hgood, if_neg (by simp [Timer.due_eq_false hnot])]
  case noRelease => rw [exec_magneticReleaseExpiry hgood, if_neg (by simp [Timer.due_eq_false hnot])]
  case idle =>
    exact ⟨_, step_idle hidle, hidle.counts (i := .magneticPresenceExpiry) (by simp [dueTimers, presenceMs]),
      hidle.counts (i := .magneticReleaseExpiry) (by simp [dueTimers, releaseMs])⟩
  case presence =>
    obtain ⟨htamper, hlog, hsw, hsignalled, hframe⟩ :=
      tamperEvent_effects .magnetic s.cal.t s.cal.valid (s.take .magneticPresenceExpiry)
    obtain ⟨hlocked, hfree⟩ := eventDemand_sw .magnetic (s.take .magneticPresenceExpiry)
    have hraised : (magneticRaised (tamperEvent .magnetic s.cal.t s.cal.valid (s.take .magneticPresenceExpiry))).tamper =
        { eventTamper .magnetic s.cal.t s.cal.valid (s.take .magneticPresenceExpiry) with
          magnetic := true, presence := .stopped, release := .stopped } := by
      rw [magneticRaised, htamper]
    dsimp only
    rw [exec_magneticPresenceExpiry hgood, if_pos (Timer.due_eq_true hrun hms)]
    refine ⟨_, rfl, ?tsLock, ?tsClear, ?hold, hlog, ?tamper, fun h => ?locked, fun h => ?free, hsignalled.1,
      hsignalled.2, ?frame⟩
    case locked =>
      rw [hraised] at h
      exact (congrArg Switch.set hsw).trans (hlocked h)
    case free =>
      rw [hraised] at h
      exact hsw.trans (hfree h)
    case frame =>
      rw [magneticRaised, hframe]
      rfl
    all_goals rw [hraised, eventTamper, numberEvent_eq]
    all_goals rfl
  case release =>
    rw [exec_magneticReleaseExpiry hgood, if_pos (Timer.due_eq_true hrun hms)]
    refine congrArg Host.Outcome.next (State.eq_of (tamper := ?_))
    rw [watchMagnetic_of_inactive rfl]
    simp only [sourcePresent_iff]
    rfl

/-! ## Clearances (R130, R131, R133) -/

theorem clearanceBarred_iff (s : State) :
    clearanceBarred s = true ↔
      (s.active.policy.lockout.getLsbD 0 = true ∧ s.tamper.debounced.cover = .opened) ∨
        (s.active.policy.lockout.getLsbD 1 = true ∧ s.tamper.debounced.terminal = .opened) ∨
        (s.active.policy.lockout.getLsbD 2 = true ∧ s.tamper.magnetic = true) := by
  unfold clearanceBarred maskHolds
  rw [Bool.or_eq_true, Bool.or_eq_true, Bool.and_eq_true, Bool.and_eq_true, Bool.and_eq_true, beq_iff_eq, beq_iff_eq,
    or_assoc]
  rfl

section Judge

variable {c : Nat} {s : State}

theorem judgeClearance_of_above (h : s.tamper.ts < c) : judgeClearance c s = .invalidField := if_pos h

theorem judgeClearance_of_stale (hts : c ≤ s.tamper.ts) (h : c < s.tamper.tsLock) : judgeClearance c s = .staleClearance :=
  (if_neg (not_lt.mpr hts)).trans (if_pos h)

theorem judgeClearance_of_barred (hts : c ≤ s.tamper.ts) (hlock : s.tamper.tsLock ≤ c) (h : clearanceBarred s = true) :
    judgeClearance c s = .conditionPresent :=
  (if_neg (not_lt.mpr hts)).trans ((if_neg (not_lt.mpr hlock)).trans (if_pos h))

theorem judgeClearance_of_clear (hts : c ≤ s.tamper.ts) (hlock : s.tamper.tsLock ≤ c) (h : ¬clearanceBarred s = true) :
    judgeClearance c s = .accepted :=
  (if_neg (not_lt.mpr hts)).trans ((if_neg (not_lt.mpr hlock)).trans (if_neg h))

end Judge

/-- The record of an applied clearance (R131). -/
def clearanceRecord (c : Nat) (code : Option CodePart) (s : State) : Record :=
  { time := s.cal.t, valid := s.cal.valid, kind := .tamperCleared, tamper := some ⟨c, none⟩, code := code }

/-- What an applied clearance does (R131). -/
theorem applyClearance_effects (c : Nat) (code : Option CodePart) (s : State) :
    (applyClearance c code s).tamper =
        { s.tamper with
          tsClear := c, hold := (s.log.stageFrom s.tamper.hold 8 (clearanceRecord c code s)).1 } ∧
      (applyClearance c code s).log = (s.log.stageFrom s.tamper.hold 8 (clearanceRecord c code s)).2 ∧
      (applyClearance c code s).sw.set = { s.sw.set with tamper := false } ∧
      (applyClearance c code s).sw.waiting = s.sw.waiting ∧
      (s.sw.set.tamper = false → (applyClearance c code s).sw = s.sw) ∧
      applyClearance c code s =
        { s with
          tamper := (applyClearance c code s).tamper, log := (applyClearance c code s).log,
          sw := (applyClearance c code s).sw, alert := (applyClearance c code s).alert } := by
  have hlog : (demand .tamper false { s with tamper := { s.tamper with tsClear := c } }).log = s.log := by simp
  have htamper : (demand .tamper false { s with tamper := { s.tamper with tsClear := c } }).tamper =
      { s.tamper with tsClear := c } := by simp
  unfold applyClearance stageTamper
  rw [hlog, htamper]
  refine ⟨rfl, rfl, demand_set _ _ _, demand_waiting _ _ _, fun hfree => ?_, State.eq_of⟩
  change (demand .tamper false { s with tamper := { s.tamper with tsClear := c } }).sw = s.sw
  rw [demand_of_same (by exact hfree)]

theorem exec_remoteTamperClear {x : BitVec 32} {s : State} (h : Ready .network s) :
    exec (.remoteTamperClear .network x) s =
      .next (respond .network (remoteClear x.toNat (s.take (.remoteTamperClear .network x))).2
        (remoteClear x.toNat (s.take (.remoteTamperClear .network x))).1) := by
  unfold exec
  exact runCommand_ready h

theorem remoteClear_of_refused {c : Nat} {s : State} (h : judgeClearance c s ≠ .accepted) :
    remoteClear c s = (s, clearanceReply (judgeClearance c s) s) := by
  unfold remoteClear
  split
  · contradiction
  · rfl

theorem remoteClear_of_accepted {c : Nat} {s : State} (h : judgeClearance c s = .accepted) :
    remoteClear c s =
      (requestCheckpoint (applyClearance c none s), clearanceReply .accepted (requestCheckpoint (applyClearance c none s))) := by
  unfold remoteClear
  rw [h]

/-- The answer to a remote clearance, with the outcome's code in its first byte (R133; log entry 19). -/
theorem clearanceReply_eq (o : CodeOutcome) (s : State) :
    clearanceReply o s =
      ⟨clearanceStatus o,
        BitVec.ofNat 8 (outcomeCode o) :: (beNat 4 s.tamper.ts ++ beNat 4 s.tamper.tsLock) ++ beNat 4 s.tamper.tsClear⟩ := by
  rw [clearanceReply, beNat_one]
  simp

/-- Settles O36, by the three tests of a clearance in their order. -/
theorem remoteClearance : Obligations.RemoteClearance := by
  intro x s hready
  dsimp only
  rw [exec_remoteTamperClear hready]
  refine ⟨fun habove => ?above, fun hts hstale => ?stale, fun hts hlock hbarred => ?barred, fun hts hlock hclear => ?clear⟩
  case above =>
    have h := judgeClearance_of_above (s := s.take (.remoteTamperClear .network x)) habove
    rw [remoteClear_of_refused (by simp [h]), h, clearanceReply_eq]
    rfl
  case stale =>
    have h := judgeClearance_of_stale (s := s.take (.remoteTamperClear .network x)) hts hstale
    rw [remoteClear_of_refused (by simp [h]), h, clearanceReply_eq]
    rfl
  case barred =>
    have h := judgeClearance_of_barred (s := s.take (.remoteTamperClear .network x)) hts hlock
      ((clearanceBarred_iff _).mpr hbarred)
    rw [remoteClear_of_refused (by simp [h]), h, clearanceReply_eq]
    rfl
  case clear =>
    have h := judgeClearance_of_clear (s := s.take (.remoteTamperClear .network x)) hts hlock
      (mt (clearanceBarred_iff _).mp hclear)
    obtain ⟨htamper, hlog, hset, -, hfree, hframe⟩ :=
      applyClearance_effects x.toNat none (s.take (.remoteTamperClear .network x))
    rw [remoteClear_of_accepted h, clearanceReply_eq]
    refine ⟨requestCheckpoint (applyClearance x.toNat none (s.take (.remoteTamperClear .network x))), ?_, htamper, hlog,
      hset, hfree, ?_⟩
    · rw [requestCheckpoint_tamper, htamper]
      rfl
    · rw [hframe]
      rfl

/-- CODE's own record stands behind the record of the clearance (R79, R81). -/
theorem acceptedClearance_log (c : Nat) (code : CodePart) (s : State) :
    (applyClearance c (some code) s).log.offerRoutine (evidenceWaiting (applyClearance c (some code) s))
        { recordNow .codeAccepted (applyClearance c (some code) s) with code := some code } =
      (s.log.stageFrom s.tamper.hold 8 (clearanceRecord c (some code) s)).2.offerRoutine
        (evidenceWaiting { s with tamper := (applyClearance c (some code) s).tamper })
        { time := s.cal.t, valid := s.cal.valid, kind := .codeAccepted, code := some code } := by
  obtain ⟨-, hlog, -, hwaiting, -, -⟩ := applyClearance_effects c (some code) s
  simp only [evidenceWaiting, recordNow, hlog, hwaiting, applyClearance_cal]

/-- A CLEAR_TAMPER code that a test refuses leaves TAMPER and SWITCH (R79, R130). -/
theorem refusedClearance_leaves {e : CodeEntry} {key : BitVec 144} {f : Deciphered} {o : CodeOutcome} {s : State}
    (hflight : s.code.flight = some ⟨e, key, .judging (some f)⟩)
    (hjudged : judgedAs e (some f) s = applyClearCode (codePart f) (penaltyEnded e.port (s.take .codeJudging)))
    (h : judgeClearance f.payload (penaltyEnded e.port (s.take .codeJudging)) = o) (ho : o ≠ .accepted) :
    ((judgeEntry (s.take .codeJudging)).code.results.get e.port).getLast? = some ⟨e.ticket, o, some (codePart f), none⟩ ∧
      (judgeEntry (s.take .codeJudging)).tamper = s.tamper ∧ (judgeEntry (s.take .codeJudging)).sw = s.sw := by
  have hmild : countsAgainst o = false := by rw [← h, judgeClearance_counts]
  rw [applyClearCode_of_refused (code := codePart f) (by rw [codePart, h]; exact ho)] at hjudged
  have hout : (judgedAs e (some f) s).outcome = o := by rw [hjudged]; exact h
  have hresult := result_of_outcome hflight ho hout
  rw [hmild] at hresult
  refine ⟨hresult, ?_⟩
  rw [judgeEntry_of_refused hflight (hout ▸ ho), refuseEntry_eq, finishEntry_frame,
    failureCounted_of_mild (by rw [hout]; exact hmild), hjudged]
  exact ⟨rfl, rfl⟩

/-- Settles O37, by the three tests of a clearance in their order. -/
theorem clearanceCodeApplied : Obligations.ClearanceCodeApplied := by
  intro e key f s hgood hflight hkind hpasses
  have hpart : codePart f = ⟨3, f.issue, f.payload⟩ := by rw [codePart, hkind]
  have hjudged : judgedAs e (some f) s = applyClearCode (codePart f) (penaltyEnded e.port (s.take .codeJudging)) := by
    rw [judgedAs_of_passes (by omega) (by omega) hpasses]
    unfold applyCode
    rw [hpart]
    rfl
  dsimp only
  refine ⟨_, exec_codeJudging hgood, ?bill, fun habove => ?above, fun hts hstale => ?stale, fun hts hlock hbarred => ?barred,
    fun hts hlock hclear => ?clear⟩
  case bill =>
    rw [judgeEntry_bill hflight, hjudged]
    unfold applyClearCode
    split
    · simp [penaltyEnded]
    · rfl
  case above =>
    rw [← hpart]
    exact refusedClearance_leaves hflight hjudged
      (judgeClearance_of_above (s := penaltyEnded e.port (s.take .codeJudging)) habove) (by simp)
  case stale =>
    rw [← hpart]
    exact refusedClearance_leaves hflight hjudged
      (judgeClearance_of_stale (s := penaltyEnded e.port (s.take .codeJudging)) hts hstale) (by simp)
  case barred =>
    rw [← hpart]
    exact refusedClearance_leaves hflight hjudged
      (judgeClearance_of_barred (s := penaltyEnded e.port (s.take .codeJudging)) hts hlock
        ((clearanceBarred_iff _).mpr hbarred)) (by simp)
  case clear =>
    have h := judgeClearance_of_clear (s := penaltyEnded e.port (s.take .codeJudging)) hts hlock
      (mt (clearanceBarred_iff _).mp hclear)
    rw [applyClearCode_of_accepted (code := codePart f) h] at hjudged
    have hout : (judgedAs e (some f) s).outcome = .accepted := by rw [hjudged]
    have hcode := congrArg CodeEngine.flight (accepted_code hflight hout)
    obtain ⟨htamper, -, hset, -, -, -⟩ :=
      applyClearance_effects f.payload (some (codePart f)) (penaltyEnded e.port (s.take .codeJudging))
    rw [hjudged, hpart] at hcode
    have ht := (judgeEntry_of_accepted hflight hout).trans (acceptEntry_frame _ _ _)
    rw [hjudged] at ht
    have htamper' : (judgeEntry (s.take .codeJudging)).tamper = _ := (congrArg State.tamper ht).trans htamper
    rw [hpart] at htamper' htamper
    refine ⟨htamper', (congrArg (fun t : State => t.sw.set) ht).trans hset, ?log, hcode, ?supmon⟩
    case supmon =>
      refine (congrArg State.supmon ht).trans ?_
      simp [penaltyEnded]
    case log =>
      have hlogged := acceptedClearance_log f.payload (codePart f) (penaltyEnded e.port (s.take .codeJudging))
      rw [hpart, htamper, ← htamper'] at hlogged
      refine (congrArg State.log (judgeEntry_of_accepted hflight hout)).trans ?_
      rw [acceptEntry_log, hjudged, hpart]
      exact hlogged

end Sys2Proof.Machine

/-! PROOF. The evidence log: offers, the record and mark writes, collecting and reading (07). -/

namespace Sys2Proof.Machine

/-! ## Offers (R139 to R141) -/

theorem evidenceWaiting_iff (s : State) :
    evidenceWaiting s = true ↔ s.tamper.hold ≠ [] ∨ s.sw.waiting ≠ [] ∨ s.cal.hold ≠ [] := by
  have hempty (l : List Record) : (!l.isEmpty) = true ↔ l ≠ [] := by cases l <;> simp
  unfold evidenceWaiting
  rw [Bool.or_eq_true, Bool.or_eq_true, hempty, hempty, hempty, or_assoc]

theorem room_iff (l : EvidenceLog) : l.room = true ↔ l.staging.length < 8 := decide_eq_true_iff

theorem offerRoutine_of_room {l : EvidenceLog} {n : Nat} (r : Record) (hnext : l.next = some n)
    (hroom : l.staging.length < 8) : l.offerRoutine false r = l.accept n r := by
  unfold EvidenceLog.offerRoutine
  simp [hnext, (room_iff l).mpr hroom]

theorem offerRoutine_of_dropped {l : EvidenceLog} {waiting : Bool} (r : Record)
    (h : 8 ≤ l.staging.length ∨ waiting = true ∨ l.next = none) :
    l.offerRoutine waiting r = { l with dropped := min (l.dropped + 1) 65535 } := by
  unfold EvidenceLog.offerRoutine
  cases hnext : l.next with
  | none => rfl
  | some n =>
    refine if_neg ?_
    rcases h with hfull | hwaits | hnone
    · have hroom : l.room = false := decide_eq_false (not_lt.mpr hfull)
      simp [hroom]
    · simp [hwaits]
    · simp [hnext] at hnone

theorem offerEvidence_of_room {l : EvidenceLog} {n : Nat} (r : Record) (hnext : l.next = some n)
    (hroom : l.staging.length < 8) : l.offerEvidence r = some (l.accept n r) := by
  unfold EvidenceLog.offerEvidence
  simp [hnext, (room_iff l).mpr hroom]

theorem offerEvidence_of_full {l : EvidenceLog} {n : Nat} (r : Record) (hnext : l.next = some n)
    (hfull : 8 ≤ l.staging.length) : l.offerEvidence r = none := by
  have hroom : l.room = false := decide_eq_false (not_lt.mpr hfull)
  unfold EvidenceLog.offerEvidence
  simp [hnext, hroom]

theorem offerEvidence_of_exhausted {l : EvidenceLog} (r : Record) (hnext : l.next = none) :
    l.offerEvidence r = some l.overflowOne := by
  unfold EvidenceLog.offerEvidence
  rw [hnext]

theorem stageFrom_of_full {l : EvidenceLog} {n : Nat} (cap : Nat) (r : Record) (hnext : l.next = some n)
    (hfull : 8 ≤ l.staging.length) : l.stageFrom [] cap r = ([r], l) := by
  unfold EvidenceLog.stageFrom
  rw [offerEvidence_of_full r hnext hfull]
  rfl

theorem stageFrom_of_exhausted {l : EvidenceLog} (cap : Nat) (r : Record) (hnext : l.next = none) :
    l.stageFrom [] cap r = ([], l.overflowOne) := by
  unfold EvidenceLog.stageFrom
  rw [offerEvidence_of_exhausted r hnext]
  rfl

theorem stageFrom_of_waiting {l : EvidenceLog} {hold : List Record} {cap : Nat} (r : Record) (hhold : hold ≠ [])
    (hroom : hold.length < cap) : l.stageFrom hold cap r = (hold ++ [r], l) := by
  unfold EvidenceLog.stageFrom
  rw [if_neg (by simpa using hhold), if_pos hroom]

theorem stageFrom_of_full_hold {l : EvidenceLog} {hold : List Record} {cap : Nat} (r : Record) (hhold : hold ≠ [])
    (hfull : cap ≤ hold.length) : l.stageFrom hold cap r = (hold, l.overflowOne) := by
  unfold EvidenceLog.stageFrom
  rw [if_neg (by simpa using hhold), if_neg (not_lt.mpr hfull)]

theorem reoffer_of_room {l : EvidenceLog} {n : Nat} (r : Record) (rest : List Record) (hnext : l.next = some n)
    (hroom : l.staging.length < 8) : l.reoffer (r :: rest) = (rest, l.accept n r) := by
  simp [EvidenceLog.reoffer, offerEvidence_of_room r hnext hroom]

theorem reoffer_of_full {l : EvidenceLog} {n : Nat} (hold : List Record) (hnext : l.next = some n)
    (hfull : 8 ≤ l.staging.length) : l.reoffer hold = (hold, l) := by
  unfold EvidenceLog.reoffer
  cases hold with
  | nil => rfl
  | cons r rest => simp [offerEvidence_of_full r hnext hfull]

theorem exec_recordOffer_routine {r : Record} {s : State} (h : isEvidence r.kind = false) :
    exec (.recordOffer r) s = .next (stageRoutine r (s.take (.recordOffer r))) := by
  change execRecordOffer r s = _
  simp [execRecordOffer, h]

theorem exec_recordOffer_evidence {r : Record} {s : State} (hgood : mainGood s = true) (h : isEvidence r.kind = true) :
    exec (.recordOffer r) s = .next (stageEvidence r (s.take (.recordOffer r))) := by
  change execRecordOffer r s = _
  simp [execRecordOffer, h, hgood]

theorem exec_waitingEvidenceOffer {o : Origin} {s : State} (hgood : mainGood s = true) :
    exec (.waitingEvidenceOffer o) s = .next (reofferFrom o (s.take (.waitingEvidenceOffer o))) := by
  change execWaitingEvidenceOffer o s = _
  rw [execWaitingEvidenceOffer, inMain_good hgood]

/-- Settles O38, by the class of the record, its origin and the room in the queue. -/
theorem evidenceOffered : Obligations.EvidenceOffered := by
  refine ⟨⟨fun r s hroutine => ⟨fun n hnext hroom hfree => ?routine, fun hdrop => ?dropped⟩, fun r s hgood => ?origins⟩,
    fun l hold cap r => ⟨fun hempty n hnext hroom => ?room, fun hempty n hnext hfull => ?full,
      fun hempty hnext => ?exhausted, stageFrom_of_waiting r, stageFrom_of_full_hold r⟩,
    fun r rest n s hgood hnext => ?again⟩
  case routine =>
    have hwaits : evidenceWaiting (s.take (.recordOffer r)) = false := by
      rw [← Bool.not_eq_true, evidenceWaiting_iff]
      exact hfree
    rw [exec_recordOffer_routine hroutine, stageRoutine, hwaits,
      offerRoutine_of_room (l := (s.take (.recordOffer r)).log) r hnext hroom]
    rfl
  case dropped =>
    rw [exec_recordOffer_routine hroutine, stageRoutine, offerRoutine_of_dropped (l := (s.take (.recordOffer r)).log) r
      (hdrop.imp id (Or.imp (evidenceWaiting_iff (s.take (.recordOffer r))).mpr id))]
    rfl
  case origins =>
    refine ⟨fun h => ?_, fun h => ?_, fun h => ?_⟩
    · have hevidence : isEvidence r.kind = true := by rcases h with h | h <;> rw [h] <;> rfl
      rw [exec_recordOffer_evidence hgood hevidence, stageEvidence]
      rcases h with h | h <;> rw [h] <;> rfl
    all_goals
      rw [exec_recordOffer_evidence hgood (by rw [h]; rfl), stageEvidence, h]
      rfl
  case room =>
    rw [hempty, stageFrom_of_room r hnext hroom]
    rfl
  case full => rw [hempty, stageFrom_of_full cap r hnext hfull]
  case exhausted =>
    rw [hempty, stageFrom_of_exhausted cap r hnext]
    rfl
  case again =>
    dsimp only
    refine ⟨fun hhold hroom => ?_, fun hhold hroom => ?_, fun hhold hroom => ?_, fun o hfull => ?_⟩
    all_goals rw [exec_waitingEvidenceOffer hgood]
    · simp only [reofferFrom, State.take_tamper, State.take_log, hhold, reoffer_of_room r rest hnext hroom]
      rfl
    · simp only [reofferFrom, State.take_sw, State.take_log, hhold, reoffer_of_room r rest hnext hroom]
      rfl
    · simp only [reofferFrom, State.take_cal, State.take_log, hhold, reoffer_of_room r rest hnext hroom]
      rfl
    · cases o <;> simp only [reofferFrom, State.take_log, reoffer_of_full _ hnext hfull] <;> rfl

/-! ## The record write (R142, R144, R148) -/

theorem capTest_of_passes {u o : Nat} {r : LogRecord} (rest : List LogRecord)
    (h : isEvidence r.body.kind = false ∨ u < 64) : capTest u (r :: rest) o = (r :: rest, o) := by
  unfold capTest
  refine if_neg ?_
  rcases h with h | h
  · simp [h]
  · simp [uncollectedMax, not_le.mpr h]

/-- The evidence at the head goes, all of it, while the uncollected count stands at the cap (R144). -/
theorem capTest_append {u : Nat} {lost : List LogRecord} (rest : List LogRecord) (o : Nat) (hcap : 64 ≤ u)
    (hne : lost ≠ []) (hlost : ∀ x ∈ lost, isEvidence x.body.kind = true) :
    capTest u (lost ++ rest) o = capTest u rest (min (o + lost.length) 65535) := by
  induction lost generalizing o with
  | nil => exact absurd rfl hne
  | cons x xs ih =>
    have hx : (isEvidence x.body.kind && decide (uncollectedMax ≤ u)) = true := by
      simp [hlost x (by simp), uncollectedMax, hcap]
    rw [List.cons_append, capTest, if_pos hx]
    by_cases hxs : xs = []
    · subst hxs
      rfl
    · rw [ih _ hxs fun y hy => hlost y (by simp [hy]), List.length_cons]
      congr 1
      change min (min (o + 1) 65535 + xs.length) 65535 = _
      omega

theorem startRecord_of_kept {l : EvidenceLog} {r : LogRecord} {rest : List LogRecord} {o : Nat}
    (h : capTest l.uncollected l.staging l.overflow = (r :: rest, o)) :
    l.startRecord =
      { l with
        staging := r :: rest, overflow := o, records := makePlace l.heldMark l.records, writer := .record 0 } := by
  unfold EvidenceLog.startRecord
  rw [h]
  rfl

theorem startRecord_of_emptied {l : EvidenceLog} {o : Nat} (h : capTest l.uncollected l.staging l.overflow = ([], o)) :
    l.startRecord = { l with staging := [], overflow := o } := by
  unfold EvidenceLog.startRecord
  rw [h]
  rfl

theorem exec_logWriteStart {s : State} (hgood : mainGood s = true) (hidle : s.log.writer = .idle)
    (hmark : s.log.markRequest = false) :
    exec .logWriteStart s = .next { s.take .logWriteStart with log := s.log.startRecord } := by
  change execLogWriteStart s = _
  rw [execLogWriteStart, inMain_good hgood]
  exact congrArg Host.Outcome.next (if_pos ⟨hidle, hmark⟩)

theorem makePlace_of_room {mark : Nat} {records : List LogRecord} (h : records.length < 128) :
    makePlace mark records = records := if_pos h

/-- A full log loses the first record that is routine or collected (R142). -/
theorem makePlace_of_full {mark : Nat} {before after : List LogRecord} {x : LogRecord}
    (hfull : 128 ≤ (before ++ x :: after).length) (hx : isEvidence x.body.kind = false ∨ x.number ≤ mark)
    (hbefore : ∀ y ∈ before, isEvidence y.body.kind = true ∧ mark < y.number) :
    makePlace mark (before ++ x :: after) = before ++ after := by
  have hgives : givesWay mark x = true := by
    rcases hx with h | h <;> simp [givesWay, h]
  have hstays : ∀ y ∈ before, ¬givesWay mark y = true := fun y hy => by
    obtain ⟨hevidence, habove⟩ := hbefore y hy
    simp [givesWay, hevidence, habove]
  have hnot : ¬(before ++ x :: after).length < logMax := not_lt.mpr hfull
  rw [makePlace, if_neg hnot, List.eraseP_append_right _ hstays, List.eraseP_cons_of_pos hgives]

theorem exec_logWriteComplete {s : State} (hgood : mainGood s = true) :
    exec .logWriteComplete s = .next (completeRecord (s.take .logWriteComplete)) := by
  change execLogWriteComplete s = _
  rw [execLogWriteComplete, inMain_good hgood]

theorem completeRecord_of_lt {ms : Nat} {s : State} (hwriter : s.log.writer = .record ms) (h : ms < 10) :
    completeRecord s = s := by
  unfold completeRecord
  rw [hwriter]
  split
  · next _ r rest hw _ =>
      cases hw
      exact if_neg (not_le.mpr h)
  · rfl

theorem completeRecord_of_le {ms : Nat} {r : LogRecord} {rest : List LogRecord} {s : State}
    (hwriter : s.log.writer = .record ms) (hstaging : s.log.staging = r :: rest) (h : 10 ≤ ms) :
    completeRecord s =
      if isEvidence r.body.kind then
        evaluateThreshold { s with log := { s.log with records := s.log.records ++ [r], staging := rest, writer := .idle } }
      else { s with log := { s.log with records := s.log.records ++ [r], staging := rest, writer := .idle } } := by
  unfold completeRecord
  rw [hwriter, hstaging]
  exact if_pos h

/-- Settles O39, by the cap test of the queue and by the room in the log. -/
theorem recordWrites : Obligations.RecordWrites := by
  refine ⟨fun r rest s hgood hidle hmark hstaging => ?start,
    fun lost s hgood hidle hmark hcap hne hlost => ⟨fun hstaging => ?allLost, fun r rest hstaging hroutine => ?someLost⟩,
    fun ms r rest s hgood hwriter hstaging => ⟨fun hearly => ?early, fun hdue => ?complete⟩⟩
  case start =>
    refine ⟨_, exec_logWriteStart hgood hidle hmark, rfl, fun hpasses => ?_, fun hevidence hcap hrest => ?_⟩
    · have htest : capTest s.log.uncollected s.log.staging s.log.overflow = (r :: rest, s.log.overflow) := by
        rw [hstaging, capTest_of_passes rest hpasses]
      rw [startRecord_of_kept htest, ← hstaging]
      refine ⟨rfl, makePlace_of_room, fun hfull before x after hrecords hx hbefore => ?_⟩
      rw [hrecords] at hfull ⊢
      exact makePlace_of_full hfull hx hbefore
    · have htest : capTest s.log.uncollected s.log.staging s.log.overflow = ([], min (s.log.overflow + 1) 65535) := by
        rw [hstaging, hrest]
        exact capTest_append (lost := [r]) [] _ hcap (by simp) (by simpa using hevidence)
      rw [startRecord_of_emptied htest]
  case allLost =>
    have htest : capTest s.log.uncollected s.log.staging s.log.overflow =
        ([], min (s.log.overflow + lost.length) 65535) := by
      rw [hstaging, ← List.append_nil lost, capTest_append [] s.log.overflow hcap hne hlost, List.append_nil]
      rfl
    rw [exec_logWriteStart hgood hidle hmark, startRecord_of_emptied htest]
  case someLost =>
    have htest := capTest_append (r :: rest) s.log.overflow hcap hne hlost
    rw [capTest_of_passes rest (.inl hroutine), ← hstaging] at htest
    have htest' : capTest s.log.uncollected (r :: rest) (min (s.log.overflow + lost.length) 65535) = _ :=
      capTest_of_passes rest (.inl hroutine)
    have hgood' : mainGood { s with log := { s.log with
        staging := r :: rest, overflow := min (s.log.overflow + lost.length) 65535 } } = true := hgood
    rw [exec_logWriteStart hgood hidle hmark, startRecord_of_kept htest, exec_logWriteStart hgood' hidle hmark]
    refine congrArg Host.Outcome.next ?_
    rw [startRecord_of_kept (l := { s.log with
        staging := r :: rest, overflow := min (s.log.overflow + lost.length) 65535 }) htest']
    rfl
  case early =>
    rw [exec_logWriteComplete hgood, completeRecord_of_lt (s := s.take .logWriteComplete) hwriter hearly]
  case complete =>
    rw [exec_logWriteComplete hgood, completeRecord_of_le (s := s.take .logWriteComplete) hwriter hstaging hdue]
    cases hevidence : isEvidence r.body.kind with
    | true => exact ⟨_, rfl, rfl, rfl, fun _ => rfl, nofun⟩
    | false => exact ⟨_, rfl, rfl, rfl, nofun, fun _ => rfl⟩

/-! ## The mark (R145, R146) -/

theorem exec_evidenceCollect {n : BitVec 32} {s : State} (h : Ready .network s) :
    exec (.evidenceCollect .network n) s =
      .next (respond .network (collectEvidence n.toNat (s.take (.evidenceCollect .network n))).2
        (collectEvidence n.toNat (s.take (.evidenceCollect .network n))).1) := by
  unfold exec
  exact runCommand_ready h

theorem exec_markWriteStart {s : State} (hgood : mainGood s = true) (hidle : s.log.writer = .idle)
    (hmark : s.log.markRequest = true) :
    exec .markWriteStart s = .next { s.take .markWriteStart with log := s.log.startMark } := by
  change execMarkWriteStart s = _
  rw [execMarkWriteStart, inMain_good hgood]
  exact congrArg Host.Outcome.next (if_pos ⟨hidle, hmark⟩)

theorem exec_markWriteComplete {s : State} (hgood : mainGood s = true) :
    exec .markWriteComplete s = .next { s.take .markWriteComplete with log := s.log.completeMark } := by
  change execMarkWriteComplete s = _
  rw [execMarkWriteComplete, inMain_good hgood]
  rfl

theorem markAfter_of_some {l : EvidenceLog} {r : LogRecord} (n : Nat) (h : l.records.getLast? = some r) :
    l.markAfter n = max l.heldMark (min n r.number) := by
  unfold EvidenceLog.markAfter EvidenceLog.highest
  rw [h]
  rfl

theorem markAfter_of_none {l : EvidenceLog} (n : Nat) (h : l.records.getLast? = none) : l.markAfter n = l.heldMark := by
  unfold EvidenceLog.markAfter EvidenceLog.highest
  rw [h]
  rfl

/-- The effects of a collect, in the mark that it leaves. -/
theorem collected {n : BitVec 32} {m : Nat} {s : State} (hready : Ready .network s) (hm : s.log.markAfter n.toNat = m) :
    ∃ t, exec (.evidenceCollect .network n) s =
        .next (respond .network ⟨.ok, beNat 4 m ++ beNat 1 (s.log.uncollectedUnder m) ++ beNat 2 s.log.overflow⟩ t) ∧
      t.log =
        { s.log with
          heldMark := m, overflow := 0, markRequest := s.log.markRequest || decide (s.log.heldMark < m) } ∧
      t.alert.conditions.evidenceThreshold = decide (s.log.threshold ≤ s.log.uncollectedUnder m) ∧
      t = { s.take (.evidenceCollect .network n) with log := t.log, alert := t.alert } := by
  subst hm
  exact ⟨_, exec_evidenceCollect hready, rfl, rfl, rfl⟩

section Older

variable {l : EvidenceLog} {x y : MarkCopy}

theorem markPlace_of_none_some (ha : l.markA = none) (hb : l.markB = some x) :
    olderPlace l.countA l.countB = .a ∧ nextCount l.countA l.countB .a = x.count + 1 := by
  simp [EvidenceLog.countA, EvidenceLog.countB, ha, hb, olderPlace, nextCount]

theorem markPlace_of_some_none (ha : l.markA = some x) (hb : l.markB = none) :
    olderPlace l.countA l.countB = .b ∧ nextCount l.countA l.countB .b = x.count + 1 := by
  simp [EvidenceLog.countA, EvidenceLog.countB, ha, hb, olderPlace, nextCount]

theorem markPlace_of_lt (ha : l.markA = some x) (hb : l.markB = some y) (h : x.count < y.count) :
    olderPlace l.countA l.countB = .a ∧ nextCount l.countA l.countB .a = y.count + 1 := by
  simp [EvidenceLog.countA, EvidenceLog.countB, ha, hb, olderPlace, nextCount, h]

theorem markPlace_of_gt (ha : l.markA = some x) (hb : l.markB = some y) (h : y.count < x.count) :
    olderPlace l.countA l.countB = .b ∧ nextCount l.countA l.countB .b = x.count + 1 := by
  simp [EvidenceLog.countA, EvidenceLog.countB, ha, hb, olderPlace, nextCount, h.le]

end Older

/-- Settles O40, by the place that is the older one. -/
theorem collectAndMark : Obligations.CollectAndMark := by
  refine ⟨fun n s hready => ?collect, fun s hgood hidle hmark => ?start,
    fun p copy ms s hgood hwriter => ⟨fun hearly => ?early, fun hdue => ?complete⟩⟩
  case collect =>
    cases hlast : s.log.records.getLast? with
    | none => exact collected hready (markAfter_of_none _ hlast)
    | some r => exact collected hready (markAfter_of_some _ hlast)
  case start =>
    refine ⟨_, olderPlace s.log.countA s.log.countB,
      nextCount s.log.countA s.log.countB (olderPlace s.log.countA s.log.countB), exec_markWriteStart hgood hidle hmark,
      rfl, rfl, ?place, fun x ha hb => ?_, fun x ha hb => ?_, fun x y ha hb hlt => ?_, fun x y ha hb hlt => ?_, rfl, ?rest⟩
    case place =>
      unfold EvidenceLog.startMark
      cases olderPlace s.log.countA s.log.countB <;> rfl
    case rest =>
      unfold EvidenceLog.startMark
      cases olderPlace s.log.countA s.log.countB <;> rfl
    · obtain ⟨hplace, hcount⟩ := markPlace_of_none_some ha hb
      exact ⟨hplace, hplace ▸ hcount, by simp [EvidenceLog.startMark, hplace, EvidenceLog.putMark, hb]⟩
    · obtain ⟨hplace, hcount⟩ := markPlace_of_some_none ha hb
      exact ⟨hplace, hplace ▸ hcount, by simp [EvidenceLog.startMark, hplace, EvidenceLog.putMark, ha]⟩
    · obtain ⟨hplace, hcount⟩ := markPlace_of_lt ha hb hlt
      exact ⟨hplace, hplace ▸ hcount, by simp [EvidenceLog.startMark, hplace, EvidenceLog.putMark, hb]⟩
    · obtain ⟨hplace, hcount⟩ := markPlace_of_gt ha hb hlt
      exact ⟨hplace, hplace ▸ hcount, by simp [EvidenceLog.startMark, hplace, EvidenceLog.putMark, ha]⟩
  case early =>
    rw [exec_markWriteComplete hgood, EvidenceLog.completeMark, hwriter]
    simp only [logWriteMs, not_le.mpr hearly, if_false]
    rfl
  case complete =>
    rw [exec_markWriteComplete hgood, EvidenceLog.completeMark, hwriter]
    simp only [logWriteMs, hdue, if_true]
    cases p <;> rfl

/-! ## READ_LOG and the threshold (R147, R148) -/

theorem exec_readLog_reply {p : Port} {first : BitVec 32} {count : Byte} {s : State} (h : Ready p s) :
    exec (.readLog p first count) s =
      .next (respond p
        (if 1 ≤ count.toNat ∧ count.toNat ≤ 4 then ⟨.ok, logBytes first.toNat count.toNat s.log⟩ else .bare .badArgument)
        (s.take (.readLog p first count))) := by
  have hready : exec (.readLog p first count) s =
      .next
        (let y : State × Reply :=
          if 1 ≤ count.toNat ∧ count.toNat ≤ 4 then
            (s.take (.readLog p first count), ⟨.ok, logBytes first.toNat count.toNat (s.take (.readLog p first count)).log⟩)
          else (s.take (.readLog p first count), .bare .badArgument)
        respond p y.2 y.1) := by
    unfold exec
    exact runCommand_ready h
  rw [hready]
  by_cases hcount : 1 ≤ count.toNat ∧ count.toNat ≤ 4
  · simp only [if_pos hcount, State.take_log]
  · simp only [if_neg hcount]

/-- Of the records from a number on, those that a count leaves out stand above all that it takes. -/
theorem found_complete {records : List LogRecord} (first count : Nat)
    (hsorted : records.Pairwise fun x y => x.number < y.number) {r : LogRecord} (hr : r ∈ records) (hfirst : first ≤ r.number) :
    let found := (records.filter fun x => decide (first ≤ x.number)).take count
    r ∈ found ∨ (found.length = count ∧ ∀ x ∈ found, x.number < r.number) := by
  have hmem : r ∈ records.filter fun x => decide (first ≤ x.number) := List.mem_filter.mpr ⟨hr, decide_eq_true hfirst⟩
  have hparts := hsorted.filter fun x => decide (first ≤ x.number)
  rw [← List.take_append_drop count (records.filter _)] at hmem hparts
  rcases List.mem_append.mp hmem with htaken | hleft
  · exact .inl htaken
  · have hlong := (List.length_drop ..) ▸ List.length_pos_of_mem hleft
    exact .inr ⟨List.length_take_of_le (by omega), fun x hx => (List.pairwise_append.mp hparts).2.2 x hx r hleft⟩

theorem exec_setEvidenceThreshold {v : Byte} {s : State} (h : Ready .network s) :
    exec (.setEvidenceThreshold .network v) s =
      .next (respond .network (setThreshold v (s.take (.setEvidenceThreshold .network v))).2
        (setThreshold v (s.take (.setEvidenceThreshold .network v))).1) := by
  unfold exec
  exact runCommand_ready h

theorem recordBytes_split (mark : Nat) (r : LogRecord) :
    (recordBytes mark r).take 11 =
        beNat 4 r.number ++ beNat 4 r.body.time ++
        flagByte [r.body.valid, isEvidence r.body.kind, isEvidence r.body.kind && decide (r.number ≤ mark)] ++
        beNat 1 (recordKindCode r.body.kind) ++
        flagByte [r.body.tamper.isSome, r.body.code.isSome, r.body.relay.isSome, r.body.gap.isSome, r.body.energy.isSome,
                  r.body.clock.isSome] ∧
      (recordBytes mark r).drop 11 = partBytes r.body := by
  unfold recordBytes
  exact ⟨List.take_left' (by simp [flagByte]), List.drop_left' (by simp [flagByte])⟩

/-- Settles O41, by the count that the command names, and by the parts of a record. -/
theorem logReadAndThreshold : Obligations.LogReadAndThreshold := by
  refine ⟨fun p first count s hready => ⟨fun hbad => ?refused, fun hlow hhigh hsorted => ?read⟩,
    fun mark r => ⟨?header, ?parts⟩, fun v s hready => ⟨fun hin => ?set, fun hout => ?outside⟩⟩
  case refused => rw [exec_readLog_reply hready, if_neg (by omega)]
  case read =>
    refine ⟨(s.log.records.filter fun x => decide (first.toNat ≤ x.number)).take count.toNat, ?_,
      (List.take_sublist ..).trans List.filter_sublist, List.length_take_le .., fun r hr => ?_,
      fun r hr hfirst => found_complete first.toNat count.toNat hsorted hr hfirst⟩
    · rw [exec_readLog_reply hready, if_pos ⟨hlow, hhigh⟩]
      rfl
    · exact of_decide_eq_true (List.mem_filter.mp (List.mem_of_mem_take hr)).2
  case header =>
    refine (recordBytes_split mark r).1.trans ?_
    cases r.body.kind <;> rfl
  case parts =>
    refine (recordBytes_split mark r).2.trans ?_
    unfold partBytes
    refine append_congr (append_congr (append_congr (append_congr (append_congr ?eventPart ?codePart) ?relayPart) ?gapPart) ?energyPart) ?clockPart
    case eventPart =>
      cases r.body.tamper with
      | none => rfl
      | some x =>
        refine congrArg (beNat 4 x.number ++ ·) ((beNat_one _).trans ?_)
        rcases x with ⟨number, _ | k⟩
        · rfl
        · cases k <;> rfl
    case codePart => cases r.body.code <;> rfl
    case relayPart =>
      cases r.body.relay with
      | none => rfl
      | some x =>
        have hposition (y : Position) : beNat 1 (positionCode y) =
            [match y with | .unknown => 0#8 | .opened => 1#8 | .closed => 2#8] := by
          cases y <;> rfl
        have hset : beNat 1 (demandCode x.set) =
            flagByte [x.set.credit, x.set.overload, x.set.tamper, x.set.remote, x.set.uncommissioned] := beNat_one _
        simp only [Option.map_some, Option.getD_some, hposition, hset]
        rfl
    case gapPart => cases r.body.gap <;> rfl
    case energyPart => cases r.body.energy <;> rfl
    case clockPart => cases r.body.clock <;> rfl
  case set =>
    have hvalue : v.toNat = 16 ∨ v.toNat = 32 ∨ v.toNat = 48 ∨ v.toNat = 64 := by simpa using hin
    rw [exec_setEvidenceThreshold hready, setThreshold, if_pos hvalue]
    exact ⟨_, rfl, rfl, rfl, rfl⟩
  case outside =>
    have hvalue : ¬(v.toNat = 16 ∨ v.toNat = 32 ∨ v.toNat = 48 ∨ v.toNat = 64) := by simpa using hout
    rw [exec_setEvidenceThreshold hready, setThreshold, if_neg hvalue]

end Sys2Proof.Machine

/-! PROOF. The calendar: the tick, the clock set and the lookups (08; 03: R47 to R49). -/

namespace Sys2Proof.Machine

/-! ## The tick (R152 to R154) -/

theorem nextTime_gt_iff (t : Nat) : t < nextTime t ↔ t < 4294967295 := by
  have hmax : nextTime t = min (t + 1) 4294967295 := rfl
  omega

theorem mem_tickEvents (before t : Nat) :
    Instr.standingAccrual (BitVec.ofNat 32 t) ∈ tickEvents before t ∧ Instr.tariffActivation ∈ tickEvents before t ∧
      Instr.penaltyDecrement ∈ tickEvents before t ∧ (Instr.clockHourMark ∈ tickEvents before t ↔ t % 3600 = 0) ∧
      (Instr.clockMinute ∈ tickEvents before t ↔ before < t ∧ t % 60 = 0) := by
  unfold tickEvents
  by_cases hhour : t % 3600 = 0 <;> by_cases hminute : before < t ∧ t % 60 = 0 <;> simp [hhour, hminute]

theorem length_tickEvents (before t : Nat) :
    (tickEvents before t).length =
      3 + (if t % 3600 = 0 then 1 else 0) + (if before < t ∧ t % 60 = 0 then 1 else 0) := by
  unfold tickEvents
  rw [List.length_append, List.length_append]
  refine congrArg₂ (· + ·) (congrArg (3 + ·) ?_) ?_ <;> split <;> rfl

/-- Settles O42, by the supply state and by what the new T divides. -/
theorem clockTickIssues : Obligations.ClockTickIssues := by
  intro s
  refine ⟨fun hstopped => ?stopped, fun hgood => ?good, fun hgood => ?hour⟩
  case stopped =>
    change execClockTick s = _
    simp [execClockTick, tickClock, mainGood, hstopped]
    rfl
  case good =>
    obtain ⟨hstanding, hactivation, hpenalty, hhour, hminute⟩ := mem_tickEvents s.cal.t (nextTime s.cal.t)
    have hlength := length_tickEvents s.cal.t (nextTime s.cal.t)
    simp only [nextTime_gt_iff] at hminute hlength
    refine ⟨tickEvents s.cal.t (nextTime s.cal.t), ?_, hstanding, hactivation, hpenalty, hhour, hminute, hlength⟩
    change execClockTick s = _
    simp [execClockTick, tickClock, mainGood, hgood]
    rfl
  case hour =>
    change execClockHourMark s = _
    rw [execClockHourMark, inMain_good hgood]
    rfl

/-! ## The clock set (R157 to R160) -/

theorem foldl_accruals_none (l : List Instr) (s : State) (h : ∀ t, Instr.standingAccrual t ∉ l) :
    l.foldl (fun acc i => match i with
      | .standingAccrual t => accrue t.toNat (acc.take i)
      | _ => acc) s = s := by
  induction l generalizing s with
  | nil => rfl
  | cons i l ih =>
    have hl : ∀ t, Instr.standingAccrual t ∉ l := fun t ht => h t (List.mem_cons_of_mem _ ht)
    rw [List.foldl_cons]
    cases i
    case standingAccrual t => exact absurd List.mem_cons_self (h t)
    all_goals exact ih _ hl

theorem settleAccruals_none {s : State} (h : NoAccrualWaits s) : settleAccruals s = s := foldl_accruals_none _ _ h

theorem noAccrualWaits_take {i : Instr} {s : State} (h : NoAccrualWaits s) : NoAccrualWaits (s.take i) :=
  fun t ht => h t (List.mem_of_mem_erase ht)

/-- What a CLOCK_SET leaves before its evaluation: the accrual to the old T, the new clock and H at it (R25, R158). -/
def rebased (x : Nat) (o : Int) (s : State) : State :=
  { accrueMoney s.cal.t s with
    cal := { s.cal with t := x, offset := o, valid := true }, bill := { (accrueMoney s.cal.t s).bill with h := x } }

theorem rebase_eq (x : Nat) (o : Int) (s : State) : rebase x o s = evaluate (rebased x o s) := by
  unfold rebase rebased
  dsimp only
  rw [accrueMoney_cal]

/-- What a CLOCK_SET leaves before the activation test: the rebase and its record (R158, R159). -/
def clockMoved (x : Nat) (o : Int) (s : State) : State :=
  stageCalendar (clockRecord s.cal.t s.cal.offset x o) (evaluate (rebased x o s))

theorem exec_clockSet {x : BitVec 32} {o : BitVec 16} {s : State} (h : Ready .network s) (hgap : NoGapWaits s)
    (haccrual : NoAccrualWaits s) (ho : offsetTaken o.toInt = true) :
    exec (.clockSet .network x o) s =
      .next (respond .network ⟨.ok, beNat 4 s.cal.t ++ beInt 2 s.cal.offset ++ beNat 4 x.toNat ++ beInt 2 o.toInt⟩
        (activationTest (clockMoved x.toNat o.toInt (s.take (.clockSet .network x o))))) := by
  have hready : exec (.clockSet .network x o) s =
      .next
        (let y : State × Reply :=
          if offsetTaken o.toInt then setClock x.toNat o.toInt (s.take (.clockSet .network x o))
          else (s.take (.clockSet .network x o), .bare .badArgument)
        respond .network y.2 y.1) := by
    unfold exec
    exact runCommand_ready h
  have hset : setClock x.toNat o.toInt (s.take (.clockSet .network x o)) =
      (activationTest (clockMoved x.toNat o.toInt (s.take (.clockSet .network x o))),
       ⟨.ok, beNat 4 s.cal.t ++ beInt 2 s.cal.offset ++ beNat 4 x.toNat ++ beInt 2 o.toInt⟩) := by
    unfold setClock clockMoved
    rw [settleGap_none (noGapWaits_take hgap), settleAccruals_none (noAccrualWaits_take haccrual)]
    dsimp only
    rw [rebase_eq]
    rfl
  simp only [hready, if_pos ho, hset]

theorem exec_clockSet_refused {x : BitVec 32} {o : BitVec 16} {s : State} (h : Ready .network s)
    (ho : offsetTaken o.toInt = false) :
    exec (.clockSet .network x o) s =
      .next (respond .network (.bare .badArgument) (s.take (.clockSet .network x o))) := by
  have hready : exec (.clockSet .network x o) s =
      .next
        (let y : State × Reply :=
          if offsetTaken o.toInt then setClock x.toNat o.toInt (s.take (.clockSet .network x o))
          else (s.take (.clockSet .network x o), .bare .badArgument)
        respond .network y.2 y.1) := by
    unfold exec
    exact runCommand_ready h
  simp only [hready, ho, Bool.false_eq_true, if_false]

/-! ### The money of a clock set -/

/-- Whether the accrual to the old T reaches the floor (R20). -/
def clockReachesFloor (s : State) : Bool :=
  decide (accrualSum s s.cal.t / 86400 ≠ 0 ∧ s.bill.b - (accrualSum s s.cal.t / 86400 : Nat) ≤ balanceMin)

/-- LOG behind the accrual to the old T: BALANCE_FLOOR when the floor is reached for the first time (R20). -/
def flooredLog (s : State) : EvidenceLog :=
  if clockReachesFloor s = true ∧ s.bill.floor = false then
    s.log.offerRoutine (evidenceWaiting s) (floorRecord s)
  else s.log

theorem accrueMoney_effects {s : State} (h : s.bill.h < s.cal.t) :
    (accrueMoney s.cal.t s).bill.q = accrualSum s s.cal.t % 86400 ∧
      (accrueMoney s.cal.t s).bill.b = max balanceMin (s.bill.b - (accrualSum s s.cal.t / 86400 : Nat)) ∧
      (accrueMoney s.cal.t s).bill.floor = (s.bill.floor || clockReachesFloor s) ∧
      (accrueMoney s.cal.t s).log = flooredLog s := by
  rw [accrueMoney_of_lt h]
  refine ⟨by rw [reduce_q]; rfl, by rw [reduce_b]; rfl, ?_⟩
  by_cases hreach : ReachesFloor (accrualSum s s.cal.t / daySeconds) (charged s.cal.t s)
  · obtain ⟨hfloor, hlog, hnolog⟩ := reduce_of_reaches hreach
    have hreach' : clockReachesFloor s = true := decide_eq_true hreach
    rw [hfloor, flooredLog, hreach', Bool.or_true]
    refine ⟨rfl, ?_⟩
    cases hwas : s.bill.floor with
    | false => exact hlog hwas
    | true => exact hnolog hwas
  · obtain ⟨hfloor, hlog⟩ := reduce_of_not_reaches hreach
    have hreach' : clockReachesFloor s = false := decide_eq_false hreach
    rw [hfloor, hlog, flooredLog, hreach', Bool.or_false]
    exact ⟨rfl, rfl⟩

@[simp] theorem accrueMoney_r (t : Nat) (s : State) : (accrueMoney t s).bill.r = s.bill.r := by
  unfold accrueMoney
  split
  · simp
  · rfl

@[simp] theorem accrueMoney_d (t : Nat) (s : State) : (accrueMoney t s).bill.d = s.bill.d := by
  unfold accrueMoney
  split
  · simp
  · rfl

@[simp] theorem accrueMoney_emergency (t : Nat) (s : State) : (accrueMoney t s).bill.emergency = s.bill.emergency := by
  unfold accrueMoney
  split
  · simp
  · rfl

section Moved

variable (x : Nat) (o : Int) (s : State)

theorem clockMoved_cal :
    (clockMoved x o s).cal =
      { s.cal with
        t := x, offset := o, valid := true,
        hold := ((accrueMoney s.cal.t s).log.stageFrom s.cal.hold 4 (clockRecord s.cal.t s.cal.offset x o)).1 } := by
  unfold clockMoved stageCalendar
  simp only [evaluate_cal, evaluate_log]
  rfl

theorem clockMoved_log :
    (clockMoved x o s).log =
      ((accrueMoney s.cal.t s).log.stageFrom s.cal.hold 4 (clockRecord s.cal.t s.cal.offset x o)).2 := by
  unfold clockMoved stageCalendar
  simp only [evaluate_cal, evaluate_log]
  rfl

theorem clockMoved_bill :
    (clockMoved x o s).bill =
      { (accrueMoney s.cal.t s).bill with
        h := x, emergency := (clockMoved x o s).bill.emergency, deferral := (clockMoved x o s).bill.deferral } :=
  evaluate_bill (rebased x o s)

theorem clockMoved_set :
    (clockMoved x o s).sw.set = { s.sw.set with credit := (clockMoved x o s).sw.set.credit } := by
  have hset := evaluate_set (rebased x o s)
  rw [show (rebased x o s).sw = s.sw from accrueMoney_sw ..] at hset
  exact hset

theorem clockMoved_charged (h : s.bill.h < s.cal.t) :
    (clockMoved x o s).bill.q = accrualSum s s.cal.t % 86400 ∧
      (clockMoved x o s).bill.b = max balanceMin (s.bill.b - (accrualSum s s.cal.t / 86400 : Nat)) ∧
      (clockMoved x o s).bill.floor = (s.bill.floor || clockReachesFloor s) ∧
      (clockMoved x o s).cal.hold =
        ((flooredLog s).stageFrom s.cal.hold 4 (clockRecord s.cal.t s.cal.offset x o)).1 ∧
      (clockMoved x o s).log =
        ((flooredLog s).stageFrom s.cal.hold 4 (clockRecord s.cal.t s.cal.offset x o)).2 := by
  obtain ⟨hq, hb, hfloor, hlog⟩ := accrueMoney_effects h
  rw [clockMoved_cal, clockMoved_log, clockMoved_bill, hlog]
  exact ⟨hq, hb, hfloor, rfl, rfl⟩

theorem clockMoved_uncharged (h : s.cal.t ≤ s.bill.h) :
    (clockMoved x o s).bill.q = s.bill.q ∧ (clockMoved x o s).bill.b = s.bill.b ∧
      (clockMoved x o s).bill.floor = s.bill.floor ∧
      (clockMoved x o s).cal.hold = (s.log.stageFrom s.cal.hold 4 (clockRecord s.cal.t s.cal.offset x o)).1 ∧
      (clockMoved x o s).log = (s.log.stageFrom s.cal.hold 4 (clockRecord s.cal.t s.cal.offset x o)).2 := by
  rw [clockMoved_cal, clockMoved_log, clockMoved_bill, accrueMoney_of_le h]
  exact ⟨rfl, rfl, rfl, rfl, rfl⟩

theorem clockMoved_evaluated : CreditEvaluated s.bill.emergency s.sw.set.credit (clockMoved x o s) := by
  have hcredit := creditEvaluated_evaluate (rebased x o s)
  rw [show (rebased x o s).sw = s.sw from accrueMoney_sw ..,
    show (rebased x o s).bill.emergency = s.bill.emergency from accrueMoney_emergency ..] at hcredit
  exact hcredit

theorem clockMoved_frame :
    clockMoved x o s =
      { s with
        cal := (clockMoved x o s).cal, bill := (clockMoved x o s).bill, log := (clockMoved x o s).log,
        sw := (clockMoved x o s).sw, alert := (clockMoved x o s).alert } := by
  unfold clockMoved stageCalendar rebased
  exact State.eq_of

theorem clockMoved_waiting : evidenceWaiting (clockMoved x o s) = evidenceWaiting { s with cal := (clockMoved x o s).cal } := by
  have hsw : (clockMoved x o s).sw.waiting = s.sw.waiting := by
    refine (evaluate_waiting (rebased x o s)).trans ?_
    rw [show (rebased x o s).sw = s.sw from accrueMoney_sw ..]
  have htamper : (clockMoved x o s).tamper = s.tamper := by rw [clockMoved_frame]
  unfold evidenceWaiting
  rw [hsw, htamper]

theorem latchedSame_clockMoved : LatchedSame s (clockMoved x o s) :=
  LatchedSame.trans (.of_alert (accrueMoney_alert ..)) ((latchedSame_evaluate (rebased x o s)).trans (.of_alert rfl))

end Moved

/-! ### A clock set finds the same money and the same records with another pending tariff -/

/-- The state with another pending slot. -/
def withSlot (k : PendingSlot) (s : State) : State := { s with tariff := { s.tariff with slot := k } }

section Slot

variable (k : PendingSlot) (s : State)

theorem reduce_withSlot (w : Nat) : reduce w (withSlot k s) = withSlot k (reduce w s) := by
  unfold reduce withSlot
  dsimp only
  split <;> rfl

theorem accrueMoney_withSlot (t : Nat) : accrueMoney t (withSlot k s) = withSlot k (accrueMoney t s) := by
  by_cases h : s.bill.h < t
  · rw [accrueMoney_of_lt h, accrueMoney_of_lt (s := withSlot k s) h]
    exact reduce_withSlot k (charged t s) _
  · rw [accrueMoney_of_le (not_lt.mp h), accrueMoney_of_le (s := withSlot k s) (not_lt.mp h)]

variable (x : Nat) (o : Int)

theorem rebased_withSlot : rebased x o (withSlot k s) = withSlot k (rebased x o s) := by
  unfold rebased
  rw [show (withSlot k s).cal = s.cal from rfl, accrueMoney_withSlot]
  simp [withSlot]

theorem clockMoved_withSlot :
    (clockMoved x o (withSlot k s)).cal = (clockMoved x o s).cal ∧
      (clockMoved x o (withSlot k s)).log = (clockMoved x o s).log ∧
      (clockMoved x o (withSlot k s)).bill = (clockMoved x o s).bill ∧
      (clockMoved x o (withSlot k s)).sw.set = (clockMoved x o s).sw.set := by
  have hcal : (clockMoved x o (withSlot k s)).cal = (clockMoved x o s).cal := by
    rw [clockMoved_cal, clockMoved_cal, show (withSlot k s).cal = s.cal from rfl, accrueMoney_withSlot]
    rfl
  have hlog : (clockMoved x o (withSlot k s)).log = (clockMoved x o s).log := by
    rw [clockMoved_log, clockMoved_log, show (withSlot k s).cal = s.cal from rfl, accrueMoney_withSlot]
    rfl
  have hcredit : (clockMoved x o (withSlot k s)).sw.set.credit = (clockMoved x o s).sw.set.credit := by
    change (evaluate (rebased x o (withSlot k s))).sw.set.credit = (evaluate (rebased x o s)).sw.set.credit
    rw [rebased_withSlot, evaluate_credit, evaluate_credit]
    rfl
  have hemergency : (clockMoved x o (withSlot k s)).bill.emergency = (clockMoved x o s).bill.emergency := by
    change (evaluate (rebased x o (withSlot k s))).bill.emergency = (evaluate (rebased x o s)).bill.emergency
    rw [rebased_withSlot, evaluate_emergency, evaluate_emergency]
    rfl
  have hdeferral : (clockMoved x o (withSlot k s)).bill.deferral = (clockMoved x o s).bill.deferral := by
    change (evaluate (rebased x o (withSlot k s))).bill.deferral = (evaluate (rebased x o s)).bill.deferral
    rw [rebased_withSlot, evaluate_deferral, evaluate_deferral]
    rfl
  refine ⟨hcal, hlog, ?_, ?_⟩
  · rw [clockMoved_bill, clockMoved_bill x o s, hemergency, hdeferral, show (withSlot k s).cal = s.cal from rfl,
      accrueMoney_withSlot]
    rfl
  · rw [clockMoved_set, clockMoved_set x o s, hcredit]
    rfl

end Slot

theorem creditEvaluated_congr {before after : Emergency} {wasIn : Bool} {t : State}
    (hsame : before = .inUse ↔ after = .inUse) (h : CreditEvaluated before wasIn t) : CreditEvaluated after wasIn t := by
  obtain ⟨hemergency, hrest⟩ := h
  simp only [hsame] at hemergency
  exact ⟨hemergency, hrest⟩

/-- A clock set that makes the armed tariff due activates it behind the moved clock (R57, R58, R158). -/
theorem clockMoved_activated {n : Tariff} {time x : Nat} {o : Int} {s : State} (hslot : s.tariff.slot = .armed n time)
    (hdue : time ≤ x) : activationTest (clockMoved x o s) = activate n (clockMoved x o s) := by
  have htariff : (clockMoved x o s).tariff = s.tariff := by rw [clockMoved_frame]
  refine activationTest_of_due (by rw [htariff, hslot]) ?_ ?_
  · rw [clockMoved_cal]
  · rw [clockMoved_cal]
    exact hdue

theorem clockMoved_unarmed (x : Nat) (o : Int) (s : State) :
    activationTest (clockMoved x o (withSlot .empty s)) = clockMoved x o (withSlot .empty s) := by
  refine activationTest_of_not_armed ?_
  rw [clockMoved_frame]
  nofun

theorem activated_behind_clockSet_tariff {n : Tariff} (x : Nat) (o : Int) {s : State} (hoverload : s.mlr.overload < 5) :
    let t := activate n (clockMoved x o s)
    t.tariff.active = n ∧ t.tariff.slot = .empty ∧ t.tariff.commissioned = true ∧ t.tariff.imageState = .writing ∧
      (s.tariff.imageState = .writing →
        t.tariff.imageRequest = true ∧ t.tariff.imageWriting = s.tariff.imageWriting ∧ t.tariff.image = s.tariff.image) ∧
      (s.tariff.imageState ≠ .writing →
        t.tariff.imageRequest = false ∧ t.tariff.imageWriting = some ⟨n, 0⟩ ∧ t.tariff.image = .failing) := by
  have hframe := clockMoved_frame x o s
  have hmlr : (clockMoved x o s).mlr = s.mlr := by rw [hframe]
  have htariff : (clockMoved x o s).tariff = s.tariff := by rw [hframe]
  obtain ⟨hactivated, -⟩ := activate_sets (n := n) (s := clockMoved x o s) (by rw [hmlr]; exact hoverload)
  have hsets := requestImage_sets
    { clockMoved x o s with
      tariff := { (clockMoved x o s).tariff with active := n, slot := .empty, commissioned := true } }
  rw [← hactivated] at hsets
  simp only [htariff] at hsets
  exact hsets

/-- What the activation behind a clock set finds and leaves, against the same clock set with an empty slot. -/
theorem activated_behind_clockSet {n : Tariff} (x : Nat) (o : Int) {s : State} (hoverload : s.mlr.overload < 5) :
    let u := clockMoved x o (withSlot .empty s)
    let t := activate n (clockMoved x o s)
    t.cal = u.cal ∧
      t.bill = { u.bill with emergency := t.bill.emergency, deferral := t.bill.deferral } ∧
      t.log = u.log.offerRoutine (evidenceWaiting u) { time := x, valid := true, kind := .tariffActivated } ∧
      t.sw.set =
        { u.sw.set with
          credit := t.sw.set.credit, uncommissioned := u.sw.set.uncommissioned && s.tariff.commissioned } ∧
      (∀ p, Signalled (.latched .tariffActivated) (u.alert.ports.get p) (t.alert.ports.get p)) ∧
      CreditEvaluated s.bill.emergency u.sw.set.credit t ∧
      t = { s with cal := t.cal, bill := t.bill, log := t.log, sw := t.sw, alert := t.alert,
                   tariff := t.tariff, supmon := { s.supmon with request := true },
                   mlr := { s.mlr with overload := if n.policy.ilim = 0 then 0 else s.mlr.overload } } := by
  intro u t
  obtain ⟨hcal, hlog, hbill, hset⟩ := clockMoved_withSlot .empty s x o
  have hframe := clockMoved_frame x o s
  have hmlr : (clockMoved x o s).mlr = s.mlr := by rw [hframe]
  have hsupmon : (clockMoved x o s).supmon = s.supmon := by rw [hframe]
  have hcommissioned : (clockMoved x o s).tariff = s.tariff := by rw [hframe]
  obtain ⟨-, hset', hlog', hsupmon', hbill', hcredit, hmlr'⟩ :=
    activate_sets (n := n) (s := clockMoved x o s) (by rw [hmlr]; exact hoverload)
  have hframe' := activate_frame (n := n) (s := clockMoved x o s) (by rw [hmlr]; exact hoverload)
  have hwaiting : evidenceWaiting (clockMoved x o s) = evidenceWaiting u := by
    rw [clockMoved_waiting, clockMoved_waiting, hcal]
    rfl
  have hcal' := congrArg State.cal hframe'
  have hnow : recordNow .tariffActivated (clockMoved x o s) = { time := x, valid := true, kind := .tariffActivated } := by
    rw [recordNow, clockMoved_cal]
  refine ⟨hcal'.trans hcal.symm, ?_, ?_, ?_, fun p => ?_, ?_, ?_⟩
  · rw [hbill]
    exact hbill'
  · rw [hlog, ← hwaiting, ← hnow]
    exact hlog'
  · rw [hset, ← hcommissioned]
    exact hset'
  · have hbefore : LatchedSame u (clockMoved x o s) := fun p k =>
      (latchedSame_clockMoved x o s p k).trans (latchedSame_clockMoved x o (withSlot .empty s) p k).symm
    exact .of_latchedSame hbefore (signalled_activate n p _) (.of_alert rfl)
  · have hbefore : (clockMoved x o s).bill.emergency = .inUse ↔ s.bill.emergency = .inUse := by
      change (evaluate (rebased x o s)).bill.emergency = .inUse ↔ _
      rw [evaluate_emergency, recomputed_inUse_iff]
      exact iff_of_eq (congrArg (· = Emergency.inUse) (accrueMoney_emergency ..))
    rw [hset]
    exact creditEvaluated_congr hbefore hcredit
  · have hparts : t = { clockMoved x o s with
        tariff := t.tariff, sw := t.sw, log := t.log, alert := t.alert, supmon := { s.supmon with request := true },
        bill := t.bill, mlr := { s.mlr with overload := if n.policy.ilim = 0 then 0 else s.mlr.overload } } := by
      rw [← hsupmon, ← hmlr, ← hsupmon', ← hmlr']
      exact hframe'
    rw [hparts, hframe]

/-- Settles O43, by the offset, by the money of the accrual, and by the slot that the new clock makes due. -/
theorem clockSetMoves : Obligations.ClockSetMoves := by
  intro x o s hready hgap haccrual
  refine ⟨fun hbad => ?refused, fun hlow hhigh hstep hearly => ?moved,
    fun n time hlow hhigh hstep hslot hdue hoverload => ?activates⟩
  case refused =>
    exact exec_clockSet_refused hready (by rw [← Bool.not_eq_true, offsetTaken_iff]; omega)
  case moved =>
    have hexec := exec_clockSet (x := x) hready hgap haccrual ((offsetTaken_iff o.toInt).mpr ⟨hlow, hhigh, hstep⟩)
    set u := clockMoved x.toNat o.toInt (s.take (.clockSet .network x o)) with hu
    have hcal : u.cal = _ := clockMoved_cal x.toNat o.toInt (s.take (.clockSet .network x o))
    have hlog : u.log = _ := clockMoved_log x.toNat o.toInt (s.take (.clockSet .network x o))
    have hbill : u.bill = _ := clockMoved_bill x.toNat o.toInt (s.take (.clockSet .network x o))
    have htest : activationTest u = u := by
      have htariff : u.tariff = s.tariff := by rw [hu, clockMoved_frame]; rfl
      cases hs : s.tariff.slot with
      | armed n time => exact activationTest_of_not_due (by rw [htariff, hs]) (.inr (by rw [hcal]; exact hearly n time hs))
      | empty | assembling _ => exact activationTest_of_not_armed (by rw [htariff, hs]; nofun)
    rw [htest] at hexec
    have hholds : u.cal = { s.cal with t := x.toNat, offset := o.toInt, valid := true, hold := u.cal.hold } := by
      rw [hcal]
      rfl
    refine ⟨u, hexec, hholds, by rw [hbill], by rw [hbill, accrueMoney_r]; rfl, by rw [hbill, accrueMoney_d]; rfl,
      fun habove => ?_, fun hbelow => ?_,
      clockMoved_evaluated x.toNat o.toInt (s.take (.clockSet .network x o)),
      clockMoved_set x.toNat o.toInt (s.take (.clockSet .network x o)),
      clockMoved_frame x.toNat o.toInt (s.take (.clockSet .network x o))⟩
    · exact clockMoved_charged x.toNat o.toInt (s.take (.clockSet .network x o)) habove
    · exact clockMoved_uncharged x.toNat o.toInt (s.take (.clockSet .network x o)) hbelow
  case activates =>
    have ho := (offsetTaken_iff o.toInt).mpr ⟨hlow, hhigh, hstep⟩
    have hexec := exec_clockSet (x := x) hready hgap haccrual ho
    have hready' : Ready .network (withSlot .empty s) := hready
    have hexec' := exec_clockSet (s := withSlot .empty s) (x := x) hready' hgap haccrual ho
    rw [clockMoved_activated (s := s.take (.clockSet .network x o)) hslot hdue] at hexec
    have hunarmed := clockMoved_unarmed x.toNat o.toInt (s.take (.clockSet .network x o))
    obtain ⟨hcal, hbill, hlog, hset, hsignalled, hcredit, hframe⟩ :=
      activated_behind_clockSet (n := n) x.toNat o.toInt (s := s.take (.clockSet .network x o)) hoverload
    obtain ⟨hactive, hempty, hcommissioned, hstate, hwriting, hstarted⟩ :=
      activated_behind_clockSet_tariff (n := n) x.toNat o.toInt (s := s.take (.clockSet .network x o)) hoverload
    refine ⟨clockMoved x.toNat o.toInt (withSlot .empty (s.take (.clockSet .network x o))), ?_, _, hexec, hcal, hbill, hactive,
      hempty, hcommissioned, hstate, hwriting, hstarted, hlog, hset, hsignalled .meter, hsignalled .network, hcredit, hframe⟩
    rw [← hunarmed]
    exact hexec'

/-! ## The lookups (R47 to R49, R162) -/

theorem specialDate_iff (tar : Tariff) (day : Int) : specialDate tar day = true ↔ ∃ d ∈ tar.restDays.dates, (d : Int) = day := by
  simp [specialDate]

theorem friendlyUnder_iff (tar : Tariff) (t : Nat) (o : Int) :
    friendlyUnder tar t o true = true ↔
      ∃ w ∈ tar.friendly.windows,
        (if ∃ d ∈ tar.restDays.dates, (d : Int) = localDay t o then w.mask.getLsbD 7 = true
         else w.mask.getLsbD (localWeekday t o) = true) ∧
        w.start ≤ localMinute t o ∧ localMinute t o < w.stop := by
  simp only [friendlyUnder, Bool.true_and, List.any_eq_true, windowActive, Bool.and_eq_true, decide_eq_true_eq, and_assoc,
    ← specialDate_iff]
  refine exists_congr fun w => and_congr_right fun _ => and_congr_left fun _ => ?_
  split <;> rfl

/-- The switch point with the greatest minute at or below m among those seen (R48). -/
def LatestAt (m : Nat) (seen : List SwitchPoint) : Option SwitchPoint → Prop
  | none => ∀ q ∈ seen, ¬q.minute ≤ m
  | some p => p ∈ seen ∧ p.minute ≤ m ∧ ∀ q ∈ seen, q.minute ≤ m → q.minute ≤ p.minute

theorem latestAt_laterPoint {m : Nat} {seen : List SwitchPoint} {best : Option SwitchPoint} (p : SwitchPoint)
    (h : LatestAt m seen best) : LatestAt m (seen ++ [p]) (laterPoint m best p) := by
  unfold laterPoint
  by_cases hp : p.minute ≤ m
  · rw [if_pos hp]
    cases best with
    | none =>
      refine ⟨by simp, hp, fun q hq hle => ?_⟩
      rcases List.mem_append.mp hq with hseen | hlast
      · exact absurd hle (h q hseen)
      · rw [List.mem_singleton.mp hlast]
    | some b =>
      obtain ⟨hmem, hle, hgreatest⟩ := h
      dsimp only
      split
      next hbp =>
        refine ⟨by simp, hp, fun q hq hqm => ?_⟩
        rcases List.mem_append.mp hq with hseen | hlast
        · exact (hgreatest q hseen hqm).trans hbp
        · rw [List.mem_singleton.mp hlast]
      next hbp =>
        refine ⟨by simp [hmem], hle, fun q hq hqm => ?_⟩
        rcases List.mem_append.mp hq with hseen | hlast
        · exact hgreatest q hseen hqm
        · rw [List.mem_singleton.mp hlast]
          exact (not_le.mp hbp).le
  · rw [if_neg hp]
    cases best with
    | none =>
      intro q hq
      rcases List.mem_append.mp hq with hseen | hlast
      · exact h q hseen
      · rwa [List.mem_singleton.mp hlast]
    | some b =>
      obtain ⟨hmem, hle, hgreatest⟩ := h
      refine ⟨by simp [hmem], hle, fun q hq hqm => ?_⟩
      rcases List.mem_append.mp hq with hseen | hlast
      · exact hgreatest q hseen hqm
      · exact absurd (List.mem_singleton.mp hlast ▸ hqm) hp

theorem latestAt_foldl {m : Nat} (ps : List SwitchPoint) {seen : List SwitchPoint} {best : Option SwitchPoint}
    (h : LatestAt m seen best) : LatestAt m (seen ++ ps) (ps.foldl (laterPoint m) best) := by
  induction ps generalizing seen best with
  | nil => rwa [List.append_nil]
  | cons p ps ih =>
    rw [List.append_cons]
    exact ih (latestAt_laterPoint p h)

/-- A sound profile begins at minute 0, so at every minute some switch point decides the band (R48, R53). -/
theorem bandAt_of_sound {profile : List SwitchPoint} (m : Nat) (h : profileSound profile = true) :
    ∃ p ∈ profile, p.minute ≤ m ∧ bandAt profile m = p.band ∧ ∀ q ∈ profile, q.minute ≤ m → q.minute ≤ p.minute := by
  have hlatest : LatestAt m profile (profile.foldl (laterPoint m) none) := latestAt_foldl (seen := []) profile nofun
  unfold bandAt
  cases hfound : profile.foldl (laterPoint m) none with
  | some p =>
    rw [hfound] at hlatest
    obtain ⟨hmem, hle, hgreatest⟩ := hlatest
    exact ⟨p, hmem, hle, rfl, hgreatest⟩
  | none =>
    rw [hfound] at hlatest
    cases profile with
    | nil => simp [profileSound] at h
    | cons p ps =>
      simp only [profileSound, Bool.and_eq_true, decide_eq_true_eq] at h
      exact absurd (h.1.le.trans (Nat.zero_le m)) (hlatest p (by simp))

theorem profiles_sound {tar : Tariff} (h : tar.valid = true) :
    profileSound tar.workday = true ∧ profileSound tar.restday = true := by
  unfold Tariff.valid firstFailingGroup at h
  cases hwork : profileSound tar.workday <;> cases hrest : profileSound tar.restday <;> simp [hwork, hrest] at h ⊢

theorem exec_readClock {p : Port} {s : State} (h : Ready p s) :
    exec (.readClock p) s =
      .next
        (respond p
          ⟨.ok,
           beNat 4 s.cal.t ++ beInt 2 s.cal.offset ++ flagByte [s.cal.valid] ++
           beInt 2 (localDay s.cal.t s.cal.offset) ++ beNat 1 (localWeekday s.cal.t s.cal.offset) ++
           beNat 2 (localMinute s.cal.t s.cal.offset) ++ [dayTypeByte s] ++ beNat 1 (bandCode (bandInForce s)) ++
           flagByte [friendlyNow s]⟩ (s.take (.readClock p))) := by
  unfold exec
  exact readOnly_ready h

/-- Settles O45, by the valid flag of the clock. -/
theorem lookupsAnswered : Obligations.LookupsAnswered := by
  refine ⟨fun tar t o => ⟨rfl, rfl, friendlyUnder_iff tar t o, ?dayType⟩, fun tar t o hvalid => ?band,
    fun p s hready hvalid => ?valid, fun p s hready hinvalid => ?invalid⟩
  case dayType => rw [dayType_restday_iff, specialDate_iff]
  case band =>
    obtain ⟨hwork, hrest⟩ := profiles_sound hvalid
    rw [bandUnder_valid]
    refine bandAt_of_sound _ ?_
    split
    · exact hrest
    · exact hwork
  case valid =>
    have hday : dayTypeByte s =
        match dayType s.active (localDay s.cal.t s.cal.offset) (localWeekday s.cal.t s.cal.offset) with
        | .workday => Config.dayTypeCode false
        | .restday => Config.dayTypeCode true := if_pos hvalid
    rw [exec_readClock hready, bandInForce, friendlyNow, hday, hvalid]
    rfl
  case invalid =>
    have hday : dayTypeByte s = Config.undecidedDayType s.cal.t s.cal.offset := by
      rw [dayTypeByte, hinvalid]
      rfl
    have hvalidByte : flagByte [false] = [0#8] := rfl
    have hband : beNat 1 (bandCode (bandUnder s.active s.cal.t s.cal.offset false)) = [0#8] := beNat_one _
    have hfriendly : flagByte [friendlyUnder s.active s.cal.t s.cal.offset false] = [0#8] := rfl
    rw [exec_readClock hready, bandInForce, friendlyNow, hday, hinvalid, hvalidByte, hband, hfriendly]
    simp only [List.append_assoc, List.cons_append, List.nil_append]

end Sys2Proof.Machine

/-! PROOF. The supply events, the stop of the main domain and the checkpoint writes (09). -/

namespace Sys2Proof.Machine

/-! ## Brown-outs (R96, R97, R99, R107) -/

/-- A brown-out withholds every permit, so SWITCH stays as it is (R96). -/
theorem settleSwitch_of_brownOut {s : State} (w : Switch) (h : s.supmon.brownOut = true) : (settleSwitch w s).sw = w := by
  cases hcoil : w.coil with
  | none => exact advance_of_not_waiting _ (.inl hcoil)
  | some c =>
    refine settleSwitch_of_withheld hcoil ?_
    unfold permits
    simp [h]

/-- SWITCH as a brown-out leaves it (R97, R99, R107). -/
def brownedOut (w : Switch) : Switch :=
  { w.losePermit true with
    holdOff := if (w.losePermit true).holdOff.running then .started else (w.losePermit true).holdOff }

theorem exec_brownOutStart {s : State} (hgood : mainGood s = true) :
    exec .brownOutStart s =
      .next (settleSwitch (brownedOut s.sw)
        { s.take .brownOutStart with
          supmon := { s.supmon with brownOut := true }, pins := { s.pins with vmainGood := false } }) := by
  change execBrownOutStart s = _
  rw [execBrownOutStart, inMain_good hgood]
  rfl

theorem exec_brownOutEnd {s : State} (hgood : mainGood s = true) :
    exec .brownOutEnd s =
      .next (settleSwitch s.sw
        { s.take .brownOutEnd with
          supmon := { s.supmon with brownOut := false }, pins := { s.pins with vmainGood := true } }) := by
  change execBrownOutEnd s = _
  rw [execBrownOutEnd, inMain_good hgood]
  rfl

theorem losePermit_of_ne {w : Switch} (cuts : Bool) (hpulse : w.phase ≠ some .pulse) (hdead : w.phase ≠ some .deadTime) :
    w.losePermit cuts = w := by
  unfold Switch.losePermit
  split
  · next h => exact absurd h hdead
  · next h => exact absurd h hpulse
  · rfl

theorem losePermit_keeps (w : Switch) :
    (w.losePermit true).state = w.state ∧ (w.losePermit true).set = w.set ∧
      (w.losePermit true).attempts = w.attempts ∧ (w.losePermit true).holdOff = w.holdOff ∧
      (w.losePermit true).phase ≠ some .pulse := by
  by_cases hpulse : w.phase = some .pulse
  · rw [losePermit_of_pulse true hpulse, if_pos rfl, cutPulse_of_pulse hpulse]
    exact ⟨rfl, rfl, rfl, rfl, nofun⟩
  · by_cases hdead : w.phase = some .deadTime
    · rw [losePermit_of_deadTime true hdead]
      exact ⟨rfl, rfl, rfl, rfl, nofun⟩
    · rw [losePermit_of_ne true hpulse hdead]
      exact ⟨rfl, rfl, rfl, rfl, hpulse⟩

theorem brownedOut_phase (w : Switch) :
    (w.phase = some .pulse →
        (brownedOut w).phase = some .waitPermit ∧ (brownedOut w).deadCoil = w.coil ∧ (brownedOut w).deadMs = 0) ∧
      (w.phase ≠ some .pulse → (brownedOut w).deadCoil = w.deadCoil ∧ (brownedOut w).deadMs = w.deadMs) ∧
      (w.phase = some .deadTime → (brownedOut w).phase = some .waitPermit) ∧
      (w.phase ≠ some .pulse → w.phase ≠ some .deadTime → (brownedOut w).phase = w.phase) := by
  unfold brownedOut
  refine ⟨fun h => ?_, fun h => ?_, fun h => ?_, fun hpulse hdead => ?_⟩
  · rw [losePermit_of_pulse true h, if_pos rfl, cutPulse_of_pulse h]
    exact ⟨rfl, rfl, rfl⟩
  · by_cases hdead : w.phase = some .deadTime
    · rw [losePermit_of_deadTime true hdead]
      exact ⟨rfl, rfl⟩
    · rw [losePermit_of_ne true h hdead]
      exact ⟨rfl, rfl⟩
  · rw [losePermit_of_deadTime true h]
  · rw [losePermit_of_ne true hpulse hdead]

theorem brownedOut_keeps (w : Switch) :
    (brownedOut w).state = w.state ∧ (brownedOut w).set = w.set ∧ (brownedOut w).attempts = w.attempts ∧
      (brownedOut w).phase ≠ some .pulse := by
  obtain ⟨hstate, hset, hattempts, -, hcut⟩ := losePermit_keeps w
  exact ⟨hstate, hset, hattempts, hcut⟩

theorem brownedOut_holdOff (w : Switch) :
    (w.holdOff.running = true → (brownedOut w).holdOff = .started) ∧
      (w.holdOff.running = false → (brownedOut w).holdOff = w.holdOff) := by
  obtain ⟨-, -, -, hhold, -⟩ := losePermit_keeps w
  unfold brownedOut
  rw [hhold]
  exact ⟨fun h => if_pos h, fun h => if_neg (by simp [h])⟩

theorem settleSwitch_holdOff (w : Switch) (s : State) : (settleSwitch w s).sw.holdOff = w.holdOff := by
  rw [settleSwitch_sw, advance_frame]

/-! ## The events of a stopped main domain (R164 to R166) -/

theorem mainFailure_restoring {s : State} (h : s.supmon.supply = .restoring) :
    mainFailure s =
      setSupply .mainFailed (some .outage) .stopped
        (if s.supmon.origin = some .pin then storeFailure (setVmain false { s with handed := [] })
         else setVmain false { s with handed := [] }) := by
  unfold mainFailure
  rw [h]

/-- Settles O46, by the supply state and the phase that a brown-out meets. -/
theorem supplyEvents : Obligations.SupplyEvents := by
  refine ⟨fun s hgood => ⟨?brownOut, ?regained⟩, fun s hfailed => ?failed, fun s hrestoring => ?restoring,
    fun s hrestoring => ?drops, fun s hstopped => ?backup⟩
  case brownOut =>
    have hsw := settleSwitch_of_brownOut (brownedOut s.sw) (s := { s.take .brownOutStart with
      supmon := { s.supmon with brownOut := true }, pins := { s.pins with vmainGood := false } }) rfl
    obtain ⟨hpulse, hnopulse, hdead, hother⟩ := brownedOut_phase s.sw
    obtain ⟨hrunning, hidle⟩ := brownedOut_holdOff s.sw
    obtain ⟨hstate, hset, hattempts, hcut⟩ := brownedOut_keeps s.sw
    rw [← hsw] at hpulse hnopulse hdead hother hrunning hidle hstate hset hattempts hcut
    exact ⟨_, exec_brownOutStart hgood, rfl, hpulse, hnopulse, hdead, hother, hcut, hstate, hset, hattempts, hrunning,
      hidle, rfl⟩
  case regained =>
    set u : State := { s.take .brownOutEnd with
      supmon := { s.supmon with brownOut := false }, pins := { s.pins with vmainGood := true } } with hu
    obtain ⟨hset, -, -, -, -, -, -, hstate⟩ := settleSwitch_keeps s.sw u
    refine ⟨_, exec_brownOutEnd hgood, rfl, hstate, hset, settleSwitch_holdOff s.sw u,
      fun hwait hdead => settleSwitch_of_not_waiting ⟨hwait, hdead⟩, fun coil hcoil hphase hcrdy hcinhn hhold => ?_, rfl⟩
    have hyes : permits { u with sw := s.sw } coil = true :=
      (permits_iff (s := u) hgood s.sw coil).mpr ⟨hcrdy, hcinhn, rfl, hhold⟩
    exact ⟨settleSwitch_of_met hcoil (.inl hphase) hyes, settleSwitch_of_not_met hcoil (.inl hphase) hyes⟩
  case failed =>
    refine ⟨?_, ?_, ?_, ?_⟩
    · change execVmainRise s = _
      rw [execVmainRise, vmainRise, hfailed]
      rfl
    · change execVcellLow s = _
      rw [execVcellLow, if_pos hfailed]
      rfl
    · change execResetnAssert s = _
      rw [execResetnAssert, resetAssert, hfailed]
      rfl
    · change execResetnRelease s = _
      rw [execResetnRelease, resetRelease, hfailed]
      rfl
  case restoring =>
    refine ⟨?_, fun horigin => ?_, fun horigin => ?_⟩
    · change execVmainRise s = _
      rw [execVmainRise, vmainRise, hrestoring]
      simp only [setSupply, setVmain, timerIf, ← hrestoring]
    · change execMainFailure s = _
      rw [execMainFailure, mainFailure_restoring hrestoring, if_neg horigin]
      rfl
    · change execMainFailure s = _
      rw [execMainFailure, mainFailure_restoring hrestoring, if_pos horigin]
      rfl
  case drops =>
    refine ⟨?_, ?_, ?_⟩
    · change execVmainDropRestoring s = _
      rw [execVmainDropRestoring, vmainDrop, hrestoring]
      simp only [setSupply, setVmain, ← hrestoring]
    · change execResetnAssert s = _
      rw [execResetnAssert, resetAssert, hrestoring]
      simp only [setSupply, setResetn, ← hrestoring]
    · change execResetnRelease s = _
      rw [execResetnRelease, resetRelease, hrestoring]
      cases hvmain : s.pins.vmainGood with
      | true => simp [setSupply, setResetn, ← hrestoring]
      | false => simp [setResetn]
  case backup =>
    change execBackupPowerUp s = _
    simp only [execBackupPowerUp, mainGood, hstopped, beq_iff_eq, if_false]
    rfl

/-! ## The requests that are taken before the stop (R18, R24) -/

/-- The state with other levels of VMAIN and RESETN. -/
def withPower (v r : Bool) (s : State) : State := { s with pins := { s.pins with vmainGood := v, resetn := r } }

section Power

variable (v r : Bool) (s : State)

theorem demand_withPower (m : Member) (add : Bool) : demand m add (withPower v r s) = withPower v r (demand m add s) := by
  unfold demand withPower
  dsimp only
  split
  · rfl
  · split <;> rfl

/-- The state that the CREDIT demand finds in an evaluation: the deferral flag is settled (R37). -/
def deferralSettled (s : State) : State :=
  { s with
    bill := { s.bill with
      deferral := friendlyNow s && !s.sw.set.credit && decide (s.bill.b < exhaustion s) &&
        decide (exhaustion s - s.active.friendly.allowance ≤ s.bill.b) } }

/-- The CREDIT demand of an evaluation (R37). -/
def creditDemanded (s : State) : State :=
  if exhaustion s ≤ s.bill.b then demand .credit false (deferralSettled s)
  else if (deferralSettled s).bill.deferral then deferralSettled s else demand .credit true (deferralSettled s)

theorem evaluateCredit_eq :
    evaluateCredit s = present .creditExhausted (creditDemanded s).sw.set.credit (creditDemanded s) := rfl

theorem creditDemanded_withPower : creditDemanded (withPower v r s) = withPower v r (creditDemanded s) := by
  have hsame : deferralSettled (withPower v r s) = withPower v r (deferralSettled s) := rfl
  unfold creditDemanded
  rw [hsame, demand_withPower, demand_withPower]
  by_cases hcovered : exhaustion s ≤ s.bill.b
  · rw [if_pos hcovered]
    exact if_pos hcovered
  · rw [if_neg hcovered]
    refine (if_neg hcovered).trans ?_
    cases hdeferral : (deferralSettled s).bill.deferral with
    | true => exact if_pos hdeferral
    | false => exact if_neg (Bool.eq_false_iff.mp hdeferral)

theorem evaluateCredit_withPower : evaluateCredit (withPower v r s) = withPower v r (evaluateCredit s) := by
  rw [evaluateCredit_eq, creditDemanded_withPower]
  rfl

theorem evaluate_withPower : evaluate (withPower v r s) = withPower v r (evaluate s) := by
  rw [evaluate_eq, evaluate_eq, ← evaluateCredit_withPower]
  rfl

theorem reduce_withPower (w : Nat) : reduce w (withPower v r s) = withPower v r (reduce w s) := by
  unfold reduce withPower
  dsimp only
  split <;> rfl

theorem gapAccrue_withPower (t : Nat) : gapAccrue t (withPower v r s) = withPower v r (gapAccrue t s) := by
  unfold gapAccrue
  rw [← evaluate_withPower]
  refine congrArg evaluate ?_
  by_cases h : s.bill.h < t
  · rw [accrueMoney_of_lt h, accrueMoney_of_lt (s := withPower v r s) h, ← reduce_withPower]
    rfl
  · rw [accrueMoney_of_le (not_lt.mp h), accrueMoney_of_le (s := withPower v r s) (not_lt.mp h)]

theorem debit_withPower (e : Nat) : debit e (withPower v r s) = withPower v r (debit e s) := by
  rw [debit_eq, debit_eq, ← evaluate_withPower, ← reduce_withPower]
  rfl

end Power

/-- What the drain of the gap accruals and the drain of the debits do with one request that waits. -/
def gapDrained (s : State) (i : Instr) : State :=
  match i with
  | .gapAccrual t => gapAccrue t.toNat (s.take i)
  | _ => s

def debitDrained (s : State) (i : Instr) : State :=
  match i with
  | .debitRequest e => debit e (s.take i)
  | _ => s

theorem settleGap_eq (s : State) : settleGap s = s.handed.foldl gapDrained s := rfl

theorem drainDebits_eq (s : State) : drainDebits s = s.handed.foldl debitDrained (settleGap s) := rfl

theorem foldl_gapDrained_none {l : List Instr} (s : State) (h : ∀ t, Instr.gapAccrual t ∉ l) : l.foldl gapDrained s = s :=
  foldl_gap_none l s h

theorem foldl_debitDrained_none {l : List Instr} (s : State) (h : ∀ e, Instr.debitRequest e ∉ l) :
    l.foldl debitDrained s = s := by
  induction l generalizing s with
  | nil => rfl
  | cons i l ih =>
    have hl : ∀ e, Instr.debitRequest e ∉ l := fun e he => h e (List.mem_cons_of_mem _ he)
    rw [List.foldl_cons]
    cases i
    case debitRequest e => exact absurd List.mem_cons_self (h e)
    all_goals exact ih _ hl

theorem drainDebits_none {s : State} (hgap : NoGapWaits s) (hdebit : NoDebitWaits s) : drainDebits s = s := by
  rw [drainDebits_eq, settleGap_none hgap, foldl_debitDrained_none s hdebit]

/-- With the first gap accrual taken, or the first debit when no gap accrual waits, the drain ends in the same state. -/
theorem drainDebits_first {i : Instr} {before rest : List Instr} {s u : State} (hhanded : s.handed = before ++ i :: rest)
    (hu : u.handed = before ++ rest)
    (h : (∃ x, i = .gapAccrual x ∧ (∀ x, Instr.gapAccrual x ∉ before) ∧ u = gapAccrue x.toNat (s.take i)) ∨
      (∃ e, i = .debitRequest e ∧ NoGapWaits s ∧ (∀ e, Instr.debitRequest e ∉ before) ∧ u = debit e (s.take i))) :
    drainDebits s = drainDebits u := by
  rcases h with ⟨x, rfl, hbefore, heq⟩ | ⟨e, rfl, hgap, hbefore, heq⟩
  · have hgaps : settleGap s = settleGap u := by
      rw [settleGap_eq, settleGap_eq, hhanded, hu, List.foldl_append, List.foldl_append,
        foldl_gapDrained_none _ hbefore, foldl_gapDrained_none _ hbefore, heq]
      rfl
    rw [drainDebits_eq, drainDebits_eq, hgaps, hhanded, hu, List.foldl_append, List.foldl_append]
    rfl
  · have hgap' : NoGapWaits u := fun t ht => hgap t (by
      rw [hu] at ht
      rw [hhanded]
      simpa using ht)
    rw [drainDebits_eq, drainDebits_eq, settleGap_none hgap, settleGap_none hgap', hhanded, hu, List.foldl_append,
      List.foldl_append, foldl_debitDrained_none _ hbefore, foldl_debitDrained_none _ hbefore, heq]
    rfl

/-! ## The stop (R165) -/

theorem exec_mainFailure_good {s : State} (hgood : mainGood s = true) :
    exec .mainFailure s =
      .next (setSupply .mainFailed (some .outage) .stopped (stopMain (storeFailure (drainDebits (setVmain false s))))) := by
  have hsupply : s.supmon.supply = .mainGood := beq_iff_eq.mp hgood
  change execMainFailure s = _
  rw [execMainFailure, mainFailure, hsupply]

theorem exec_resetnAssert_good {s : State} (hgood : mainGood s = true) :
    exec .resetnAssert s =
      .next (setSupply .restoring (some .pin) .stopped (stopMain (drainDebits (setResetn false s)))) := by
  have hsupply : s.supmon.supply = .mainGood := beq_iff_eq.mp hgood
  change execResetnAssert s = _
  rw [execResetnAssert, resetAssert, hsupply]

theorem take_handed_of_first {i : Instr} {before rest : List Instr} {s : State} (h : s.handed = before ++ i :: rest)
    (hi : i ∉ before) : (s.take i).handed = before ++ rest := by
  rw [State.take, h, List.erase_append_right _ hi, List.erase_cons_head]

/-- The first request that the stop would take, taken before it, ends in the same drain (R18, R24). -/
theorem drained_after {i : Instr} {before rest : List Instr} {s u : State} (v r : Bool) (hgood : mainGood s = true)
    (hhanded : s.handed = before ++ i :: rest)
    (h : ((∃ x, i = .gapAccrual x) ∧ ∀ x, Instr.gapAccrual x ∉ before) ∨
      (NoGapWaits s ∧ (∃ e, i = .debitRequest e) ∧ ∀ e, Instr.debitRequest e ∉ before))
    (hexec : exec i s = .next u) :
    mainGood u = true ∧ u.pins = s.pins ∧ drainDebits (withPower v r s) = drainDebits (withPower v r u) := by
  rcases h with ⟨⟨x, rfl⟩, hbefore⟩ | ⟨hgap, ⟨e, rfl⟩, hbefore⟩
  · rw [exec_gapAccrual hgood] at hexec
    cases hexec
    have hkeeps := keeps_gapAccrue x.toNat (s.take (.gapAccrual x))
    have hrest : (gapAccrue x.toNat (s.take (.gapAccrual x))).handed = before ++ rest := by
      rw [gapAccrue_handed]
      exact take_handed_of_first hhanded (hbefore x)
    exact ⟨hkeeps.mainGood.trans hgood, hkeeps.pins,
      drainDebits_first hhanded hrest (.inl ⟨x, rfl, hbefore, (gapAccrue_withPower v r _ _).symm⟩)⟩
  · rw [exec_debitRequest hgood hgap] at hexec
    cases hexec
    have hkeeps := keeps_debit e (s.take (.debitRequest e))
    have hrest : (debit e (s.take (.debitRequest e))).handed = before ++ rest := by
      rw [debit_eq, evaluate_handed, reduce_handed]
      exact take_handed_of_first hhanded (hbefore e)
    exact ⟨hkeeps.mainGood.trans hgood, hkeeps.pins,
      drainDebits_first hhanded hrest (.inr ⟨e, rfl, hgap, hbefore, (debit_withPower v r _ _).symm⟩)⟩

/-- The stop is that of the state behind the first request that it takes (R18, R24). -/
theorem exec_stop_after {c i : Instr} {before rest : List Instr} {s u : State} (hgood : mainGood s = true)
    (hc : c = .mainFailure ∨ c = .resetnAssert) (hhanded : s.handed = before ++ i :: rest)
    (h : ((∃ x, i = .gapAccrual x) ∧ ∀ x, Instr.gapAccrual x ∉ before) ∨
      (NoGapWaits s ∧ (∃ e, i = .debitRequest e) ∧ ∀ e, Instr.debitRequest e ∉ before))
    (hexec : exec i s = .next u) : exec c s = exec c u := by
  rcases hc with rfl | rfl
  · obtain ⟨hgood', hpins, hdrained⟩ := drained_after false s.pins.resetn hgood hhanded h hexec
    have hu : setVmain false u = withPower false s.pins.resetn u := by rw [← hpins]; rfl
    rw [exec_mainFailure_good hgood, exec_mainFailure_good hgood', hu, ← hdrained]
    rfl
  · obtain ⟨hgood', hpins, hdrained⟩ := drained_after s.pins.vmainGood false hgood hhanded h hexec
    have hu : setResetn false u = withPower s.pins.vmainGood false u := by rw [← hpins]; rfl
    rw [exec_resetnAssert_good hgood, exec_resetnAssert_good hgood', hu, ← hdrained]
    rfl

theorem stop_tariff (t : TariffStore) :
    t.stop.imageState = if t.imageWriting = none then t.imageState else .stale := by
  unfold TariffStore.stop
  cases t.imageWriting <;> rfl

theorem stop_supmon (m : Supmon) :
    m.stop =
      { m with brownOut := false, writer := .idle, request := m.request || decide (m.writer ≠ .idle) } := by
  unfold Supmon.stop
  cases hwriter : m.writer with
  | idle => simp [← hwriter]
  | writing slot c ms => simp

theorem stop_sw (w : Switch) :
    w.stop =
        { set := w.set, state := w.stop.state, phase := none, attempts := 0, opTimer := .stopped,
          position := w.stop.position, confirm := w.confirm, fault := w.fault, deadCoil := none, deadMs := 0,
          holdOff := .stopped, overload := .stopped, streak := 0, bypass := .stopped, bypassRaised := false,
          waiting := [] } ∧
      (w.state = .opening ∨ w.state = .closing → w.stop.state = .unknown ∧ w.stop.position = .unknown) ∧
      (w.state ≠ .opening → w.state ≠ .closing → w.stop.state = w.state ∧ w.stop.position = w.position) := by
  unfold Switch.stop
  cases hstate : w.state <;> simp

/-- What a stop leaves of every block, over the state that its own records and pins have been settled in (R165; log entry 45). -/
theorem stopped_effects (st : SupplyState) (origin : Option RestoreOrigin) (v : State) (hst : st ≠ .mainGood) :
    let t := setSupply st origin .stopped (stopMain v)
    t.supmon =
        { v.supmon with
          supply := st, origin := origin, restoreTimer := .stopped, brownOut := false, writer := .idle,
          request := v.supmon.request || decide (v.supmon.writer ≠ .idle) } ∧
      t.tariff =
        { v.tariff with
          imageState := if v.tariff.imageWriting = none then v.tariff.imageState else .stale, imageWriting := none,
          imageRequest := false } ∧
      t.sw = v.sw.stop ∧ ntxd t = none := by
  intro t
  refine ⟨?_, ?_, rfl, ?_⟩
  · change { v.supmon.stop with supply := st, origin := origin, restoreTimer := .stopped } = _
    rw [stop_supmon]
  · rw [← stop_tariff]
    rfl
  · have hstopped : mainGood t = false := beq_eq_false_iff_ne.mpr hst
    rw [ntxd, hstopped]
    rfl

/-- Settles O47, by the first request that the stop takes and by the blocks. -/
theorem mainDomainStops : Obligations.MainDomainStops := by
  refine ⟨fun c i before rest s u hgood hc hhanded h hexec => exec_stop_after hgood hc hhanded h hexec,
    fun c s hgood hgap hdebit hc => ?_⟩
  obtain ⟨hswitch, hflight, hresting⟩ := stop_sw s.sw
  rcases hc with rfl | rfl
  · have hexec := exec_mainFailure_good hgood
    rw [drainDebits_none (s := setVmain false s) hgap hdebit] at hexec
    obtain ⟨hsupmon, htariff, hsw, hline⟩ :=
      stopped_effects .mainFailed (some .outage) (storeFailure (setVmain false s)) nofun
    refine ⟨_, hexec, ?_⟩
    rw [hsupmon, htariff, hsw]
    exact ⟨rfl, rfl, rfl, rfl, rfl, rfl, rfl, rfl, rfl, rfl, rfl, rfl, rfl, rfl, rfl, rfl, rfl, rfl, rfl, rfl, rfl, rfl, rfl,
      rfl, rfl, hswitch, hflight, hresting, rfl, rfl, hline, rfl, rfl, rfl, rfl⟩
  · have hexec := exec_resetnAssert_good hgood
    rw [drainDebits_none (s := setResetn false s) hgap hdebit] at hexec
    obtain ⟨hsupmon, htariff, hsw, hline⟩ := stopped_effects .restoring (some .pin) (setResetn false s) nofun
    refine ⟨_, hexec, ?_⟩
    rw [hsupmon, htariff, hsw]
    exact ⟨rfl, rfl, rfl, rfl, rfl, rfl, rfl, rfl, rfl, rfl, rfl, rfl, rfl, rfl, rfl, rfl, rfl, rfl, rfl, rfl, rfl, rfl, rfl,
      rfl, rfl, hswitch, hflight, hresting, rfl, rfl, hline, rfl, rfl, rfl, rfl⟩

end Sys2Proof.Machine

/-! PROOF. The checkpoint writes (09, 9.5). -/

namespace Sys2Proof.Machine

/-! ## The slot of a write (R173) -/

theorem exists_lowest_slot {ring : List Slot} (h : ring ≠ []) : ∃ x ∈ ring, ∀ y ∈ ring, slotRank x ≤ slotRank y := by
  obtain ⟨x, hx⟩ := List.exists_mem_of_ne_nil ring h
  exact Set.exists_min_image {y | y ∈ ring} slotRank ring.finite_toSet ⟨x, hx⟩

/-- Whether a slot of the ring counts lowest (R173). -/
def countsLowest (ring : List Slot) (x : Slot) : Bool := ring.all fun y => decide (slotRank x ≤ slotRank y)

theorem countsLowest_iff {ring : List Slot} {x : Slot} :
    countsLowest ring x = true ↔ ∀ y ∈ ring, slotRank x ≤ slotRank y := by
  simp [countsLowest]

theorem chooseSlot_eq (ring : List Slot) : chooseSlot ring = ring.findIdx (countsLowest ring) := rfl

theorem chooseSlot_lt {ring : List Slot} (h : ring ≠ []) : chooseSlot ring < ring.length := by
  obtain ⟨x, hx, hlowest⟩ := exists_lowest_slot h
  exact List.findIdx_lt_length_of_exists ⟨x, hx, countsLowest_iff.mpr hlowest⟩

/-- The chosen slot counts no higher than any, and lower than every slot before it (R173). -/
theorem chooseSlot_lowest {ring : List Slot} (h : ring ≠ []) {j : Nat} (hj : j < ring.length) :
    slotRank (ring.getD (chooseSlot ring) .empty) ≤ slotRank (ring.getD j .empty) ∧
      (j < chooseSlot ring → slotRank (ring.getD (chooseSlot ring) .empty) < slotRank (ring.getD j .empty)) := by
  have hlt := chooseSlot_lt h
  have hlowest : ∀ y ∈ ring, slotRank ring[chooseSlot ring] ≤ slotRank y :=
    countsLowest_iff.mp (List.findIdx_getElem (w := hlt))
  rw [List.getD_eq_getElem ring .empty hlt, List.getD_eq_getElem ring .empty hj]
  refine ⟨hlowest _ (List.getElem_mem hj), fun hbefore => ?_⟩
  have hnot : ¬∀ y ∈ ring, slotRank ring[j] ≤ slotRank y := by
    rw [← countsLowest_iff, Bool.not_eq_true]
    exact List.not_of_lt_findIdx hbefore
  push Not at hnot
  obtain ⟨y, hy, hlower⟩ := hnot
  exact (hlowest y hy).trans_lt hlower

/-! ## Start and completion (R71, R72, R173, R174) -/

theorem startCheckpoint_of_asked {s : State} (hidle : s.supmon.writer = .idle) (hasked : s.supmon.request = true) :
    startCheckpoint s =
      { s with
        code := coverFlight s.code,
        supmon :=
          { s.supmon with
            request := false, nextSeq := s.supmon.nextSeq + 1, ring := s.supmon.ring.set (chooseSlot s.supmon.ring) .invalid,
            writer := .writing (chooseSlot s.supmon.ring) (contents s) 0 } } := if_pos ⟨hidle, hasked⟩

theorem startCheckpoint_of_unasked {s : State} (h : s.supmon.request = false) : startCheckpoint s = s :=
  if_neg fun hstart => by simp [h] at hstart

theorem coverFlight_of_persisting {c : CodeEngine} {e : CodeEntry} {key : BitVec 144} {code : CodePart} {share : Option Nat}
    {covered : Bool} (h : c.flight = some ⟨e, key, .persisting code share covered⟩) :
    coverFlight c = { c with flight := some ⟨e, key, .persisting code share true⟩ } := by
  unfold coverFlight
  rw [h]

theorem coverFlight_of_none {c : CodeEngine} (h : c.flight = none) : coverFlight c = c := by
  unfold coverFlight
  rw [h]

section Flight

variable {e : CodeEntry} {key : BitVec 144} {code : CodePart} {share : Option Nat} {s : State}

theorem completeFlight_of_covered (h : s.code.flight = some ⟨e, key, .persisting code share true⟩) :
    completeFlight s = finishEntry e.port ⟨e.ticket, .accepted, some code, share⟩ s := by
  unfold completeFlight
  rw [h]

theorem completeFlight_of_uncovered (h : s.code.flight = some ⟨e, key, .persisting code share false⟩) :
    completeFlight s = s := by
  unfold completeFlight
  rw [h]

/-- An entry that the write held is done: its result is the newest of its port, and CODE_DONE is signalled (R72). -/
theorem completeFlight_done (h : s.code.flight = some ⟨e, key, .persisting code share true⟩) :
    (completeFlight s).code.flight = none ∧
      ((completeFlight s).code.results.get e.port).getLast? = some ⟨e.ticket, .accepted, some code, share⟩ ∧
      ((completeFlight s).alert.ports.get e.port).classes.get (.latched .codeDone) =
        ⟨true, ((s.alert.ports.get e.port).classes.get (.latched .codeDone)).count + 1#8⟩ := by
  rw [completeFlight_of_covered h, finishEntry_code]
  refine ⟨rfl, ?_, signalled_finishEntry _ _ _⟩
  rw [PerPort.get_set_self]
  exact resultsAfter_getLast? _ _

end Flight

theorem completeFlight_frame (s : State) :
    completeFlight s = { s with code := (completeFlight s).code, alert := (completeFlight s).alert } ∧
      contents (completeFlight s) = contents s := by
  unfold completeFlight
  split
  · split <;> exact ⟨rfl, rfl⟩
  · exact ⟨rfl, rfl⟩

/-- SUPMON as a write that completes leaves it, before a further one starts (R173). -/
def writeDone (slot : Nat) (k : Checkpoint) (s : State) : State :=
  { s with supmon :=
    { s.supmon with ring := s.supmon.ring.set slot (.valid k), writer := .idle, lastDone := some ⟨k.seq, k.time⟩ } }

theorem exec_checkpointWriteStart {s : State} (hgood : mainGood s = true) :
    exec .checkpointWriteStart s = .next (startCheckpoint (s.take .checkpointWriteStart)) := by
  change execCheckpointWriteStart s = _
  rw [execCheckpointWriteStart, inMain_good hgood]

theorem exec_checkpointWriteComplete {slot ms : Nat} {k : Checkpoint} {s : State} (hgood : mainGood s = true)
    (hwriter : s.supmon.writer = .writing slot k ms) :
    exec .checkpointWriteComplete s =
      .next (startCheckpoint (completeFlight (writeDone slot k (s.take .checkpointWriteComplete)))) := by
  change execCheckpointWriteComplete s = _
  rw [execCheckpointWriteComplete, inMain_good hgood, completeCheckpoint, State.take_supmon, hwriter]
  rfl

/-- Settles O49, by the request flag that a write finds and by the entry that it holds. -/
theorem checkpointWrites : Obligations.CheckpointWrites := by
  refine ⟨fun s => rfl, fun s hgood hidle hasked hring => ?start, fun slot ms k s hgood hwriter => ?complete,
    fun ring hring => ⟨chooseSlot_lt hring, fun j hj => chooseSlot_lowest hring hj⟩⟩
  case start =>
    refine ⟨_, exec_checkpointWriteStart hgood, ?_⟩
    rw [startCheckpoint_of_asked (s := s.take .checkpointWriteStart) hidle hasked]
    exact ⟨rfl, fun e key code share covered hflight => coverFlight_of_persisting hflight, rfl⟩
  case complete =>
    have hexec := exec_checkpointWriteComplete hgood hwriter
    set u := writeDone slot k (s.take .checkpointWriteComplete) with hu
    obtain ⟨hframe, hcontents⟩ := completeFlight_frame u
    have hsupmon := congrArg State.supmon hframe
    cases hrequest : s.supmon.request with
    | false =>
      have hunasked : (completeFlight u).supmon.request = false := by rw [hsupmon]; exact hrequest
      rw [startCheckpoint_of_unasked hunasked] at hexec
      refine ⟨_, hexec, by rw [hsupmon]; rfl, fun _ => ⟨hsupmon, fun e key code share hflight => completeFlight_done hflight,
        fun e key code share hflight => ?_⟩, nofun, ?_⟩
      · rw [completeFlight_of_uncovered (s := u) hflight]
        rfl
      · rw [hsupmon]
        exact hframe
    | true =>
      have hidle : (completeFlight u).supmon.writer = .idle := by rw [hsupmon]; rfl
      have hasked : (completeFlight u).supmon.request = true := by rw [hsupmon]; exact hrequest
      rw [startCheckpoint_of_asked hidle hasked, hcontents, hsupmon] at hexec
      refine ⟨_, hexec, rfl, nofun, fun _ => ⟨rfl, fun e key code share hflight => ?_,
        fun e key code share hflight => ?_⟩, ?_⟩
      · obtain ⟨hnone, hlast, hdone⟩ := completeFlight_done (s := u) hflight
        rw [coverFlight_of_none hnone]
        exact ⟨hnone, hlast, hdone⟩
      · rw [completeFlight_of_uncovered (s := u) hflight]
        exact ⟨coverFlight_of_persisting hflight, rfl⟩
      · rw [hframe]
        rfl

end Sys2Proof.Machine

/-! PROOF. The alerts: occurrences, presentations, acknowledgements, levels, the line and the selected class (11). -/

namespace Sys2Proof.Machine

theorem onlySignalled_raise (c : AlertClass) (a : PortAlert) : OnlySignalled c a (a.raise c) :=
  ⟨PortAlert.raise_get_self c a, fun _ hne => PortAlert.raise_get_ne a hne, rfl, rfl⟩

/-! ## Presentations (R191) -/

theorem present_of_onset {k : ConditionClass} {a : Alert} (h : a.conditions.get k = false) :
    (a.present k true).ports =
      { meter := if onMeter k then a.ports.meter.raise (.condition k) else a.ports.meter,
        network := a.ports.network.raise (.condition k) } := by
  unfold Alert.present
  rw [h]
  rfl

theorem present_of_no_onset {k : ConditionClass} {now : Bool} {a : Alert} (h : now = false ∨ a.conditions.get k = true) :
    (a.present k now).ports = a.ports := by
  unfold Alert.present
  rcases h with h | h <;> simp [h]

theorem onMeter_iff (k : ConditionClass) : onMeter k = true ↔ k ≠ .evidenceThreshold := bne_iff_ne

/-- Settles O54, by the condition record that a presentation meets. -/
theorem conditionsPresented : Obligations.ConditionsPresented := by
  intro k now s hgood
  have hexec : exec (.conditionPresentation k now) s = .next (present k now (s.take (.conditionPresentation k now))) := by
    change execConditionPresentation k now s = _
    rw [execConditionPresentation, inMain_good hgood]
  refine ⟨_, hexec, rfl, rfl, ?onset, fun hnone => present_of_no_onset hnone⟩
  rintro rfl habsent
  have hports := present_of_onset (a := s.alert) habsent
  refine ⟨?_, fun hne => ?_, fun heq => ?_⟩
  · rw [present_alert, State.take_alert, hports]
    exact onlySignalled_raise _ _
  · rw [present_alert, State.take_alert, hports, if_pos ((onMeter_iff k).mpr hne)]
    exact onlySignalled_raise _ _
  · rw [present_alert, State.take_alert, hports, if_neg fun hon => (onMeter_iff k).mp hon heq]

/-! ## Acknowledgements and levels (R194, R195) -/

theorem alertClassNumber_of {n : Nat} {k : AlertClass} (h : alertClassOf n = some k) : n = alertClassNumber k := by
  unfold alertClassOf at h
  split at h <;> cases h <;> rfl

theorem alertClassOf_eq_none {n : Nat} (h : n = 0 ∨ 12 < n) : alertClassOf n = none := by
  cases hclass : alertClassOf n with
  | none => rfl
  | some k =>
    have hrange : 1 ≤ alertClassNumber k ∧ alertClassNumber k ≤ 12 := by
      cases k with
      | latched c => cases c <;> decide
      | condition c => cases c <;> decide
    rw [← alertClassNumber_of hclass] at hrange
    omega

theorem levelTable_get (levels : List Byte) (k : AlertClass) :
    (levelTable levels).get k = (levels.getD (alertClassNumber k - 1) 0#8).toNat := by
  cases k with
  | latched c => cases c <;> rfl
  | condition c => cases c <;> rfl

/-- A port's alert state replaced leaves the other port's as it was. -/
theorem setPort_other (a : Alert) (p : Port) (x : PortAlert) :
    (a.setPort p x).ports.get (match p with | .meter => .network | .network => .meter) =
      a.ports.get (match p with | .meter => .network | .network => .meter) := by
  cases p <;> rfl

theorem setPort_get (a : Alert) (p : Port) (x : PortAlert) : (a.setPort p x).ports.get p = x := PerPort.get_set_self _ _ _

theorem clearPending_get (p : Port) (k : AlertClass) (s : State) :
    (clearPending p k s).alert.ports.get p =
      { s.alert.ports.get p with
        classes := (s.alert.ports.get p).classes.set k { (s.alert.ports.get p).classes.get k with pending := false } } :=
  setPort_get _ _ _

theorem clearPending_class (p : Port) (k : AlertClass) (s : State) :
    ((clearPending p k s).alert.ports.get p).classes.get k = ⟨false, ((s.alert.ports.get p).classes.get k).count⟩ := by
  rw [clearPending_get]
  exact PerClass.get_set_self _ _ _

theorem exec_alertAck {p : Port} {cls count : Byte} {k : AlertClass} {s : State} (h : Ready p s)
    (hk : alertClassOf cls.toNat = some k) :
    exec (.alertAck p cls count) s =
      .next (respond p (acknowledge p k count (s.take (.alertAck p cls count))).2
        (acknowledge p k count (s.take (.alertAck p cls count))).1) := by
  change execAlertAck p cls count s = _
  unfold execAlertAck
  simp only [hk]
  exact runCommand_ready h

theorem exec_alertAck_refused {p : Port} {cls count : Byte} {s : State} (h : Ready p s)
    (hk : alertClassOf cls.toNat = none) :
    exec (.alertAck p cls count) s = .next (respond p (.bare .badArgument) (s.take (.alertAck p cls count))) := by
  change execAlertAck p cls count s = _
  unfold execAlertAck
  simp only [hk]
  exact runCommand_ready h

section Ack

variable {p : Port} {k : AlertClass} {count : Byte} {s : State}

theorem ackStatus_of_present (hpending : ((s.alert.ports.get p).classes.get k).pending = true)
    (hholds : conditionHolds k s = true) : ackStatus p k count s = .conditionPresent := by
  simp [ackStatus, hpending, hholds]

theorem ackStatus_of_stale (hpending : ((s.alert.ports.get p).classes.get k).pending = true)
    (hholds : conditionHolds k s = false) (hcount : ((s.alert.ports.get p).classes.get k).count ≠ count) :
    ackStatus p k count s = .stale := by
  simp [ackStatus, hpending, hholds, hcount]

theorem ackStatus_of_ok (h : ((s.alert.ports.get p).classes.get k).pending = false ∨
    (conditionHolds k s = false ∧ ((s.alert.ports.get p).classes.get k).count = count)) :
    ackStatus p k count s = .ok := by
  rcases h with hnot | ⟨hholds, hcount⟩
  · simp [ackStatus, hnot]
  · simp [ackStatus, hholds, hcount]

/-- An acknowledgement that is not taken answers the flag as it stands. -/
theorem acknowledge_of_refused {st : Status} (h : ackStatus p k count s = st) (hst : st ≠ .ok)
    (hpending : ((s.alert.ports.get p).classes.get k).pending = true) :
    acknowledge p k count s =
      (s, ⟨st, flagByte [true, alertLine p s] ++ [((s.alert.ports.get p).classes.get k).count]⟩) := by
  unfold acknowledge
  simp only [h, if_neg hst, ackBytes, hpending]

theorem acknowledge_of_ok (h : ackStatus p k count s = .ok) :
    acknowledge p k count s =
      (clearPending p k s,
       ⟨.ok, flagByte [false, alertLine p (clearPending p k s)] ++ [((s.alert.ports.get p).classes.get k).count]⟩) := by
  unfold acknowledge
  simp only [h, if_true, ackBytes, clearPending_class]

end Ack

theorem exec_setAlertLevels {p : Port} {levels : List Byte} {threshold : Byte} {s : State} (h : Ready p s) :
    exec (.setAlertLevels p levels threshold) s =
      .next (respond p (setLevels p levels threshold (s.take (.setAlertLevels p levels threshold))).2
        (setLevels p levels threshold (s.take (.setAlertLevels p levels threshold))).1) := by
  unfold exec
  exact runCommand_ready h

theorem levelsTaken_iff (levels : List Byte) (threshold : Byte) :
    (levels.all (fun v => decide (v.toNat ≤ 7)) = true ∧ threshold.toNat ≤ 7) ↔
      threshold.toNat ≤ 7 ∧ ∀ v ∈ levels, v.toNat ≤ 7 := by
  simp [and_comm]

/-! ## The line and the selected class (R192, R193) -/

theorem alertLine_iff (p : Port) (s : State) :
    alertLine p s = true ↔
      s.supmon.supply = .mainGood ∧
        ∃ k, ((s.alert.ports.get p).classes.get k).pending = true ∧
          (s.alert.ports.get p).threshold < (s.alert.ports.get p).levels.get k := by
  simp [alertLine, mainGood, PortAlert.line, mem_allClasses]

section Selected

variable {a : PortAlert}

theorem mem_pending (a : PortAlert) (k : AlertClass) : k ∈ a.pending ↔ (a.classes.get k).pending = true := by
  simp [PortAlert.pending, mem_allClasses]

theorem selected_eq_none_iff : a.selected = none ↔ ∀ k, (a.classes.get k).pending = false := by
  refine ⟨fun h k => ?_, fun h => ?_⟩
  · rw [← Bool.not_eq_true, ← mem_pending, pending_eq_nil_of_selected h]
    exact List.not_mem_nil
  · have hnil : a.pending = [] := List.eq_nil_iff_forall_not_mem.mpr fun k hk => by
      rw [mem_pending, h k] at hk
      cases hk
    rw [PortAlert.selected, hnil]
    rfl

/-- The pending classes stand in the order of their numbers (R193). -/
theorem pending_sorted (a : PortAlert) : a.pending.Pairwise fun j k => alertClassNumber j ≤ alertClassNumber k := by
  have hall : allClasses.Pairwise fun j k => alertClassNumber j ≤ alertClassNumber k := by decide
  exact hall.filter _

/-- The selected class has the highest level of those pending, and the lowest number among equals (R193). -/
theorem selected_spec {k : AlertClass} (h : a.selected = some k) :
    (a.classes.get k).pending = true ∧
      ∀ j, (a.classes.get j).pending = true →
        a.levels.get j < a.levels.get k ∨
          (a.levels.get j = a.levels.get k ∧ alertClassNumber k ≤ alertClassNumber j) := by
  obtain ⟨hk, before, after, hsplit, hbefore⟩ := List.find?_eq_some_iff_append.mp h
  simp only [List.all_eq_true, decide_eq_true_eq] at hk
  refine ⟨(mem_pending a k).mp (by simp [hsplit]), fun j hj => ?_⟩
  have hmem := (mem_pending a j).mpr hj
  rcases (hk j hmem).lt_or_eq with hlt | heq
  · exact .inl hlt
  · refine .inr ⟨heq, ?_⟩
    have hsorted := pending_sorted a
    rw [hsplit] at hmem hsorted
    rcases List.mem_append.mp hmem with hb | hb
    · have hnot := hbefore j hb
      simp only [Bool.not_eq_true', ← Bool.not_eq_true, List.all_eq_true, decide_eq_true_eq, heq] at hnot
      exact absurd hk hnot
    · rcases List.mem_cons.mp hb with rfl | hafter
      · exact le_refl _
      · exact (List.pairwise_cons.mp (List.pairwise_append.mp hsorted).2.1).1 j hafter

end Selected

/-- Settles O53, by the tests of an acknowledgement and by the order of the pending classes. -/
theorem alertsKept : Obligations.AlertsKept := by
  refine ⟨⟨fun k m n s hgood => ?occurrence, fun p cls count k s hready hk => ?ack,
    fun p cls count s hready hno => exec_alertAck_refused hready (alertClassOf_eq_none hno),
    fun p levels threshold s hready hlength => ⟨fun hthreshold hlevels => ?set, fun hbad => ?refused⟩⟩,
    fun p s => ⟨alertLine_iff p s, selected_eq_none_iff, fun k hk => selected_spec hk⟩⟩
  case occurrence =>
    have hexec : exec (.alertOccurrence k m n) s = .next (occurrence k m n (s.take (.alertOccurrence k m n))) := by
      change execAlertOccurrence k m n s = _
      rw [execAlertOccurrence, inMain_good hgood]
    refine ⟨_, hexec, rfl, rfl, ?_, ?_, ?_, ?_⟩
    · rintro rfl
      exact onlySignalled_raise _ _
    · rintro rfl
      rfl
    · rintro rfl
      exact onlySignalled_raise _ _
    · rintro rfl
      rfl
  case ack =>
    have hexec := exec_alertAck (count := count) hready hk
    refine ⟨fun hpending hholds => ?_, fun hpending hholds hcount => ?_, fun hok => ?_⟩
    · rw [hexec, acknowledge_of_refused (s := s.take (.alertAck p cls count))
        (ackStatus_of_present (s := s.take (.alertAck p cls count)) hpending hholds) nofun hpending]
      rfl
    · rw [hexec, acknowledge_of_refused (s := s.take (.alertAck p cls count))
        (ackStatus_of_stale (s := s.take (.alertAck p cls count)) hpending hholds hcount) nofun hpending]
      rfl
    · rw [acknowledge_of_ok (ackStatus_of_ok (s := s.take (.alertAck p cls count)) hok)] at hexec
      have hport := clearPending_get p k (s.take (.alertAck p cls count))
      refine ⟨_, hexec, rfl, clearPending_class p k _, fun j hne => ?_, ?_, ?_, rfl, setPort_other _ p _⟩
      · rw [hport]
        exact PerClass.get_set_ne _ _ hne
      · rw [hport]
        rfl
      · rw [hport]
        rfl
  case set =>
    have hexec := exec_setAlertLevels (levels := levels) (threshold := threshold) hready
    rw [setLevels, if_pos ((levelsTaken_iff levels threshold).mpr ⟨hthreshold, hlevels⟩)] at hexec
    refine ⟨_, hexec, rfl, ?_, ?_, rfl, setPort_other _ p _, fun j k hk => ?_⟩
    all_goals simp only [setPort_get, State.take_alert]
    rw [levelTable_get, ← alertClassNumber_of hk]
    rfl
  case refused =>
    have hnot : ¬(levels.all (fun v => decide (v.toNat ≤ 7)) = true ∧ threshold.toNat ≤ 7) := by
      rw [levelsTaken_iff]
      rintro ⟨hthreshold, hlevels⟩
      rcases hbad with h | ⟨v, hv, h⟩
      · omega
      · exact absurd (hlevels v hv) (not_le.mpr h)
    rw [exec_setAlertLevels hready, setLevels, if_neg hnot]

end Sys2Proof.Machine

/-! PROOF. The identity area: provisioning, the lock and the writes; what the end of a restore makes of it (10, 10.5). -/

namespace Sys2Proof.Machine

/-! ## Provisioning and the lock (R184, R186, R187) -/

theorem putPlace_eq (i : Identity) (p : Place) (x : Option IdentityCopy) :
    i.putPlace p x =
      { i with placeA := if p = .a then x else i.placeA, placeB := if p = .b then x else i.placeB } := by
  cases p <;> rfl

theorem identityWriteAsked_startWrite {i : Identity} (h : i.writing = none) :
    i.startWrite.again = false ∧ IdentityWriteAsked i i.startWrite := by
  refine ⟨rfl, fun hno => absurd h hno, fun _ => ?_⟩
  unfold Identity.startWrite
  simp only [putPlace_eq, and_self]

theorem identityWriteAsked_requestWrite (i : Identity) : IdentityWriteAsked i i.requestWrite := by
  unfold Identity.requestWrite
  cases hwriting : i.writing with
  | some w =>
    exact ⟨fun _ => ⟨hwriting.symm, rfl, rfl, rfl⟩, fun hno => by rw [hwriting] at hno; cases hno⟩
  | none => exact (identityWriteAsked_startWrite hwriting).2

/-- A request for a write of a changed working record (R184). -/
theorem identityWriteAsked_changed (i : Identity) (x : IdentityRecord) :
    IdentityWriteAsked i { i with working := x }.requestWrite := identityWriteAsked_requestWrite { i with working := x }

theorem exec_provisionIdentity {number : BitVec 48} {key : BitVec 144} {s : State} (h : Ready .network s) :
    exec (.provisionIdentity .network number key) s =
      .next (respond .network (provision number key (s.take (.provisionIdentity .network number key))).2
        (provision number key (s.take (.provisionIdentity .network number key))).1) := by
  unfold exec
  exact runCommand_ready h

theorem exec_lockIdentity {s : State} (h : Ready .network s) :
    exec (.lockIdentity .network) s =
      .next (respond .network (lockIdentity (s.take (.lockIdentity .network))).2
        (lockIdentity (s.take (.lockIdentity .network))).1) := by
  unfold exec
  exact runCommand_ready h

section Provision

variable {number : BitVec 48} {key : BitVec 144} {s : State}

theorem provision_of_locked (h : s.identity.working.locked = true) :
    provision number key s = (s, .bare .identityLocked) := if_pos h

theorem provision_of_gt (h : s.identity.working.locked = false) (hnumber : 9999999999999 < number.toNat) :
    provision number key s = (s, .bare .badArgument) := by
  have hmax : meterNumberMax < number.toNat := hnumber
  simp [provision, h, hmax]

theorem provision_of_le (h : s.identity.working.locked = false) (hnumber : number.toNat ≤ 9999999999999) :
    provision number key s =
      ({ s with
          identity :=
            { s.identity with
              working := { number := some number.toNat, key := some key, provisioned := true, locked := false } }.requestWrite },
       .bare .ok) := by
  have hmax : ¬meterNumberMax < number.toNat := not_lt.mpr hnumber
  simp [provision, h, hmax]

theorem lockIdentity_of_locked (h : s.identity.working.locked = true) :
    lockIdentity s = (s, .bare .identityLocked) := if_pos h

theorem lockIdentity_of_not_provisioned (h : s.identity.working.locked = false)
    (hno : s.identity.working.provisioned = false) : lockIdentity s = (s, .bare .notProvisioned) := by
  simp [lockIdentity, h, hno]

theorem lockIdentity_of_provisioned (h : s.identity.working.locked = false)
    (hyes : s.identity.working.provisioned = true) :
    lockIdentity s =
      ({ s with
          identity := { s.identity with working := { s.identity.working with locked := true } }.requestWrite },
       .bare .ok) := by
  simp [lockIdentity, h, hyes]

end Provision

/-! ## The writes (R184) -/

theorem olderPlace_identity (i : Identity) :
    olderPlace i.countA i.countB = .a ↔
      i.placeA = none ∨ ∃ x y, i.placeA = some x ∧ i.placeB = some y ∧ x.count < y.count := by
  unfold Identity.countA Identity.countB olderPlace
  cases i.placeA <;> cases i.placeB <;> simp

theorem nextCount_identity (i : Identity) :
    nextCount i.countA i.countB .a = ((i.placeB.map (·.count)).getD 0) + 1 ∧
      nextCount i.countA i.countB .b = ((i.placeA.map (·.count)).getD 0) + 1 := by
  unfold Identity.countA Identity.countB nextCount
  cases i.placeA <;> cases i.placeB <;> simp

theorem exec_identityWriteComplete {s : State} (hgood : mainGood s = true) :
    exec .identityWriteComplete s =
      .next { s.take .identityWriteComplete with identity := s.identity.completeWrite } := by
  change execIdentityWriteComplete s = _
  rw [execIdentityWriteComplete, inMain_good hgood]
  rfl

/-- The identity with a write completed, before a further one starts (R184). -/
def storedIdentity (w : IdentityWrite) (i : Identity) : Identity :=
  { i with
    placeA := if w.place = .a then some w.copy else i.placeA, placeB := if w.place = .b then some w.copy else i.placeB,
    writing := none }

theorem completeWrite_of_writing {w : IdentityWrite} {i : Identity} (h : i.writing = some w) :
    i.completeWrite = if i.again then (storedIdentity w i).startWrite else storedIdentity w i := by
  unfold Identity.completeWrite storedIdentity
  rw [h]
  simp only [putPlace_eq]

/-! ## The end of a restore (R167) -/

/-- The state that a restore has selected, with SUPMON, the ports, MLR, TARIFF and the identity resumed (R167). -/
def restoreStart (b1 b0 : Bool) (s : State) : State :=
  { resumeSupply (restoreKind s) b1 b0 (selectState (restoreKind s) (loseMain s)) with
    tariff := resumeTariff (resumeSupply (restoreKind s) b1 b0 (selectState (restoreKind s) (loseMain s))).tariff,
    identity :=
      (resumeSupply (restoreKind s) b1 b0 (selectState (restoreKind s) (loseMain s))).identity.resume (restoreKind s) }

/-- The end of a restore before LOG resumes. -/
def restoredBlocks (b1 b0 : Bool) (s : State) : State :=
  resumeBill (restoreKind s) (resumeTamper (takeHeld s.handed (resumeSwitch (restoreStart b1 b0 s))))

theorem finishRestore_eq (b1 b0 : Bool) (s : State) :
    finishRestore b1 b0 s = occurrence .powerRestored true true (resumeLog (restoreKind s) (restoredBlocks b1 b0 s)) := rfl

theorem restoreStart_sw (b1 b0 : Bool) (s : State) :
    (restoreStart b1 b0 s).sw = (selectState (restoreKind s) (loseMain s)).sw :=
  (resumeSupply_frame (restoreKind s) b1 b0 _).1

theorem keeps_restoredBlocks (b1 b0 : Bool) (s : State) : Keeps (restoreStart b1 b0 s) (restoredBlocks b1 b0 s) := by
  have hphase : (restoreStart b1 b0 s).sw.phase = none := by
    rw [restoreStart_sw, selectState_phase]
    exact (stop_rests s.sw).1
  exact (keeps_resumeSwitch hphase).trans ((keeps_takeHeld _ _).trans ((keeps_resumeTamper _).trans (keeps_resumeBill _ _)))

theorem finishRestore_supmon (b1 b0 : Bool) (s : State) :
    (finishRestore b1 b0 s).supmon = (restoredBlocks b1 b0 s).supmon := by
  rw [finishRestore_eq, occurrence_supmon, resumeLog_eq, evaluateThreshold_supmon]

theorem finishRestore_identity (b1 b0 : Bool) (s : State) :
    (finishRestore b1 b0 s).identity = (restoredBlocks b1 b0 s).identity := by
  rw [finishRestore_eq, occurrence_identity, resumeLog_eq, evaluateThreshold_identity]

/-- A restored part runs, and knows how it was restored (R167). -/
theorem finishRestore_runs (b1 b0 : Bool) (s : State) :
    (finishRestore b1 b0 s).supmon.supply = .mainGood ∧ (finishRestore b1 b0 s).supmon.cause = restoreKind s := by
  have hsupmon := (keeps_restoredBlocks b1 b0 s).supmon
  rw [finishRestore_supmon, hsupmon]
  exact ⟨rfl, rfl⟩

theorem restoreKind_of_retention {s : State} (h : s.supmon.retention = true) :
    restoreKind s = if s.supmon.origin = some .pin then .pin else .warm := if_pos h

theorem restoreKind_of_lost {s : State} (h : s.supmon.retention = false) : restoreKind s = .cold :=
  if_neg (by simp [h])

theorem selectState_of_retention {s : State} (h : s.supmon.retention = true) (t : State) :
    selectState (restoreKind s) t = stageRoutine (recordNow .powerRestore t) t := by
  rw [restoreKind_of_retention h]
  split <;> rfl

/-- A restore with the retained values keeps a locked identity (R185, R187). -/
theorem lockedKept_finishRestore (b1 b0 : Bool) {s : State} (h : s.supmon.retention = true) :
    LockedKept s (finishRestore b1 b0 s) := by
  have hstart : (restoreStart b1 b0 s).identity.working = s.identity.working := by
    unfold restoreStart
    rw [resume_working, selectState_of_retention h]
    simp [resumeSupply, loseMain]
  have hkept := (LockedKept.of_eq hstart).trans (keeps_restoredBlocks b1 b0 s).locked
  intro hlocked
  rw [finishRestore_identity]
  exact hkept hlocked

theorem exec_restoreEnd (b1 b0 : Bool) (s : State) :
    exec (.restoreEnd b1 b0) s =
      .next (if s.supmon.supply = .restoring ∧ s.supmon.restoreTimer.due restoreMs = true then finishRestore b1 b0 s else s) :=
  rfl

/-- A command changes a locked identity only as the end of a cold restore (R187). -/
theorem locked_of_exec {c : Instr} {s t : State} (hexec : exec c s = .next t) (hlocked : s.identity.working.locked = true) :
    t.identity.working = s.identity.working ∨
      (s.supmon.supply = .restoring ∧ s.supmon.retention = false ∧ t.supmon.supply = .mainGood ∧
        t.supmon.cause = .cold) := by
  by_cases hc : ∀ b1 b0, c ≠ .restoreEnd b1 b0
  · obtain ⟨u, hu, hkept⟩ := answers_exec s hc
    rw [hexec] at hu
    cases hu
    exact .inl (hkept.locked hlocked)
  · push Not at hc
    obtain ⟨b1, b0, rfl⟩ := hc
    rw [exec_restoreEnd] at hexec
    split at hexec
    next hdue =>
      cases hexec
      cases hretention : s.supmon.retention with
      | true => exact .inl (lockedKept_finishRestore b1 b0 hretention hlocked)
      | false =>
        obtain ⟨hgood, hcause⟩ := finishRestore_runs b1 b0 s
        exact .inr ⟨hdue.1, rfl, hgood, hcause.trans (restoreKind_of_lost hretention)⟩
    next =>
      cases hexec
      exact .inl rfl

theorem locked_of_step {s t : State} (hstep : step s = .next t) (hlocked : s.identity.working.locked = true) :
    t.identity.working = s.identity.working ∨
      (s.supmon.supply = .restoring ∧ s.supmon.retention = false ∧ t.supmon.supply = .mainGood ∧
        t.supmon.cause = .cold) := by
  unfold step at hstep
  split at hstep
  next c rest _ => exact locked_of_exec (s := s.withPending rest) hstep hlocked
  next =>
    split at hstep
    · exact locked_of_exec hstep hlocked
    · cases hstep
      exact .inl ((preserves_elapse s).locked hlocked)

/-- Settles O52, by the lock and the write in progress; that a locked identity stays is what every command but the end of a
restore keeps. -/
theorem identityKept : Obligations.IdentityKept := by
  refine ⟨⟨fun number key s hready => ⟨fun hlocked => ?_, fun hunlocked hgt => ?_, fun hunlocked hle => ?_⟩,
    fun s hready => ⟨fun hlocked => ?_, fun hunlocked hno => ?_, fun hunlocked hyes => ?_⟩,
    fun i => ⟨olderPlace_identity i, nextCount_identity i⟩, fun w s hgood hwriting hagain => ?further,
    fun s hgood hnone => ?idle, fun w s hgood hwriting hagain => ?complete⟩, fun s t hstep hlocked => ?kept⟩
  · rw [exec_provisionIdentity hready, provision_of_locked (s := s.take _) hlocked]
  · rw [exec_provisionIdentity hready, provision_of_gt (s := s.take _) hunlocked hgt]
  · rw [exec_provisionIdentity hready, provision_of_le (s := s.take _) hunlocked hle]
    exact ⟨_, rfl, rfl, requestWrite_working _, identityWriteAsked_changed _ _⟩
  · rw [exec_lockIdentity hready, lockIdentity_of_locked (s := s.take _) hlocked]
  · rw [exec_lockIdentity hready, lockIdentity_of_not_provisioned (s := s.take _) hunlocked hno]
  · rw [exec_lockIdentity hready, lockIdentity_of_provisioned (s := s.take _) hunlocked hyes]
    exact ⟨_, rfl, rfl, requestWrite_working _, identityWriteAsked_changed _ _⟩
  case further =>
    obtain ⟨hagain', hasked⟩ := identityWriteAsked_startWrite (i := storedIdentity w s.identity) rfl
    refine ⟨_, exec_identityWriteComplete hgood, rfl, completeWrite_working _, ?_⟩
    rw [completeWrite_of_writing hwriting, if_pos hagain]
    exact ⟨hagain', hasked⟩
  case idle =>
    rw [exec_identityWriteComplete hgood, Identity.completeWrite, hnone]
    rfl
  case complete =>
    rw [exec_identityWriteComplete hgood, completeWrite_of_writing hwriting, hagain]
    rfl
  case kept => exact locked_of_step hstep hlocked

end Sys2Proof.Machine

/-! PROOF. Command frames: from a command to its frame and back, and through the receiver (10.1, 10.3, 12.3). -/

namespace Sys2Proof.Machine

/-! ## The frame of a command (R181, R197) -/

theorem frameParts_commandFrame (code : Byte) (args : List Byte) : frameParts (commandFrame code args) = (code, args) := by
  unfold frameParts commandFrame
  refine Prod.ext rfl ?_
  change (args ++ [_]).dropLast = args
  exact List.dropLast_concat

theorem sumsToZero_commandFrame (code : Byte) (args : List Byte) : sumsToZero (commandFrame code args) = true := by
  refine beq_iff_eq.mpr ?_
  exact byteSum_check (0xC3#8 :: BitVec.ofNat 8 (args.length + 1) :: code :: args)

theorem readFrame_commandFrame {code : Byte} {p : Port} (args : List Byte) (h : permission code p = some true) :
    readFrame p (commandFrame code args) = readArguments p code args := by
  unfold readFrame
  rw [frameParts_commandFrame, sumsToZero_commandFrame]
  simp [h]

/-- A number is read back from its bytes (R197). -/
theorem bits_bytesOf {w k : Nat} (v : BitVec w) (h : 2 ^ w ≤ 256 ^ k) : bits w (bytesOf k v) = v := by
  unfold bits bytesOf
  rw [ofBe_beNat_of_lt (v.isLt.trans_le h), BitVec.ofNat_toNat, BitVec.setWidth_eq]

/-- The arguments of a well-formed command are read back as that command, and fit a frame (12.3). -/
theorem readArguments_commandParts {i : Instr} {p : Port} {code : Byte} {args : List Byte} (hi : i.wellFormed = true)
    (hparts : commandParts i = some (p, code, args)) : readArguments p code args = some i ∧ args.length ≤ 59 := by
  cases i
  case setAlertLevels q levels t =>
    cases hparts
    have hlength : levels.length = 12 := of_decide_eq_true hi
    have htaken : (levels ++ [t]).take 12 = levels := List.take_left' hlength
    have hlast : (levels ++ [t]).getD 12 0#8 = t := by simp [List.getD_eq_getElem?_getD, ← hlength]
    have hboth : (levels ++ [t]).length = 13 := by simp [hlength]
    refine ⟨?_, by rw [hboth]; decide⟩
    change (if (levels ++ [t]).length = 13 then
      some (Instr.setAlertLevels p ((levels ++ [t]).take 12) ((levels ++ [t]).getD 12 0#8)) else none) = _
    rw [if_pos hboth, htaken, hlast]
  case submitCode q chars =>
    cases hparts
    exact ⟨rfl, of_decide_eq_true hi⟩
  case tariffPut q g data =>
    cases hparts
    have hlength : data.length ≤ 58 := of_decide_eq_true hi
    exact ⟨rfl, Nat.succ_le_succ hlength⟩
  case provisionIdentity q number key =>
    cases hparts
    have hlength : (bytesOf 6 number).length = 6 := length_beNat _ _
    have hboth : (bytesOf 6 number ++ bytesOf 18 key).length = 24 := by simp [bytesOf]
    refine ⟨?_, by rw [hboth]; decide⟩
    change (if (bytesOf 6 number ++ bytesOf 18 key).length = 24 then
      some (Instr.provisionIdentity p (bits 48 ((bytesOf 6 number ++ bytesOf 18 key).take 6))
        (bits 144 ((bytesOf 6 number ++ bytesOf 18 key).drop 6))) else none) = _
    rw [if_pos hboth, List.take_left' hlength, List.drop_left' hlength, bits_bytesOf number (by decide),
      bits_bytesOf key (by decide)]
  case readLog q first n =>
    cases hparts
    exact ⟨congrArg (fun v => some (Instr.readLog p v n)) (bits_bytesOf (k := 4) first (by decide)), by simp [bytesOf]⟩
  case tariffOpen q id =>
    cases hparts
    exact ⟨congrArg (fun v => some (Instr.tariffOpen p v)) (bits_bytesOf (k := 2) id (by decide)), by simp [bytesOf]⟩
  case tariffCommit q t =>
    cases hparts
    exact ⟨congrArg (fun v => some (Instr.tariffCommit p v)) (bits_bytesOf (k := 4) t (by decide)), by simp [bytesOf]⟩
  case clockSet q t o =>
    cases hparts
    exact ⟨congrArg₂ (fun v w => some (Instr.clockSet p v w)) (bits_bytesOf (k := 4) t (by decide))
      (bits_bytesOf (k := 2) o (by decide)), by simp [bytesOf]⟩
  case remoteTamperClear q c =>
    cases hparts
    exact ⟨congrArg (fun v => some (Instr.remoteTamperClear p v)) (bits_bytesOf (k := 4) c (by decide)),
      by simp [bytesOf]⟩
  case evidenceCollect q n =>
    cases hparts
    exact ⟨congrArg (fun v => some (Instr.evidenceCollect p v)) (bits_bytesOf (k := 4) n (by decide)), by simp [bytesOf]⟩
  case setCodeFloor q m =>
    cases hparts
    exact ⟨congrArg (fun v => some (Instr.setCodeFloor p v)) (bits_bytesOf (k := 4) m (by decide)), by simp [bytesOf]⟩
  all_goals cases hparts
  all_goals exact ⟨rfl, by simp⟩

/-! ## The receiver and a command frame (R178) -/

theorem receiveAll_append (l : Line) (a b : List Byte) :
    receiveAll l (a ++ b) =
      ((receiveAll (receiveAll l a).1 b).1, (receiveAll l a).2 ++ (receiveAll (receiveAll l a).1 b).2) := by
  induction a generalizing l with
  | nil => rfl
  | cons x a ih =>
    rw [List.cons_append, receiveAll, receiveAll, ih]
    simp

theorem byte_of_hunting {l : Line} {b : Byte} (h : l.receiver = .hunting) (hb : b ≠ 0xC3#8) : l.byte b = (l, none) := by
  unfold Line.byte
  rw [h]
  exact if_neg hb

theorem byte_of_start {l : Line} (h : l.receiver = .hunting) :
    l.byte 0xC3#8 = ({ l with receiver := .length, received := [] }, none) := by
  unfold Line.byte
  rw [h]
  rfl

theorem byte_of_length {l : Line} {b : Byte} (h : l.receiver = .length) (hb : 1 ≤ b.toNat ∧ b.toNat ≤ 60) :
    l.byte b = ({ l with receiver := .body b.toNat, received := [b] }, none) := by
  unfold Line.byte
  rw [h]
  exact if_pos hb

theorem byte_of_body {l : Line} {n : Nat} {b : Byte} (h : l.receiver = .body n) (hlast : l.received.length + 1 < n + 2) :
    l.byte b = ({ l with received := l.received ++ [b] }, none) := by
  have hnot : ¬n + 2 ≤ (l.received ++ [b]).length := by simpa using hlast
  unfold Line.byte
  rw [h]
  exact if_neg hnot

theorem byte_of_last {l : Line} {n : Nat} {b : Byte} (h : l.receiver = .body n) (hlast : n + 2 ≤ l.received.length + 1) :
    l.byte b = ({ l with receiver := .hunting, received := [] }, some (l.received ++ [b])) := by
  have hyes : n + 2 ≤ (l.received ++ [b]).length := by simpa using hlast
  unfold Line.byte
  rw [h]
  exact if_pos hyes

/-- Before a start byte every other byte passes unheard. -/
theorem receiveAll_hunting {l : Line} (fill : List Byte) (h : l.receiver = .hunting) (hfill : ∀ b ∈ fill, b ≠ 0xC3#8) :
    receiveAll l fill = (l, []) := by
  induction fill with
  | nil => rfl
  | cons b bs ih =>
    rw [receiveAll, byte_of_hunting h (hfill b (by simp)), ih fun x hx => hfill x (by simp [hx])]
    rfl

/-- The bytes that a frame's length asks for complete it. -/
theorem receiveAll_body {l : Line} {n : Nat} (rest : List Byte) (h : l.receiver = .body n) (hne : rest ≠ [])
    (hlength : l.received.length + rest.length = n + 2) :
    receiveAll l rest = ({ l with receiver := .hunting, received := [] }, [l.received ++ rest]) := by
  induction rest generalizing l with
  | nil => exact absurd rfl hne
  | cons b bs ih =>
    rw [List.length_cons] at hlength
    by_cases hbs : bs = []
    · subst hbs
      rw [receiveAll, byte_of_last h (by simpa using hlength.ge)]
      rfl
    · have hpos := List.length_pos_iff.mpr hbs
      rw [receiveAll, byte_of_body h (by omega), ih (l := { l with received := l.received ++ [b] }) h hbs
        (by rw [List.length_append, List.length_singleton]; omega)]
      simp

/-- Settles O50, by the layout of each command and by the receiver's states one after another. -/
theorem commandFramesAgree : Obligations.CommandFramesAgree := by
  refine ⟨fun i p code args hi hparts hpermission => ?_, fun l fill args code hhunting hfill hargs => ?_⟩
  · obtain ⟨hread, hlength⟩ := readArguments_commandParts hi hparts
    exact ⟨(readFrame_commandFrame args hpermission).trans hread, hlength⟩
  · have hcount : (BitVec.ofNat 8 (args.length + 1)).toNat = args.length + 1 := by
      rw [BitVec.toNat_ofNat]
      omega
    have hbyte : 1 ≤ (BitVec.ofNat 8 (args.length + 1)).toNat ∧ (BitVec.ofNat 8 (args.length + 1)).toNat ≤ 60 := by
      omega
    rw [receiveAll_append, receiveAll_hunting fill hhunting hfill]
    unfold commandFrame
    rw [receiveAll, byte_of_start hhunting, List.cons_append, receiveAll, byte_of_length rfl hbyte,
      receiveAll_body _ rfl (by simp) (by simp [hcount]; omega)]
    simp [← hhunting]

end Sys2Proof.Machine

/-! PROOF. The receivers, the lines and the network transmitter (10.1 to 10.3). -/

namespace Sys2Proof.Machine

/-! ## Frames that wait (R181) -/

theorem NoFrameWaits.foldl_takeFrame {p : Port} {is : List Instr} (h : ∀ i ∈ is, isFrameOf p i = false) (s : State) :
    is.foldl (fun acc i => if isFrameOf p i then takeFrame i acc else acc) s = s := by
  induction is with
  | nil => rfl
  | cons i is ih =>
    rw [List.foldl_cons, h i (by simp)]
    exact ih fun j hj => h j (by simp [hj])

theorem settleFrames_none {p : Port} {s : State} (h : NoFrameWaits p s) : settleFrames p s = s :=
  NoFrameWaits.foldl_takeFrame h s

theorem NoFrameWaits.take {p : Port} {s : State} (h : NoFrameWaits p s) (i : Instr) : NoFrameWaits p (s.take i) :=
  fun j hj => h j (List.mem_of_mem_erase hj)

/-! ## A byte and the receiver (R178) -/

theorem byte_of_reject {l : Line} {b : Byte} (h : l.receiver = .length) (hb : b.toNat = 0 ∨ 60 < b.toNat) :
    l.byte b = (l.discard, none) := by
  unfold Line.byte
  rw [h]
  exact if_neg (by omega)

theorem byte_sent (l : Line) (b : Byte) : (l.byte b).1.sent = l.sent := by
  unfold Line.byte
  cases l.receiver with
  | hunting => dsimp only; split <;> rfl
  | length => dsimp only; split <;> rfl
  | body n => dsimp only; split <;> rfl

/-- Only a byte that is no length counts as a discarded frame. -/
theorem byte_discarded {l : Line} (b : Byte) (h : l.receiver ≠ .length) : (l.byte b).1.discarded = l.discarded := by
  unfold Line.byte
  cases hreceiver : l.receiver with
  | hunting => dsimp only; split <;> rfl
  | length => exact absurd hreceiver h
  | body n => dsimp only; split <;> rfl

/-- The frames that a byte completes, as the commands they are handed on as. -/
def completed (p : Port) (l : Line) (b : Byte) : List Instr := ((l.byte b).2.map (frameCommand p)).toList

theorem hear_eq (p : Port) (b : Byte) (s : State) :
    hear p b s =
      { timeBytes p (setLine p ((s.ports.line.get p).byte b).1 s) with
        handed := s.handed ++ completed p (s.ports.line.get p) b } := by
  unfold hear completed
  cases hbyte : ((s.ports.line.get p).byte b).2 with
  | none => cases p <;> simp [hbyte, timeBytes, setLine]
  | some frame => cases p <;> simp [hbyte, timeBytes, setLine, State.hand]

theorem hear_network (b : Byte) (s : State) :
    hear .network b s =
      { s with
        ports := { s.ports with
          line := { s.ports.line with network := (s.ports.line.network.byte b).1 },
          interByte := if (s.ports.line.network.byte b).1.receiver = .hunting then .stopped else .started },
        handed := s.handed ++ completed .network s.ports.line.network b } := hear_eq .network b s

theorem hear_meter (b : Byte) (s : State) :
    hear .meter b s =
      { s with
        ports := { s.ports with line := { s.ports.line with meter := (s.ports.line.meter.byte b).1 } },
        handed := s.handed ++ completed .meter s.ports.line.meter b } := hear_eq .meter b s

theorem completed_of_none {p : Port} {l m : Line} {b : Byte} (h : l.byte b = (m, none)) : completed p l b = [] := by
  rw [completed, h]
  rfl

theorem completed_of_last {p : Port} {l m : Line} {b : Byte} {frame : List Byte} (h : l.byte b = (m, some frame)) :
    completed p l b = [(readFrame p frame).getD (.badFrame p frame)] := by
  rw [completed, h]
  rfl

/-! ## What the meter port clocks out (R179) -/

theorem nextOut_of_idle {l : Line} (h : l.owed = []) : l.nextOut = 0#8 ∧ l.clocked = l := by
  have hcurrent : l.current = l := by simp [Line.current, Line.firstDone, h]
  simp [Line.nextOut, Line.clocked, hcurrent, h]

theorem nextOut_of_owed {l : Line} {r : List Byte} {rest : List (List Byte)} (h : l.owed = r :: rest)
    (hsent : l.sent < r.length) : l.nextOut = r.getD l.sent 0#8 ∧ l.clocked = { l with sent := l.sent + 1 } := by
  have hcurrent : l.current = l := by simp [Line.current, Line.firstDone, h, hsent]
  simp [Line.nextOut, Line.clocked, hcurrent, h]

/-- What goes out leaves what comes in. -/
theorem clocked_received (l : Line) :
    l.clocked.receiver = l.receiver ∧ l.clocked.received = l.received ∧ l.clocked.discarded = l.discarded := by
  unfold Line.clocked Line.current
  repeat' split
  all_goals exact ⟨rfl, rfl, rfl⟩

theorem clockOut_eq (s : State) :
    clockOut s =
      { s with ports := { s.ports with
          line := { s.ports.line with meter := s.ports.line.meter.clocked },
          msdo := some s.ports.line.meter.nextOut } } := rfl

theorem arrive_network {b : Byte} {s : State} (hstale : s.ports.stale = false) :
    arrive .network b s = hear .network b s := by
  unfold arrive
  rw [hstale]
  rfl

/-- The meter port's line after a byte: it clocks one out, and hears the byte unless it is deaf (R179, R189). -/
def Line.exchange (deaf : Bool) (l : Line) (b : Byte) : Line := if deaf then l.clocked else (l.clocked.byte b).1

theorem exchange_owed (deaf : Bool) (l : Line) (b : Byte) : (l.exchange deaf b).owed = l.clocked.owed := by
  unfold Line.exchange
  split
  · rfl
  · exact byte_owed _ _

theorem exchange_sent (deaf : Bool) (l : Line) (b : Byte) : (l.exchange deaf b).sent = l.clocked.sent := by
  unfold Line.exchange
  split
  · rfl
  · exact byte_sent _ _

/-- A byte before a start byte is not heard, deaf or not. -/
theorem exchange_of_hunting {deaf : Bool} {l : Line} {b : Byte} (h : l.receiver = .hunting) (hb : b ≠ 0xC3#8) :
    (l.exchange deaf b).receiver = .hunting := by
  have hclocked : l.clocked.receiver = .hunting := (clocked_received l).1.trans h
  unfold Line.exchange
  rw [byte_of_hunting hclocked hb, ite_self]
  exact hclocked

theorem arrive_meter (b : Byte) (s : State) :
    arrive .meter b s =
      { s with
        ports := { s.ports with
          line := { s.ports.line with meter := s.ports.line.meter.exchange s.ports.deaf b },
          msdo := some s.ports.line.meter.nextOut },
        handed := s.handed ++ if s.ports.deaf then [] else completed .meter s.ports.line.meter.clocked b } := by
  unfold arrive Line.exchange
  by_cases hdeaf : s.ports.deaf = true
  · simp [hdeaf, clockOut_eq]
  · simp [hdeaf, clockOut_eq, hear_meter]

/-! ## The line commands while main power is good -/

section Good

variable {s : State} (hgood : mainGood s = true)
include hgood

theorem exec_networkByte {b : Byte} (hnone : NoFrameWaits .network s) (hstale : s.ports.stale = false) :
    exec (.receiverByte .network (some b)) s = .next (hear .network b (s.take (.receiverByte .network (some b)))) := by
  change execReceiverByte .network (some b) s = _
  have hstale' : (s.take (.receiverByte .network (some b))).ports.stale = false := hstale
  simp only [execReceiverByte, watchStopped, hgood, if_true, inMain_good hgood, settleFrames_none (hnone.take _), arrive,
    hstale', Bool.false_eq_true, if_false]

theorem exec_meterByte {b : Byte} (hnone : NoFrameWaits .meter s) :
    exec (.receiverByte .meter (some b)) s =
      .next (arrive .meter b (selectMeter (s.take (.receiverByte .meter (some b))))) := by
  have hnone' : NoFrameWaits .meter (selectMeter s) := hnone
  have hgood' : mainGood (selectMeter s) = true := hgood
  change execReceiverByte .meter (some b) s = _
  simp only [execReceiverByte, inMain_good hgood', settleFrames_none (hnone'.take _)]
  rfl

theorem exec_lengthByteReject_of_reject {p : Port} {b : Byte} (hnone : NoFrameWaits p s)
    (hlength : (s.ports.line.get p).receiver = .length) (hb : b.toNat = 0 ∨ 60 < b.toNat) :
    exec (.lengthByteReject p b) s = .next (arrive p b (s.take (.lengthByteReject p b))) := by
  change execLengthByteReject p b s = _
  rw [execLengthByteReject, inMain_good hgood, settleFrames_none (hnone.take _)]
  exact congrArg _ (if_pos ⟨hlength, by omega⟩)

theorem exec_lengthByteReject_of_other {p : Port} {b : Byte}
    (h : (s.ports.line.get p).receiver ≠ .length ∨ (1 ≤ b.toNat ∧ b.toNat ≤ 60)) :
    exec (.lengthByteReject p b) s = .next (s.take (.lengthByteReject p b)) := by
  change execLengthByteReject p b s = _
  rw [execLengthByteReject, inMain_good hgood]
  exact congrArg _ (if_neg fun hreject => h.elim (fun hne => hne hreject.1) fun hb => hreject.2 hb)

/-- A byte that the network port takes whole. -/
theorem networkByte_effects {b : Byte} (hnone : NoFrameWaits .network s) (hstale : s.ports.stale = false) :
    let l := s.ports.line.network
    ∃ t, exec (.receiverByte .network (some b)) s = .next t ∧
      t = { s.take (.receiverByte .network (some b)) with ports := t.ports, handed := t.handed } ∧
      t.ports = { s.ports with line := t.ports.line, interByte := t.ports.interByte } ∧
      t.ports.interByte = (if t.ports.line.network.receiver = .hunting then .stopped else .started) ∧
      t.ports.line.meter = s.ports.line.meter ∧ t.ports.line.network = (l.byte b).1 ∧
      t.handed = (s.take (.receiverByte .network (some b))).handed ++ completed .network l b ∧
      (l.receiver = .length → (b.toNat = 0 ∨ 60 < b.toNat) →
        exec (.lengthByteReject .network b) s =
          .next { t with handed := (s.take (.lengthByteReject .network b)).handed }) := by
  refine ⟨_, (exec_networkByte hgood hnone hstale).trans (congrArg _ (hear_network _ _)), rfl, rfl, rfl, rfl, rfl, rfl,
    fun hlength hb => ?_⟩
  have hcompleted := completed_of_none (p := .network) (byte_of_reject hlength hb)
  rw [exec_lengthByteReject_of_reject (p := .network) hgood hnone hlength hb]
  refine congrArg Host.Outcome.next
    ((arrive_network (s := s.take (.lengthByteReject .network b)) hstale).trans ((hear_network _ _).trans ?_))
  exact congrArg (fun is => State.mk _ _ _ _ _ _ _ _ _ _ _ _ _ _ is _)
    ((congrArg _ hcompleted).trans (List.append_nil _))

/-- A byte that the meter port takes whole. -/
theorem meterByte_effects {b : Byte} (hnone : NoFrameWaits .meter s) :
    let l := s.ports.line.meter
    ∃ t, exec (.receiverByte .meter (some b)) s = .next t ∧
      t = { s.take (.receiverByte .meter (some b)) with ports := t.ports, handed := t.handed,
                                                        pins := { s.pins with mcsn := false } } ∧
      t.ports = { s.ports with line := t.ports.line, msdo := t.ports.msdo } ∧
      t.ports.line.network = s.ports.line.network ∧ t.ports.msdo = some l.nextOut ∧
      t.ports.line.meter = l.exchange s.ports.deaf b ∧
      t.handed = (s.take (.receiverByte .meter (some b))).handed ++
        (if s.ports.deaf then [] else completed .meter l.clocked b) ∧
      (l.receiver = .length → (b.toNat = 0 ∨ 60 < b.toNat) →
        exec (.lengthByteReject .meter b) s =
          .next { t with handed := (s.take (.lengthByteReject .meter b)).handed, pins := s.pins }) := by
  refine ⟨_, (exec_meterByte hgood hnone).trans (congrArg _ (arrive_meter _ _)), rfl, rfl, rfl, rfl, rfl, rfl,
    fun hlength hb => ?_⟩
  have hclocked := (clocked_received s.ports.line.meter).1.trans hlength
  have hcompleted := completed_of_none (p := .meter) (byte_of_reject hclocked hb)
  rw [exec_lengthByteReject_of_reject (p := .meter) hgood hnone hlength hb]
  refine congrArg Host.Outcome.next ((arrive_meter _ _).trans ?_)
  exact congrArg (fun is => State.mk _ _ _ _ _ _ _ _ _ _ _ _ _ _ is _)
    ((congrArg _ ((congrArg _ hcompleted).trans (ite_self _))).trans (List.append_nil _))

end Good

/-! ## A byte that has begun, and the network port's ignored byte (R179, R180, R189) -/

section Begun

variable {s : State} (hgood : mainGood s = true)
include hgood

theorem exec_meterBegun (hnone : NoFrameWaits .meter s) :
    exec (.receiverByte .meter none) s =
      .next { s.take (.receiverByte .meter none) with
        ports := { s.ports with msdo := some s.ports.line.meter.nextOut }, pins := { s.pins with mcsn := false } } := by
  have hnone' : NoFrameWaits .meter (selectMeter s) := hnone
  have hgood' : mainGood (selectMeter s) = true := hgood
  change execReceiverByte .meter none s = _
  simp only [execReceiverByte, inMain_good hgood', settleFrames_none (hnone'.take _)]
  rfl

theorem exec_networkBegun (hnone : NoFrameWaits .network s) :
    exec (.receiverByte .network none) s =
      .next { s.take (.receiverByte .network none) with
        ports := { s.ports with interByte := .stopped, stale := false } } := by
  change execReceiverByte .network none s = _
  simp only [execReceiverByte, watchStopped, hgood, if_true, inMain_good hgood, settleFrames_none (hnone.take _)]
  rfl

theorem exec_networkByte_of_stale (b : Byte) (hnone : NoFrameWaits .network s) (hstale : s.ports.stale = true) :
    exec (.receiverByte .network (some b)) s =
      .next { s.take (.receiverByte .network (some b)) with ports := { s.ports with stale := false } } := by
  change execReceiverByte .network (some b) s = _
  simp only [execReceiverByte, watchStopped, hgood, if_true, inMain_good hgood, settleFrames_none (hnone.take _)]
  exact congrArg Host.Outcome.next (if_pos hstale)

theorem exec_framingError :
    exec .uartFramingError s =
      .next (if s.ports.stale then setStale false (s.take .uartFramingError)
        else cutFrame .network (s.take .uartFramingError)) := by
  change execUartFramingError s = _
  simp only [execUartFramingError, watchStopped, hgood, if_true, inMain_good hgood]
  rfl

end Begun

/-! ## What cuts a frame short (R178 to R180) -/

theorem cutFrame_of_hunting {p : Port} {s : State} (h : (s.ports.line.get p).receiver = .hunting) : cutFrame p s = s :=
  if_pos h

theorem cutFrame_network {s : State} (h : s.ports.line.network.receiver ≠ .hunting) :
    cutFrame .network s =
      { s with ports := { s.ports with
          line := { s.ports.line with network := s.ports.line.network.discard }, interByte := .stopped } } :=
  if_neg h

theorem cutFrame_meter {s : State} (h : s.ports.line.meter.receiver ≠ .hunting) :
    cutFrame .meter s =
      { s with ports := { s.ports with line := { s.ports.line with meter := s.ports.line.meter.discard } } } :=
  if_neg h

theorem exec_mcsnRelease {s : State} (hgood : mainGood s = true) :
    exec .mcsnRelease s =
      .next (releaseMsdo (cutFrame .meter { s.take .mcsnRelease with pins := { s.pins with mcsn := true } })) := by
  change execMcsnRelease s = _
  exact inMain_good (s := { s with pins := { s.pins with mcsn := true } }) hgood

theorem exec_interByteTimeout {s : State} (hgood : mainGood s = true) :
    exec .interByteTimeout s =
      .next (if s.ports.interByte.due interByteMs then cutFrame .network (s.take .interByteTimeout)
        else s.take .interByteTimeout) := inMain_good hgood

/-! ## While the main domain is stopped (R189) -/

theorem watchStopped_stopped {s : State} (begun : Bool) (hnot : mainGood s = false) :
    watchStopped begun s = setStale begun s := if_neg (Bool.eq_false_iff.mp hnot)

theorem mainGood_watchStopped {s : State} (begun : Bool) (hnot : mainGood s = false) :
    mainGood (watchStopped begun s) = false := by
  rw [watchStopped_stopped begun hnot]
  exact hnot

/-! ## The network transmitter (R180, R182) -/

/-- While the part idles no owed response is wholly sent. -/
theorem Idle.sending {s : State} (h : Idle s) {r : List Byte} {rest : List (List Byte)}
    (howed : s.ports.line.network.owed = r :: rest) : s.ports.line.network.sent < r.length := by
  by_contra hdone
  have hfirst : s.ports.line.network.firstDone = true := by
    unfold Line.firstDone
    rw [howed]
    exact decide_eq_true (by omega)
  have hdue : dueMain s = none := by simpa [due, h.1] using h.2.2
  unfold dueMain at hdue
  rw [hfirst] at hdue
  split at hdue <;> cases hdue

theorem transmit_of_owed {x : Ports} {r : List Byte} {rest : List (List Byte)} (howed : x.line.network.owed = r :: rest) :
    x.transmit.line.network.owed = x.line.network.owed ∧
      x.transmit.line.network.sent =
        min r.length (x.line.network.sent + (x.txTenths + bitTenths x.baud) / byteTenths) ∧
      (x.transmit.line.network.sent < r.length →
        x.transmit.txTenths = (x.txTenths + bitTenths x.baud) % byteTenths) := by
  unfold Ports.transmit
  rw [howed]
  exact ⟨howed, rfl, fun hless => if_neg (Nat.not_le.mpr hless)⟩

theorem ntxd_of_silent {s : State} (hgood : mainGood s = true) (howed : s.ports.line.network.owed = []) :
    ntxd s = some true := by
  simp only [ntxd, hgood, if_true, howed]

theorem ntxd_of_sending {s : State} {r : List Byte} {rest : List (List Byte)} (hgood : mainGood s = true)
    (howed : s.ports.line.network.owed = r :: rest) (hsent : s.ports.line.network.sent < r.length) :
    ntxd s = some (uartBit (r.getD s.ports.line.network.sent 0#8) (s.ports.txTenths / 10)) := by
  simp only [ntxd, hgood, if_true, howed, hsent]

theorem uartBit_start (b : Byte) {tenths : Nat} (h : tenths < 10) : uartBit b (tenths / 10) = false := by
  rw [Nat.div_eq_of_lt h]
  rfl

theorem uartBit_data (b : Byte) {k : Nat} (h : k < 8) : uartBit b (k + 1) = b.getLsbD k := by
  unfold uartBit
  rw [if_neg (Nat.succ_ne_zero k), if_pos (Nat.succ_le_of_lt h)]
  rfl

theorem uartBit_stop (b : Byte) {tenths : Nat} (h : 90 ≤ tenths) : uartBit b (tenths / 10) = true := by
  unfold uartBit
  rw [if_neg (by omega), if_neg (by omega)]

/-- Settles O51, by the receiver's state before each byte, and by what is owed on each line. -/
theorem receiverStates : Obligations.ReceiverStates := by
  refine ⟨fun b s hgood hnone hstale => ?network, fun b s hgood hnone => ?meter, fun s hgood => ?begun,
    fun s hgood => ?cut, fun s hstopped => ?stopped, fun s hgood => ?transmitter⟩
  case network =>
    obtain ⟨t, hexec, hframe, hports, htimer, hmeter, hline, hhanded, hreject⟩ := networkByte_effects hgood hnone hstale (b := b)
    refine ⟨t, hexec, hframe, hports, htimer, hmeter, (congrArg Line.owed hline).trans (byte_owed _ _), ?_⟩
    have hbyte : ∀ {m o}, s.ports.line.network.byte b = (m, o) → t.ports.line.network = m := fun h =>
      hline.trans (congrArg Prod.fst h)
    refine ⟨fun h hb => hbyte (byte_of_hunting h hb), fun h hb => hbyte (hb ▸ byte_of_start h),
      fun h hlow hhigh => hbyte (byte_of_length h ⟨hlow, hhigh⟩), fun h hb => ⟨hbyte (byte_of_reject h hb), hreject h hb⟩,
      exec_lengthByteReject_of_other (p := .network) hgood, fun n h hmore => hbyte (byte_of_body h hmore),
      fun n h hlast => ⟨hbyte (byte_of_last h hlast), ?_⟩⟩
    exact hhanded.trans (congrArg _ (completed_of_last (byte_of_last h hlast)))
  case meter =>
    obtain ⟨t, hexec, hframe, hports, hnetwork, hmsdo, hline, hhanded, hreject⟩ := meterByte_effects hgood hnone (b := b)
    obtain ⟨hreceiver, hreceived, hdiscarded⟩ := clocked_received s.ports.line.meter
    refine ⟨t, hexec, hframe, hports, hnetwork, fun hidle => ?idle, fun r rest howed hsent => ?sending,
      fun h hb => (congrArg Line.receiver hline).trans (exchange_of_hunting h hb), fun hdeaf => ?heard, hreject,
      exec_lengthByteReject_of_other (p := .meter) hgood, fun hdeaf => ?deaf⟩
    case idle =>
      obtain ⟨hout, hclocked⟩ := nextOut_of_idle hidle
      rw [hmsdo, hline, exchange_owed, hout, hclocked]
      exact ⟨rfl, hidle⟩
    case sending =>
      obtain ⟨hout, hclocked⟩ := nextOut_of_owed howed hsent
      rw [hmsdo, hline, exchange_owed, exchange_sent, hout, hclocked]
      exact ⟨rfl, rfl, rfl⟩
    case deaf =>
      rw [hdeaf] at hline hhanded
      rw [hline]
      exact ⟨hreceiver, hreceived, hhanded.trans (List.append_nil _)⟩
    case heard =>
      rw [hdeaf] at hline hhanded
      have hbyte : ∀ {m o}, s.ports.line.meter.clocked.byte b = (m, o) → t.ports.line.meter = m := fun h =>
        hline.trans (congrArg Prod.fst h)
      rw [← hreceiver, ← hreceived, ← hdiscarded]
      refine ⟨fun h hb => ?start, fun h hlow hhigh => ?length, fun h hb => ?reject, fun n h hmore => ?body,
        fun n h hlast => ?last, fun h => (congrArg Line.discarded hline).trans (byte_discarded b h)⟩
      case start =>
        rw [hbyte (hb ▸ byte_of_start h)]
        exact ⟨rfl, rfl⟩
      case length =>
        rw [hbyte (byte_of_length h ⟨hlow, hhigh⟩)]
        exact ⟨rfl, rfl⟩
      case reject =>
        rw [hbyte (byte_of_reject h hb)]
        exact ⟨rfl, rfl, rfl⟩
      case body =>
        rw [hbyte (byte_of_body h hmore)]
        exact ⟨h, rfl⟩
      case last =>
        rw [hbyte (byte_of_last h hlast)]
        exact ⟨rfl, rfl, hhanded.trans (congrArg _ (completed_of_last (byte_of_last h hlast)))⟩
  case begun =>
    refine ⟨fun hnone => ⟨fun hidle => ?_, fun r rest howed hsent => ?_⟩, fun hnone =>
      ⟨exec_networkBegun hgood hnone, fun hstale => ⟨fun b => exec_networkByte_of_stale hgood b hnone hstale, ?_⟩⟩,
      fun hidle => ⟨_, step_idle hidle, hidle.counts (i := .interByteTimeout) (by simp [dueTimers, interByteMs])⟩⟩
    · rw [exec_meterBegun hgood hnone, (nextOut_of_idle hidle).1]
    · rw [exec_meterBegun hgood hnone, (nextOut_of_owed howed hsent).1]
    · exact (exec_framingError hgood).trans (congrArg Host.Outcome.next (if_pos hstale))
  case cut =>
    refine ⟨fun h => ?released, fun h => ?releasedInFrame, fun h => ⟨fun hstale => ?framing, fun hrun hms => ?gap⟩,
      fun h hstale => ?framingOutside, fun hearly => ?early, fun p => ?sent⟩
    case released =>
      exact (exec_mcsnRelease hgood).trans
        (congrArg (fun u => Host.Outcome.next (releaseMsdo u)) (cutFrame_of_hunting (p := .meter) h))
    case releasedInFrame =>
      exact (exec_mcsnRelease hgood).trans (congrArg (fun u => Host.Outcome.next (releaseMsdo u))
        (cutFrame_meter (s := { s.take .mcsnRelease with pins := { s.pins with mcsn := true } }) h))
    case framing =>
      have hnot : ¬s.ports.stale = true := by simp [hstale]
      exact (exec_framingError hgood).trans (congrArg Host.Outcome.next ((if_neg hnot).trans (cutFrame_network h)))
    case framingOutside =>
      have hnot : ¬s.ports.stale = true := by simp [hstale]
      exact (exec_framingError hgood).trans
        (congrArg Host.Outcome.next ((if_neg hnot).trans (cutFrame_of_hunting (p := .network) h)))
    case gap =>
      exact (exec_interByteTimeout hgood).trans
        (congrArg Host.Outcome.next ((if_pos (Timer.due_eq_true hrun hms)).trans (cutFrame_network h)))
    case early =>
      have hnot : ¬s.ports.interByte.due interByteMs = true := Bool.eq_false_iff.mp (Timer.due_eq_false hearly)
      exact (exec_interByteTimeout hgood).trans (congrArg Host.Outcome.next (if_neg hnot))
    case sent =>
      change execResponseSent p s = _
      rw [execResponseSent, inMain_good hgood]
      cases p <;> rfl
  case stopped =>
    have hnot := mainGood_eq_false hstopped
    refine ⟨fun b => ⟨?meterByte, ?networkByte⟩, ?framingError, ?release, ?silent⟩
    case meterByte =>
      have hnot' : mainGood (selectMeter s) = false := hnot
      change execReceiverByte .meter b s = _
      exact inMain_stopped hnot'
    case networkByte =>
      change execReceiverByte .network b s = _
      exact (inMain_stopped (mainGood_watchStopped _ hnot)).trans (congrArg _ (watchStopped_stopped _ hnot))
    case framingError =>
      change execUartFramingError s = _
      exact (inMain_stopped (mainGood_watchStopped _ hnot)).trans (congrArg _ (watchStopped_stopped _ hnot))
    case release =>
      have hnot' : mainGood { s with pins := { s.pins with mcsn := true } } = false := hnot
      change execMcsnRelease s = _
      exact inMain_stopped hnot'
    case silent => exact if_neg (Bool.eq_false_iff.mp hnot)
  case transmitter =>
    refine ⟨ntxd_of_silent hgood, fun r rest howed hsent => ⟨fun hstart => ?start, fun k hk htenths => ?data,
      fun hstop => ?stop⟩, fun hidle r rest howed => ?idle⟩
    case start => rw [ntxd_of_sending hgood howed hsent, uartBit_start _ hstart]
    case data => rw [ntxd_of_sending hgood howed hsent, htenths, uartBit_data _ hk]
    case stop => rw [ntxd_of_sending hgood howed hsent, uartBit_stop _ hstop]
    case idle =>
      obtain ⟨hsame, hsent, htenths⟩ := transmit_of_owed howed
      exact ⟨_, step_idle hidle, hidle.sending howed, hsame, hsent, htenths⟩

end Sys2Proof.Machine

/-! PROOF. What each block's resumption at the end of a restore leaves of the rest (09, 9.4). -/

namespace Sys2Proof.Machine

/-! ## Blocks that a resumption leaves (R167) -/

theorem applyRules_frame (joined : Bool) (s : State) :
    applyRules joined s = { s with sw := (applyRules joined s).sw, alert := (applyRules joined s).alert } := rfl

theorem believe_frame (p : Position) (n : Nat) (s : State) :
    believe p n s = { s with sw := (believe p n s).sw, alert := (believe p n s).alert, log := (believe p n s).log } := by
  unfold believe
  dsimp only
  split <;> rfl

theorem resolvePosition_frame (s : State) :
    resolvePosition s =
      { s with
        sw := (resolvePosition s).sw, alert := (resolvePosition s).alert, log := (resolvePosition s).log } := by
  unfold resolvePosition
  split
  next =>
    split
    · dsimp only
      rw [applyRules_frame, believe_frame]
    · rfl
  all_goals rfl

theorem startBypass_frame (s : State) : startBypass s = { s with sw := (startBypass s).sw } := by
  unfold startBypass
  split <;> rfl

theorem resumeSwitch_frame (s : State) :
    resumeSwitch s =
      { s with sw := (resumeSwitch s).sw, alert := (resumeSwitch s).alert, log := (resumeSwitch s).log } := by
  unfold resumeSwitch
  rw [startBypass_frame, resolvePosition_frame]

/-- A held request is taken (R113). -/
def heldTaken (s : State) (i : Instr) : State :=
  match i with
  | .demandSetRequest m add => demand m add s
  | _ => s

theorem takeHeld_eq (held : List Instr) (s : State) : takeHeld held s = held.foldl heldTaken s := rfl

theorem heldTaken_frame (s : State) (i : Instr) :
    heldTaken s i = { s with sw := (heldTaken s i).sw, alert := (heldTaken s i).alert } := by
  unfold heldTaken
  split
  · exact demand_frame _ _ _
  · rfl

theorem takeHeld_frame (held : List Instr) (s : State) :
    takeHeld held s = { s with sw := (takeHeld held s).sw, alert := (takeHeld held s).alert } := by
  rw [takeHeld_eq]
  induction held generalizing s with
  | nil => rfl
  | cons i held ih =>
    rw [List.foldl_cons, ih, heldTaken_frame]

theorem formHeldLatch_frame (i : CoverInput) (s : State) :
    formHeldLatch i s =
      { s with
        tamper := (formHeldLatch i s).tamper, sw := (formHeldLatch i s).sw, alert := (formHeldLatch i s).alert,
        log := (formHeldLatch i s).log,
        supmon := { s.supmon with request := s.supmon.request || (s.tamper.latch.get i).isSome } } := by
  unfold formHeldLatch
  cases s.tamper.latch.get i with
  | none => simp
  | some l =>
    have hframe := (formLatch_effects i l s).2.2.2.2
    simpa [unlatched] using hframe

/-! ## TAMPER resumes (R119 to R121, R137) -/

theorem PerCover.set_get {α : Type} (v : PerCover α) (i : CoverInput) : v.set i (v.get i) = v := by
  cases i <;> rfl

/-- A held latch becomes one numbered event, and is cleared (R120, R126). -/
theorem formHeldLatch_tamper (i : CoverInput) (s : State) :
    (formHeldLatch i s).tamper =
      { s.tamper with
        ts := if s.tamper.latch.get i = none then s.tamper.ts else min (s.tamper.ts + 1) max32,
        tsLock := (formHeldLatch i s).tamper.tsLock, tsClear := (formHeldLatch i s).tamper.tsClear,
        hold := (formHeldLatch i s).tamper.hold, latch := s.tamper.latch.set i none } := by
  unfold formHeldLatch
  cases hlatch : s.tamper.latch.get i with
  | none =>
    have hsame : s.tamper.latch.set i none = s.tamper.latch := by rw [← hlatch, PerCover.set_get]
    simp [hsame]
  | some l =>
    dsimp only
    rw [(formLatch_effects i l s).1, eventTamper, numberEvent_eq]
    rfl

theorem formHeldLatch_of_none {i : CoverInput} {s : State} (h : s.tamper.latch.get i = none) : formHeldLatch i s = s := by
  unfold formHeldLatch
  rw [h]

theorem formHeldLatch_of_some {i : CoverInput} {l : LatchTime} {s : State} (h : s.tamper.latch.get i = some l) :
    formHeldLatch i s = formLatch i l s := by
  unfold formHeldLatch
  rw [h]

/-- TAMPER's member agrees with the numbers (R137). -/
def tamperAgreed (s : State) : State :=
  demand .tamper (decide (s.tamper.tsClear < s.tamper.tsLock)) { s with tamper := s.tamper.resume s.pins }

theorem resumeTamper_eq (s : State) :
    resumeTamper s = formHeldLatch .terminal (formHeldLatch .cover (tamperAgreed s)) := rfl

theorem tamperAgreed_tamper (s : State) : (tamperAgreed s).tamper = s.tamper.resume s.pins := demand_tamper ..

theorem resumeTamper_of_no_latch {s : State} (h : s.tamper.latch = ⟨none, none⟩) : resumeTamper s = tamperAgreed s := by
  have hlatch : (tamperAgreed s).tamper.latch = ⟨none, none⟩ := by rw [tamperAgreed_tamper]; exact h
  rw [resumeTamper_eq, formHeldLatch_of_none (i := .cover) (by rw [hlatch]; rfl),
    formHeldLatch_of_none (i := .terminal) (by rw [hlatch]; rfl)]

/-- TAMPER after its resumption: the watches of its start, and no latch. -/
theorem resumeTamper_tamper (s : State) :
    (resumeTamper s).tamper =
      { s.tamper.resume s.pins with
        ts := (resumeTamper s).tamper.ts, tsLock := (resumeTamper s).tamper.tsLock,
        tsClear := (resumeTamper s).tamper.tsClear, hold := (resumeTamper s).tamper.hold, latch := ⟨none, none⟩ } := by
  rw [resumeTamper_eq, formHeldLatch_tamper, formHeldLatch_tamper, tamperAgreed_tamper]
  rfl

theorem resumeTamper_ts {s : State} (h : s.tamper.ts ≤ max32) :
    (resumeTamper s).tamper.ts =
      min (s.tamper.ts + (if s.tamper.latch.cover = none then 0 else 1) +
        (if s.tamper.latch.terminal = none then 0 else 1)) max32 := by
  have hcover : (tamperAgreed s).tamper.latch = s.tamper.latch := by rw [tamperAgreed_tamper]; rfl
  have hts : (tamperAgreed s).tamper.ts = s.tamper.ts := by rw [tamperAgreed_tamper]; rfl
  have hterminal : (formHeldLatch .cover (tamperAgreed s)).tamper.latch.get .terminal = s.tamper.latch.terminal := by
    rw [formHeldLatch_tamper, hcover]
    rfl
  have hfirst : (formHeldLatch .cover (tamperAgreed s)).tamper.ts =
      if s.tamper.latch.cover = none then s.tamper.ts else min (s.tamper.ts + 1) max32 := by
    rw [formHeldLatch_tamper, hcover, hts]
    rfl
  rw [resumeTamper_eq, formHeldLatch_tamper, hterminal, hfirst]
  dsimp only
  split <;> split <;> omega

/-- The whole of TAMPER's resumption beside TAMPER itself. -/
theorem resumeTamper_frame (s : State) :
    resumeTamper s =
      { s with
        tamper := (resumeTamper s).tamper, sw := (resumeTamper s).sw, alert := (resumeTamper s).alert,
        log := (resumeTamper s).log,
        supmon := { s.supmon with
          request := s.supmon.request || decide (s.tamper.latch ≠ ⟨none, none⟩) } } := by
  have hcover : (tamperAgreed s).tamper.latch = s.tamper.latch := by rw [tamperAgreed_tamper]; rfl
  have hterminal : (formHeldLatch .cover (tamperAgreed s)).tamper.latch.get .terminal = s.tamper.latch.terminal := by
    rw [formHeldLatch_tamper, hcover]
    rfl
  have hany : (s.tamper.latch.cover.isSome || s.tamper.latch.terminal.isSome) =
      decide (s.tamper.latch ≠ ⟨none, none⟩) := by
    rcases s.tamper.latch with ⟨_ | _, _ | _⟩ <;> simp
  have hagreed : tamperAgreed s =
      { s with
        tamper := (tamperAgreed s).tamper, sw := (tamperAgreed s).sw, alert := (tamperAgreed s).alert } := by
    unfold tamperAgreed
    rw [demand_frame]
  have hfirst := formHeldLatch_frame .cover (tamperAgreed s)
  have hsecond := formHeldLatch_frame .terminal (formHeldLatch .cover (tamperAgreed s))
  rw [← resumeTamper_eq, hterminal] at hsecond
  rw [hcover] at hfirst
  rw [hsecond, hfirst, hagreed, ← hany, ← Bool.or_assoc]
  rfl

end Sys2Proof.Machine

/-! PROOF. The state that a restore selects, and what its end makes of every block (09, 9.4). -/

namespace Sys2Proof.Machine

/-! ## The selected state (R168, R170, R171) -/

/-- The durable values that a cold restore loads: the governing checkpoint's, or the empty ones (R169 to R171). -/
def durable (s : State) : Checkpoint := (governing s.supmon.ring).getD (emptyCheckpoint (fallbackTariff s.tariff.image))

/-- The state that a cold restore loads, before SUPMON's records. -/
def loaded (s : State) : State := loadDurable (durable s) ((governing s.supmon.ring).map (·.counter)) s

theorem selectState_cold (s : State) :
    selectState .cold s = coldRecords (governing s.supmon.ring).isNone (loaded s) := by
  unfold selectState loaded durable
  cases governing s.supmon.ring <;> rfl

theorem coldRecords_frame (lost : Bool) (s : State) : coldRecords lost s = { s with log := (coldRecords lost s).log } := by
  cases lost <;> rfl

/-- What the blocks start from: the part as the stop left it, or with the values that a cold restore loads. -/
def selected (s : State) : State := if s.supmon.retention then loseMain s else loaded (loseMain s)

theorem selected_of_retention {s : State} (h : s.supmon.retention = true) : selected s = loseMain s := if_pos h

theorem selected_of_lost {s : State} (h : s.supmon.retention = false) : selected s = loaded (loseMain s) :=
  if_neg (by simp [h])

/-- A restore selects that state, with SUPMON's records. -/
theorem selectState_eq (s : State) :
    selectState (restoreKind s) (loseMain s) =
      { selected s with log := (selectState (restoreKind s) (loseMain s)).log } := by
  cases hretention : s.supmon.retention with
  | true =>
    rw [selected_of_retention hretention, selectState_of_retention hretention]
    rfl
  | false =>
    rw [selected_of_lost hretention, restoreKind_of_lost hretention, selectState_cold]
    exact coldRecords_frame _ _

/-- LOG with SUPMON's records of the restore. -/
def selectedLog (s : State) : EvidenceLog := (selectState (restoreKind s) (loseMain s)).log

theorem restoreStart_eq (b1 b0 : Bool) (s : State) :
    restoreStart b1 b0 s =
      { selected s with
        mlr := Mlr.restored, tariff := resumeTariff (selected s).tariff, log := selectedLog s,
        alert := (selected s).alert.present .metrologyLost false,
        supmon := { (selected s).supmon with supply := .mainGood, origin := none, restoreTimer := .stopped,
                                             cause := restoreKind s, retention := true, lastDone := none },
        ports := { (selected s).ports with baud := baudOf b1 b0, deaf := !(selected s).pins.mcsn },
        identity := (selected s).identity.resume (restoreKind s),
        pins := { (selected s).pins with baud1 := b1, baud0 := b0 } } := by
  unfold restoreStart resumeSupply selectedLog
  rw [selectState_eq]
  rfl

/-- The watches of a stopped part stand still in the selected state as well. -/
theorem selected_rests (s : State) :
    (selected s).ports = (loseMain s).ports ∧ (selected s).pins = s.pins ∧ (selected s).handed = [] ∧
      (selected s).bill.floor = false ∧ (selected s).code.queue = [] ∧ (selected s).code.flight = none ∧
      (selected s).supmon.brownOut = false ∧ (selected s).supmon.writer = .idle ∧
      (selected s).tamper.feFlag = false ∧ (selected s).tamper.magnetic = false ∧
      (selected s).tamper.release = .stopped ∧ (selected s).tamper.debounce = ⟨.stopped, .stopped⟩ ∧
      (selected s).tamper.hold = [] ∧ (selected s).cal.hold = [] := by
  have hsupmon : (loseMain s).supmon = s.supmon.stop := rfl
  unfold selected
  split
  · refine ⟨rfl, rfl, rfl, rfl, rfl, rfl, ?_, ?_, rfl, rfl, rfl, rfl, rfl, rfl⟩
    · rw [hsupmon, stop_supmon]
    · rw [hsupmon, stop_supmon]
  · refine ⟨rfl, rfl, rfl, rfl, rfl, rfl, ?_, ?_, rfl, rfl, rfl, rfl, rfl, rfl⟩
    · change (loseMain s).supmon.brownOut = false
      rw [hsupmon, stop_supmon]
    · change (loseMain s).supmon.writer = .idle
      rw [hsupmon, stop_supmon]

/-! ## The end of the restore (R167) -/

/-- The part once SWITCH has resolved its position and taken what was held (R113, R114). -/
def switchResumed (b1 b0 : Bool) (s : State) : State := takeHeld s.handed (resumeSwitch (restoreStart b1 b0 s))

/-- The part once TAMPER has formed its latches (R120). -/
def tamperResumed (b1 b0 : Bool) (s : State) : State := resumeTamper (switchResumed b1 b0 s)

theorem restoredBlocks_eq (b1 b0 : Bool) (s : State) :
    restoredBlocks b1 b0 s = resumeBill (restoreKind s) (tamperResumed b1 b0 s) := rfl

theorem switchResumed_frame (b1 b0 : Bool) (s : State) :
    switchResumed b1 b0 s =
      { restoreStart b1 b0 s with
        sw := (switchResumed b1 b0 s).sw, alert := (switchResumed b1 b0 s).alert,
        log := (resumeSwitch (restoreStart b1 b0 s)).log } := by
  unfold switchResumed
  rw [takeHeld_frame, resumeSwitch_frame]

theorem tamperResumed_frame (b1 b0 : Bool) (s : State) :
    tamperResumed b1 b0 s =
      { restoreStart b1 b0 s with
        tamper := (tamperResumed b1 b0 s).tamper, sw := (tamperResumed b1 b0 s).sw,
        alert := (tamperResumed b1 b0 s).alert, log := (tamperResumed b1 b0 s).log,
        supmon := { (restoreStart b1 b0 s).supmon with
          request := (restoreStart b1 b0 s).supmon.request ||
            decide ((restoreStart b1 b0 s).tamper.latch ≠ ⟨none, none⟩) } } := by
  have hframe := resumeTamper_frame (switchResumed b1 b0 s)
  rw [switchResumed_frame] at hframe
  unfold tamperResumed
  rw [switchResumed_frame]
  exact hframe

theorem resumeBill_frame (kind : ResetCause) (s : State) :
    resumeBill kind s =
      { s with
        bill := (resumeBill kind s).bill, sw := (resumeBill kind s).sw, alert := (resumeBill kind s).alert,
        handed := (resumeBill kind s).handed } := by
  cases kind with
  | warm => rfl
  | pin => rfl
  | cold => exact (evaluate_frame s).trans (State.eq_of (handed := by simp [resumeBill]) (bill := rfl) (sw := rfl) (alert := rfl))

theorem finishRestore_frame (b1 b0 : Bool) (s : State) :
    finishRestore b1 b0 s =
      { restoreStart b1 b0 s with
        bill := (restoredBlocks b1 b0 s).bill, sw := (restoredBlocks b1 b0 s).sw,
        tamper := (tamperResumed b1 b0 s).tamper,
        log := { (tamperResumed b1 b0 s).log with
          markRequest := resumedRequest (restoreKind s) (tamperResumed b1 b0 s).log },
        alert := (finishRestore b1 b0 s).alert,
        supmon := { (restoreStart b1 b0 s).supmon with
          request := (restoreStart b1 b0 s).supmon.request ||
            decide ((restoreStart b1 b0 s).tamper.latch ≠ ⟨none, none⟩) },
        handed := (restoredBlocks b1 b0 s).handed } := by
  have hbill := resumeBill_frame (restoreKind s) (tamperResumed b1 b0 s)
  rw [← restoredBlocks_eq, tamperResumed_frame] at hbill
  rw [finishRestore_eq, resumeLog_eq, hbill]
  rfl

end Sys2Proof.Machine

/-! PROOF. SWITCH at the end of a restore (05, 5.10; 09, 9.4). -/

namespace Sys2Proof.Machine

/-! ## What every rule keeps while the hold-off runs (R94 to R97, R115) -/

/-- SWITCH at rest, as a stop of the main domain leaves it (R112). -/
structure AtRest (w : Switch) : Prop where
  phase : w.phase = none
  state : w.state ≠ .opening ∧ w.state ≠ .closing
  attempts : w.attempts = 0
  streak : w.streak = 0
  bypassRaised : w.bypassRaised = false
  deadCoil : w.deadCoil = none
  waiting : w.waiting = []

/-- SWITCH during the end of a restore, over the values it resumed with: an opening asks for a confirmation, and with the
hold-off just started no close pulse runs. -/
structure Resuming (start w : Switch) : Prop where
  position : w.position = start.position
  fault : w.fault = start.fault
  holdOff : w.holdOff = .started
  overload : w.overload = start.overload
  streak : w.streak = 0
  bypassRaised : w.bypassRaised = false
  deadCoil : w.deadCoil = none
  attempts : w.attempts = 0
  waiting : w.waiting = []
  unpulsed : w.state = .closing → w.phase ≠ some .pulse
  confirm : w.confirm = (start.confirm || decide (w.state = .opening))

section Steps

variable {start w : Switch}

theorem Resuming.startOpening (h : Resuming start w) : Resuming start w.startOpening :=
  ⟨h.position, h.fault, h.holdOff, h.overload, rfl, rfl, h.deadCoil, rfl, h.waiting, by simp [Switch.startOpening,
    Switch.operate], by simp [Switch.startOpening, Switch.operate]⟩

theorem Resuming.startClosing (h : Resuming start w) (hnot : w.state ≠ .opening) : Resuming start w.startClosing :=
  ⟨h.position, h.fault, h.holdOff, h.overload, rfl, rfl, h.deadCoil, rfl, h.waiting, by simp [Switch.startClosing,
    Switch.operate], by simpa [Switch.startClosing, Switch.operate, hnot] using h.confirm⟩

theorem Resuming.rest (h : Resuming start w) {st : SwitchState} (hnot : w.state ≠ .opening)
    (hst : st = .opened ∨ st = .armed) : Resuming start { w with state := st } :=
  ⟨h.position, h.fault, h.holdOff, h.overload, h.streak, h.bypassRaised, h.deadCoil, h.attempts, h.waiting,
    by rcases hst with rfl | rfl <;> simp, by
      have hconfirm := h.confirm
      rcases hst with rfl | rfl <;> simpa [hnot] using hconfirm⟩

theorem Resuming.abandonClosing (h : Resuming start w) (hclosing : w.state = .closing) :
    Resuming start w.abandonClosing := by
  unfold Switch.abandonClosing
  rw [cutPulse_of_ne (h.unpulsed hclosing)]
  exact ⟨h.position, h.fault, h.holdOff, h.overload, rfl, rfl, h.deadCoil, rfl, h.waiting, by simp [Switch.operate],
    by simp [Switch.operate]⟩

theorem Resuming.rules (h : Resuming start w) (joined : Bool) : Resuming start (w.rules joined) := by
  cases hstate : w.state with
  | closed =>
    rw [rules_of_closed hstate]
    split
    · exact h.startOpening
    · exact h
  | closing =>
    rw [rules_of_closing hstate]
    split
    · exact h.abandonClosing hstate
    · exact h
  | opened =>
    have hnot : w.state ≠ .opening := by simp [hstate]
    rw [rules_of_opened hstate]
    split
    · split
      · exact h.rest hnot (.inr rfl)
      · exact h.startClosing hnot
    · exact h
  | armed =>
    have hnot : w.state ≠ .opening := by simp [hstate]
    rw [rules_of_armed hstate]
    split
    · exact h.rest hnot (.inl rfl)
    · split
      · exact h
      · exact h.startClosing hnot
  | opening =>
    rw [rules_of_opening (.inl hstate)]
    exact h
  | unknown =>
    rw [rules_of_opening (.inr hstate)]
    exact h

/-- The hold-off withholds the permit of a close pulse (R96, R107). -/
theorem permits_closeCoil {s : State} (h : s.sw.holdOff = .started) : permits s .closeCoil = false := by
  unfold permits
  rw [h]
  simp [Timer.started]

theorem Resuming.settle (h : Resuming start w) (s : State) : Resuming start (settleSwitch w s).sw := by
  have hunpulsed : w.state = .closing → (settleSwitch w s).sw.phase ≠ some .pulse := fun hclosing => by
    have hwithheld : permits { s with sw := w } .closeCoil = false := permits_closeCoil h.holdOff
    rw [settleSwitch_of_withheld (coil_of_closing hclosing) hwithheld]
    exact h.unpulsed hclosing
  rw [settleSwitch_sw] at hunpulsed ⊢
  rw [advance_frame]
  exact ⟨h.position, h.fault, h.holdOff, h.overload, h.streak, h.bypassRaised, h.deadCoil, h.attempts, h.waiting,
    hunpulsed, h.confirm⟩

theorem Resuming.withMember (h : Resuming start w) (m : Member) (add : Bool) : Resuming start (w.withMember m add) :=
  ⟨h.position, h.fault, h.holdOff, h.overload, h.streak, h.bypassRaised, h.deadCoil, h.attempts, h.waiting, h.unpulsed,
    h.confirm⟩

end Steps

section Blocks

variable {start : Switch} {s : State}

theorem Resuming.demand (h : Resuming start s.sw) (m : Member) (add : Bool) : Resuming start (demand m add s).sw := by
  by_cases hsame : s.sw.set.has m = add
  · rw [demand_of_same hsame]
    exact h
  · rw [demand_sw hsame]
    exact ((h.withMember m add).rules add).settle s

theorem Resuming.takeHeld (h : Resuming start s.sw) (held : List Instr) : Resuming start (takeHeld held s).sw := by
  rw [takeHeld_eq]
  induction held generalizing s with
  | nil => exact h
  | cons i held ih =>
    rw [List.foldl_cons]
    refine ih ?_
    unfold heldTaken
    split
    · exact h.demand _ _
    · exact h

theorem Resuming.formHeldLatch (h : Resuming start s.sw) (i : CoverInput) : Resuming start (formHeldLatch i s).sw := by
  cases hlatch : s.tamper.latch.get i with
  | none =>
    rw [formHeldLatch_of_none hlatch]
    exact h
  | some l =>
    rw [formHeldLatch_of_some hlatch, (formLatch_effects i l s).2.2.1]
    unfold eventDemand
    split
    · refine Resuming.demand ?_ _ _
      exact h
    · exact h

theorem Resuming.tamperAgreed (h : Resuming start s.sw) : Resuming start (tamperAgreed s).sw :=
  Resuming.demand (s := { s with tamper := s.tamper.resume s.pins }) h _ _

theorem Resuming.resumeTamper (h : Resuming start s.sw) : Resuming start (resumeTamper s).sw := by
  rw [resumeTamper_eq]
  exact (h.tamperAgreed.formHeldLatch .cover).formHeldLatch .terminal

/-- SWITCH takes a demand without regard to BILL and to the alerts. -/
theorem demand_sw_of (m : Member) (add : Bool) (s : State) (b : Bill) (a : Alert) :
    (demand m add { s with bill := b, alert := a }).sw = (demand m add s).sw := by
  by_cases hsame : s.sw.set.has m = add
  · rw [demand_of_same hsame, demand_of_same (s := { s with bill := b, alert := a }) hsame]
  · rw [demand_sw hsame, demand_sw (s := { s with bill := b, alert := a }) hsame]
    rfl

/-- An evaluation asks of SWITCH that CREDIT be in the set as it decides, and presents that (R37). -/
theorem evaluate_demands (s : State) :
    evaluate s =
      present .creditExhausted (evaluate s).sw.set.credit
        (demand .credit (evaluate s).sw.set.credit (deferralSettled (beforeCredit s))) := by
  have hdemands : ∃ add, creditDemanded (beforeCredit s) = demand .credit add (deferralSettled (beforeCredit s)) := by
    unfold creditDemanded
    split
    · exact ⟨false, rfl⟩
    · split
      next hdeferred =>
        have hout : (deferralSettled (beforeCredit s)).sw.set.has .credit = false := by
          simp only [deferralSettled, Bool.and_eq_true, Bool.not_eq_true'] at hdeferred
          exact hdeferred.1.1.2
        exact ⟨false, (demand_of_same hout).symm⟩
      next => exact ⟨true, rfl⟩
  obtain ⟨add, hadd⟩ := hdemands
  have hcredit : (creditDemanded (beforeCredit s)).sw.set.credit = add := by
    rw [hadd, demand_set]
    rfl
  have hevaluated : (evaluate s).sw.set.credit = add := hcredit
  rw [hevaluated, evaluate_eq, evaluateCredit_eq, hcredit, hadd]

theorem evaluate_sw (s : State) : (evaluate s).sw = (demand .credit (evaluate s).sw.set.credit s).sw :=
  (congrArg State.sw (evaluate_demands s)).trans
    (demand_sw_of .credit (evaluate s).sw.set.credit s (deferralSettled (beforeCredit s)).bill (beforeCredit s).alert)

theorem Resuming.resumeBill (h : Resuming start s.sw) (kind : ResetCause) : Resuming start (resumeBill kind s).sw := by
  cases kind with
  | warm => exact h
  | pin => exact h
  | cold =>
    change Resuming start (evaluate s).sw
    rw [evaluate_sw]
    exact h.demand _ _

end Blocks

/-! ## The position is resolved (R114, R115) -/

/-- SWITCH with its timers started and, where the state was not known and the set is empty, the position that LSENSE shows. -/
def resolved (s : State) : Switch :=
  if s.sw.state = .unknown ∧ s.sw.set.isEmpty = true then
    { s.sw.resume with position := sensed s, state := if s.pins.lsense then .closed else .opened }
  else s.sw.resume

/-- The part once SWITCH's timers have started, and where the state was not known and the set is empty once LSENSE has been
believed. -/
def positioned (s : State) : State :=
  if s.sw.state = .unknown ∧ s.sw.set.isEmpty = true then
    { believe (sensed s) 0 { s with sw := s.sw.resume } with sw := resolved s }
  else { s with sw := s.sw.resume }

/-- The rules of 5.3 at the end of a restore: an opening where members are in the set of a switch whose state is not known. -/
def restoreRules (w : Switch) : Switch := if w.state = .unknown then w.startOpening else w.rules false

theorem resolvePosition_of_known {s : State} (h : s.sw.state ≠ .unknown) :
    resolvePosition s = settleSwitch (restoreRules s.sw) s := by
  unfold restoreRules resolvePosition
  rw [if_neg h]
  split
  next hunknown => exact absurd hunknown h
  all_goals rfl

theorem resolvePosition_of_members {s : State} (h : s.sw.state = .unknown) (hmembers : ¬s.sw.set.isEmpty = true) :
    resolvePosition s = settleSwitch (restoreRules s.sw) s := by
  unfold restoreRules resolvePosition
  rw [if_pos h, h]
  exact if_neg hmembers

theorem resolvePosition_of_empty {s : State} (h : s.sw.state = .unknown) (hempty : s.sw.set.isEmpty = true) :
    resolvePosition s =
      applyRules false { believe (sensed s) 0 s with
        sw := { s.sw with position := sensed s, state := if s.pins.lsense then .closed else .opened } } := by
  unfold resolvePosition
  rw [h]
  refine (if_pos hempty).trans ?_
  dsimp only
  rw [believe_sw]

theorem resolvePosition_eq (s : State) :
    resolvePosition { s with sw := s.sw.resume } = settleSwitch (restoreRules (resolved s)) (positioned s) := by
  by_cases hunknown : s.sw.state = .unknown ∧ s.sw.set.isEmpty = true
  · have hknown : (resolved s).state ≠ .unknown := by
      unfold resolved
      rw [if_pos hunknown]
      dsimp only
      split <;> simp
    have hrules : restoreRules (resolved s) = (resolved s).rules false := if_neg hknown
    have hpositioned : positioned s = { believe (sensed s) 0 { s with sw := s.sw.resume } with sw := resolved s } :=
      if_pos hunknown
    have hresolved : resolved s =
        { s.sw.resume with position := sensed s, state := if s.pins.lsense then .closed else .opened } :=
      if_pos hunknown
    rw [resolvePosition_of_empty (s := { s with sw := s.sw.resume }) hunknown.1 hunknown.2, hrules, hpositioned, hresolved]
    rfl
  · have hresolved : resolved s = s.sw.resume := if_neg hunknown
    have hpositioned : positioned s = { s with sw := s.sw.resume } := if_neg hunknown
    rw [hresolved, hpositioned]
    by_cases hstate : s.sw.state = .unknown
    · exact resolvePosition_of_members (s := { s with sw := s.sw.resume }) hstate fun h => hunknown ⟨hstate, h⟩
    · exact resolvePosition_of_known (s := { s with sw := s.sw.resume }) hstate

theorem startBypass_sw (s : State) : (startBypass s).sw = { s.sw with bypass := (startBypass s).sw.bypass } := by
  unfold startBypass
  split <;> rfl

/-- SWITCH after its resumption: the rules, then the phases as the permits allow (R114, R115). -/
theorem resumeSwitch_sw (s : State) :
    (resumeSwitch s).sw =
      { (settleSwitch (restoreRules (resolved s)) (positioned s)).sw with bypass := (resumeSwitch s).sw.bypass } := by
  unfold resumeSwitch
  rw [startBypass_sw, resolvePosition_eq]

theorem resumeSwitch_armed (s : State) :
    (resumeSwitch s).alert.conditions.armed = decide ((resumeSwitch s).sw.state = .armed) := by
  have halert : (resumeSwitch s).alert = (settleSwitch (restoreRules (resolved s)) (positioned s)).alert := by
    unfold resumeSwitch
    rw [startBypass_frame, resolvePosition_eq]
  rw [halert, settleSwitch_armed, resumeSwitch_sw, settleSwitch_sw, advance_frame]

section Resolved

variable {s : State}

theorem resuming_resolved (h : AtRest s.sw) : Resuming (resolved s) (resolved s) := by
  have hconfirm : ∀ {w : Switch}, w.state ≠ .opening → w.confirm = (w.confirm || decide (w.state = .opening)) :=
    fun {w} hnot => by simp [hnot]
  by_cases hunknown : s.sw.state = .unknown ∧ s.sw.set.isEmpty = true
  · have hresolved : resolved s =
        { s.sw.resume with position := sensed s, state := if s.pins.lsense then .closed else .opened } :=
      if_pos hunknown
    have hstate : (resolved s).state ≠ .opening ∧ (resolved s).state ≠ .closing := by
      rw [hresolved]
      dsimp only
      split <;> simp
    refine ⟨rfl, rfl, ?_, rfl, ?_, ?_, ?_, ?_, ?_, fun hclosing => absurd hclosing hstate.2, hconfirm hstate.1⟩
    all_goals rw [hresolved]
    · rfl
    · exact h.streak
    · exact h.bypassRaised
    · exact h.deadCoil
    · exact h.attempts
    · exact h.waiting
  · have hresolved : resolved s = s.sw.resume := if_neg hunknown
    rw [hresolved]
    exact ⟨rfl, rfl, rfl, rfl, h.streak, h.bypassRaised, h.deadCoil, h.attempts, h.waiting,
      fun hclosing => absurd hclosing h.state.2, hconfirm h.state.1⟩

theorem resuming_resumeSwitch (h : AtRest s.sw) : Resuming (resolved s) (resumeSwitch s).sw := by
  have hruled : Resuming (resolved s) (restoreRules (resolved s)) := by
    unfold restoreRules
    split
    · exact (resuming_resolved h).startOpening
    · exact (resuming_resolved h).rules false
  have hsettled := hruled.settle (positioned s)
  rw [resumeSwitch_sw]
  exact ⟨hsettled.position, hsettled.fault, hsettled.holdOff, hsettled.overload, hsettled.streak, hsettled.bypassRaised,
    hsettled.deadCoil, hsettled.attempts, hsettled.waiting, hsettled.unpulsed, hsettled.confirm⟩

theorem resumeSwitch_state (s : State) : (resumeSwitch s).sw.state = (restoreRules (resolved s)).state := by
  rw [resumeSwitch_sw, settleSwitch_sw, advance_frame]

theorem resumeSwitch_set (s : State) : (resumeSwitch s).sw.set = s.sw.set := by
  have hresolved : (resolved s).set = s.sw.set := by
    unfold resolved
    split <;> rfl
  have hruled : (restoreRules (resolved s)).set = (resolved s).set := by
    unfold restoreRules
    split
    · rfl
    · exact rules_set _ _
  rw [resumeSwitch_sw]
  exact (settleSwitch_set _ _).trans (hruled.trans hresolved)

end Resolved

end Sys2Proof.Machine

/-! PROOF. The records of a restore, one number after another (07, 7.2 and 7.6; 09, 9.4). -/

namespace Sys2Proof.Machine

/-! ## Records that take numbers one after another (R140) -/

/-- Records with the numbers from n on. -/
def numbered (n : Nat) : List Record → List LogRecord
  | [] => []
  | r :: rs => ⟨n, r⟩ :: numbered (n + 1) rs

theorem numbered_concat (n : Nat) (rs : List Record) (r : Record) :
    numbered n (rs ++ [r]) = numbered n rs ++ [⟨n + rs.length, r⟩] := by
  induction rs generalizing n with
  | nil => rfl
  | cons x rs ih =>
    rw [List.cons_append, numbered, numbered, ih, List.length_cons, List.cons_append, Nat.add_right_comm, Nat.add_assoc]

theorem length_numbered (n : Nat) (rs : List Record) : (numbered n rs).length = rs.length := by
  induction rs generalizing n with
  | nil => rfl
  | cons r rs ih => rw [numbered, List.length_cons, List.length_cons, ih]

theorem bodies_numbered (n : Nat) (rs : List Record) : (numbered n rs).map (·.body) = rs := by
  induction rs generalizing n with
  | nil => rfl
  | cons r rs ih => rw [numbered, List.map_cons, ih]

/-- LOG with records staged behind those that stand there, from the number n on. -/
def EvidenceLog.withStaged (l : EvidenceLog) (n : Nat) (rs : List Record) : EvidenceLog :=
  { l with staging := l.staging ++ numbered n rs, next := some (n + rs.length) }

theorem accept_withStaged {l : EvidenceLog} {n : Nat} {rs : List Record} (r : Record) (hfit : n + rs.length < max32) :
    (l.withStaged n rs).accept (n + rs.length) r = l.withStaged n (rs ++ [r]) := by
  unfold EvidenceLog.accept EvidenceLog.withStaged
  rw [numbered_concat, if_neg hfit.ne, List.append_assoc, List.length_append, List.length_singleton, Nat.add_assoc]

/-- Nothing waits at an origin, and LOG holds the records staged so far. -/
structure Staged (l : EvidenceLog) (n : Nat) (rs : List Record) (s : State) : Prop where
  log : s.log = l.withStaged n rs
  tamper : s.tamper.hold = []
  switch : s.sw.waiting = []
  calendar : s.cal.hold = []

/-- There is a number and a place for one more record. -/
def Fits (l : EvidenceLog) (n : Nat) (rs : List Record) : Prop := n + rs.length < max32 ∧ l.staging.length + rs.length < 8

section Staging

variable {l : EvidenceLog} {n : Nat} {rs : List Record} {s : State}

theorem Staged.not_waiting (h : Staged l n rs s) : evidenceWaiting s = false := by
  unfold evidenceWaiting
  rw [h.tamper, h.switch, h.calendar]
  rfl

theorem Fits.room (h : Fits l n rs) : (l.withStaged n rs).room = true := by
  refine decide_eq_true ?_
  have hlength : (l.withStaged n rs).staging.length = l.staging.length + rs.length := by
    rw [EvidenceLog.withStaged, List.length_append, length_numbered]
  exact hlength.trans_lt h.2

theorem offerRoutine_withStaged (h : Fits l n rs) (r : Record) :
    (l.withStaged n rs).offerRoutine false r = l.withStaged n (rs ++ [r]) := by
  have haccept := accept_withStaged (l := l) r h.1
  unfold EvidenceLog.offerRoutine
  rw [h.room]
  exact haccept

theorem Staged.routine (h : Staged l n rs s) (hfit : Fits l n rs) (r : Record) :
    Staged l n (rs ++ [r]) (stageRoutine r s) := by
  refine ⟨?_, h.tamper, h.switch, h.calendar⟩
  rw [stageRoutine_log, h.log, h.not_waiting, offerRoutine_withStaged hfit]

theorem offerEvidence_withStaged (h : Fits l n rs) (r : Record) :
    (l.withStaged n rs).offerEvidence r = some (l.withStaged n (rs ++ [r])) := by
  have haccept := accept_withStaged (l := l) r h.1
  unfold EvidenceLog.offerEvidence
  rw [h.room]
  exact congrArg some haccept

theorem Staged.supmon (h : Staged l n rs s) (hfit : Fits l n rs) (r : Record) :
    Staged l n (rs ++ [r]) (stageSupmon r s) := by
  refine ⟨?_, h.tamper, h.switch, h.calendar⟩
  rw [stageSupmon_log, h.log, offerEvidence_withStaged hfit]
  rfl

/-! ## SWITCH and TAMPER (R103, R120) -/

/-- The record of a believed position that changes as SWITCH resolves it (R103, R114). -/
def positionRecords (s : State) : List Record :=
  if (s.sw.state = .unknown ∧ s.sw.set.isEmpty = true) ∧ s.sw.position ≠ sensed s then [positionRecord (sensed s) 0 s] else []

theorem resumeSwitch_log (s : State) : (resumeSwitch s).log = (positioned s).log := by
  unfold resumeSwitch
  rw [startBypass_frame, resolvePosition_eq]
  rfl

theorem positioned_log (s : State) :
    (positioned s).log =
      if (s.sw.state = .unknown ∧ s.sw.set.isEmpty = true) ∧ s.sw.position ≠ sensed s then
        s.log.offerRoutine (evidenceWaiting s) (positionRecord (sensed s) 0 s)
      else s.log := by
  unfold positioned
  by_cases hunknown : s.sw.state = .unknown ∧ s.sw.set.isEmpty = true
  · rw [if_pos hunknown]
    by_cases hsame : s.sw.position = sensed s
    · rw [if_neg (fun h => h.2 hsame)]
      change (believe (sensed s) 0 { s with sw := s.sw.resume }).log = _
      rw [believe_of_same (s := { s with sw := s.sw.resume }) 0 hsame]
    · rw [if_pos ⟨hunknown, hsame⟩]
      exact (believe_of_changed (s := { s with sw := s.sw.resume }) (sensed_ne_unknown s) hsame).1
  · rw [if_neg hunknown, if_neg (fun h => hunknown h.1)]

theorem Staged.resumeSwitch (h : Staged l n rs s) (hrest : AtRest s.sw) (hfit : Fits l n rs) :
    Staged l n (rs ++ positionRecords s) (resumeSwitch s) := by
  have hframe := resumeSwitch_frame s
  have htamper := congrArg State.tamper hframe
  have hcal := congrArg State.cal hframe
  refine ⟨?_, ?_, (resuming_resumeSwitch hrest).waiting, ?_⟩
  · rw [resumeSwitch_log, positioned_log, h.log, h.not_waiting, positionRecords]
    split
    · exact offerRoutine_withStaged hfit _
    · rw [List.append_nil]
  · rw [htamper]
    exact h.tamper
  · rw [hcal]
    exact h.calendar

theorem Staged.takeHeld {start : Switch} (h : Staged l n rs s) (hresuming : Resuming start s.sw) (held : List Instr) :
    Staged l n rs (takeHeld held s) := by
  have hframe := takeHeld_frame held s
  exact ⟨(congrArg State.log hframe).trans h.log, (congrArg State.tamper hframe ▸ h.tamper),
    (hresuming.takeHeld held).waiting, (congrArg State.cal hframe ▸ h.calendar)⟩

/-- The record of a latch that TAMPER forms (R120, R128). -/
def latchRecords (i : CoverInput) (s : State) : List Record :=
  match s.tamper.latch.get i with
  | some x => [eventRecord (coverKind i) x.time x.valid s]
  | none => []

theorem stageFrom_withStaged {cap : Nat} (h : Fits l n rs) (r : Record) :
    (l.withStaged n rs).stageFrom [] cap r = ([], l.withStaged n (rs ++ [r])) := by
  have hoffer := offerEvidence_withStaged h r
  unfold EvidenceLog.stageFrom
  rw [hoffer]
  rfl

theorem Staged.formHeldLatch {start : Switch} (h : Staged l n rs s) (hresuming : Resuming start s.sw) (i : CoverInput)
    (hfit : Fits l n rs) : Staged l n (rs ++ latchRecords i s) (formHeldLatch i s) := by
  unfold latchRecords
  have hwaiting := (hresuming.formHeldLatch i).waiting
  cases hlatch : s.tamper.latch.get i with
  | none =>
    rw [formHeldLatch_of_none hlatch, List.append_nil]
    exact h
  | some x =>
    rw [formHeldLatch_of_some hlatch] at hwaiting ⊢
    obtain ⟨htamper, hlog, -, -, hframe⟩ := formLatch_effects i x s
    have hcal := congrArg State.cal hframe
    have hstaged : eventStaged (coverKind i) x.time x.valid (unlatched i s) =
        ([], l.withStaged n (rs ++ [eventRecord (coverKind i) x.time x.valid s])) := by
      have hhold : (unlatched i s).tamper.hold = [] := h.tamper
      have hlog' : (unlatched i s).log = l.withStaged n rs := h.log
      rw [eventStaged, hhold, hlog', stageFrom_withStaged hfit]
      rfl
    refine ⟨?_, ?_, hwaiting, ?_⟩
    · rw [hlog, hstaged]
    · rw [htamper, eventTamper, hstaged]
    · rw [hcal]
      exact h.calendar

theorem Staged.tamperAgreed {start : Switch} (h : Staged l n rs s) (hresuming : Resuming start s.sw) :
    Staged l n rs (tamperAgreed s) := by
  exact ⟨(demand_log ..).trans h.log, (congrArg Tamper.hold (tamperAgreed_tamper s)).trans h.tamper,
    hresuming.tamperAgreed.waiting,
    (congrArg Calendar.hold (demand_cal ..)).trans h.calendar⟩

theorem Fits.of_append {xs : List Record} (h : Fits l n (rs ++ xs)) : Fits l n rs := by
  obtain ⟨hnumber, hroom⟩ := h
  rw [List.length_append] at hnumber hroom
  exact ⟨by omega, by omega⟩

theorem withStaged_nil (h : l.next = some n) : l.withStaged n [] = l := by
  unfold EvidenceLog.withStaged numbered
  rw [List.append_nil, List.length_nil, Nat.add_zero, ← h]

end Staging

/-! ## The records of the whole restore (R103, R120, R151, R167) -/

theorem atRest_stop (w : Switch) : AtRest w.stop := by
  obtain ⟨hstop, hmoving, hresting⟩ := stop_sw w
  have hstate : w.stop.state ≠ .opening ∧ w.stop.state ≠ .closing := by
    by_cases hopening : w.state = .opening
    · rw [(hmoving (.inl hopening)).1]
      simp
    · by_cases hclosing : w.state = .closing
      · rw [(hmoving (.inr hclosing)).1]
        simp
      · rw [(hresting hopening hclosing).1]
        exact ⟨hopening, hclosing⟩
  exact ⟨congrArg Switch.phase hstop, hstate, congrArg Switch.attempts hstop, congrArg Switch.streak hstop,
    congrArg Switch.bypassRaised hstop, congrArg Switch.deadCoil hstop, congrArg Switch.waiting hstop⟩

theorem atRest_selected (s : State) : AtRest (selected s).sw := by
  have hstop := atRest_stop s.sw
  unfold selected
  split
  · exact hstop
  · exact ⟨hstop.phase, ⟨nofun, nofun⟩, hstop.attempts, hstop.streak, hstop.bypassRaised, hstop.deadCoil, hstop.waiting⟩

theorem restoreStart_atRest (b1 b0 : Bool) (s : State) : AtRest (restoreStart b1 b0 s).sw := by
  rw [restoreStart_eq]
  exact atRest_selected s

theorem staged_restoreStart {b1 b0 : Bool} {s : State} {l : EvidenceLog} {n : Nat} {rs : List Record}
    (h : selectedLog s = l.withStaged n rs) : Staged l n rs (restoreStart b1 b0 s) := by
  obtain ⟨-, -, -, -, -, -, -, -, -, -, -, -, hhold, hcal⟩ := selected_rests s
  refine ⟨?_, ?_, (restoreStart_atRest b1 b0 s).waiting, ?_⟩
  · rw [restoreStart_eq]
    exact h
  · rw [restoreStart_eq]
    exact hhold
  · rw [restoreStart_eq]
    exact hcal

/-- SUPMON's record of a restore with the retained values (R167). -/
theorem selectedLog_of_retention {s : State} {n : Nat} (h : s.supmon.retention = true)
    (hnext : s.log.next = some n) (hfit : Fits (loseMain s).log n []) :
    selectedLog s = (loseMain s).log.withStaged n [recordNow .powerRestore s] := by
  have hnil : (loseMain s).log.withStaged n [] = (loseMain s).log := withStaged_nil hnext
  have hoffer := offerRoutine_withStaged hfit (recordNow .powerRestore s)
  have hquiet : evidenceWaiting (loseMain s) = false := by
    have hwaiting : (loseMain s).sw.waiting = [] := (atRest_stop s.sw).waiting
    unfold evidenceWaiting
    rw [hwaiting]
    rfl
  rw [hnil] at hoffer
  rw [selectedLog, selectState_of_retention h, stageRoutine_log, hquiet]
  exact hoffer

theorem switchResumed_resuming (b1 b0 : Bool) (s : State) :
    Resuming (resolved (restoreStart b1 b0 s)) (switchResumed b1 b0 s).sw :=
  (resuming_resumeSwitch (restoreStart_atRest b1 b0 s)).takeHeld _

theorem tamperResumed_resuming (b1 b0 : Bool) (s : State) :
    Resuming (resolved (restoreStart b1 b0 s)) (tamperResumed b1 b0 s).sw := (switchResumed_resuming b1 b0 s).resumeTamper

theorem restoredBlocks_resuming (b1 b0 : Bool) (s : State) :
    Resuming (resolved (restoreStart b1 b0 s)) (restoredBlocks b1 b0 s).sw :=
  (tamperResumed_resuming b1 b0 s).resumeBill _

/-- The part before TAMPER forms its latches (R120, R137). -/
def latchesHeld (b1 b0 : Bool) (s : State) : State := tamperAgreed (switchResumed b1 b0 s)

theorem latchesHeld_tamper (b1 b0 : Bool) (s : State) :
    (latchesHeld b1 b0 s).tamper = (restoreStart b1 b0 s).tamper.resume (restoreStart b1 b0 s).pins := by
  unfold latchesHeld
  rw [tamperAgreed_tamper, switchResumed_frame]

theorem staged_tamperResumed {b1 b0 : Bool} {s : State} {l : EvidenceLog} {n : Nat} {rs : List Record}
    (h : selectedLog s = l.withStaged n rs)
    (hfit : Fits l n (rs ++ positionRecords (restoreStart b1 b0 s) ++ latchRecords .cover (latchesHeld b1 b0 s))) :
    (tamperResumed b1 b0 s).log =
      l.withStaged n
        (rs ++ positionRecords (restoreStart b1 b0 s) ++ latchRecords .cover (latchesHeld b1 b0 s) ++
          latchRecords .terminal (formHeldLatch .cover (latchesHeld b1 b0 s))) := by
  have hresuming := switchResumed_resuming b1 b0 s
  have hagreed : Resuming (resolved (restoreStart b1 b0 s)) (latchesHeld b1 b0 s).sw := hresuming.tamperAgreed
  have hswitch := (staged_restoreStart (b1 := b1) (b0 := b0) h).resumeSwitch (restoreStart_atRest b1 b0 s)
    hfit.of_append.of_append
  have hheld : Staged l n (rs ++ positionRecords (restoreStart b1 b0 s)) (switchResumed b1 b0 s) :=
    hswitch.takeHeld (resuming_resumeSwitch (restoreStart_atRest b1 b0 s)) _
  have hcover := (hheld.tamperAgreed hresuming).formHeldLatch hagreed .cover hfit.of_append
  exact (hcover.formHeldLatch (hagreed.formHeldLatch .cover) .terminal hfit).log

end Sys2Proof.Machine

/-! PROOF. The alerts of a restore (09, 9.4; 11, 11.1 and 11.4). -/

namespace Sys2Proof.Machine

/-! ## Presentations and occurrences, one after another (R190, R191) -/

/-- A latched class is signalled on both ports (R190). -/
def Alert.signal (a : Alert) (k : LatchedClass) : Alert :=
  { a with ports := ⟨a.ports.meter.raise (.latched k), a.ports.network.raise (.latched k)⟩ }

/-- What presentations of some conditions and signals of some latched classes make of the alerts. -/
inductive AlertSteps (cs : List ConditionClass) (ks : List LatchedClass) : Alert → Alert → Prop where
  | refl (a : Alert) : AlertSteps cs ks a a
  | present {a b : Alert} (c : ConditionClass) (now : Bool) (h : c ∈ cs) (steps : AlertSteps cs ks a b) :
      AlertSteps cs ks a (b.present c now)
  | signal {a b : Alert} (k : LatchedClass) (h : k ∈ ks) (steps : AlertSteps cs ks a b) : AlertSteps cs ks a (b.signal k)

section Steps

variable {cs ds : List ConditionClass} {ks js : List LatchedClass} {a b c : Alert}

theorem AlertSteps.trans (hab : AlertSteps cs ks a b) (hbc : AlertSteps cs ks b c) : AlertSteps cs ks a c := by
  induction hbc with
  | refl => exact hab
  | present d now hd _ ih => exact ih.present d now hd
  | signal k hk _ ih => exact ih.signal k hk

theorem AlertSteps.mono (h : AlertSteps cs ks a b) (hcs : cs ⊆ ds) (hks : ks ⊆ js) : AlertSteps ds js a b := by
  induction h with
  | refl => exact .refl _
  | present d now hd _ ih => exact ih.present d now (hcs hd)
  | signal k hk _ ih => exact ih.signal k (hks hk)

theorem present_get (a : Alert) (d : ConditionClass) (now : Bool) (p : Port) :
    (a.present d now).ports.get p = a.ports.get p ∨
      (a.present d now).ports.get p = (a.ports.get p).raise (.condition d) := by
  unfold Alert.present
  dsimp only
  split
  · cases p with
    | meter =>
      change (if onMeter d then a.ports.meter.raise (.condition d) else a.ports.meter) = _ ∨ _ = _
      split
      · exact .inr rfl
      · exact .inl rfl
    | network => exact .inr rfl
  · exact .inl rfl

theorem signal_get (a : Alert) (k : LatchedClass) (p : Port) :
    (a.signal k).ports.get p = (a.ports.get p).raise (.latched k) := by
  cases p <;> rfl

/-- The level tables and the thresholds stand through every alert (R195). -/
theorem AlertSteps.levels (h : AlertSteps cs ks a b) (p : Port) :
    (b.ports.get p).levels = (a.ports.get p).levels ∧ (b.ports.get p).threshold = (a.ports.get p).threshold := by
  induction h with
  | refl => exact ⟨rfl, rfl⟩
  | present d now _ _ ih =>
    rcases present_get _ d now p with heq | heq
    · rw [heq]
      exact ih
    · rw [heq]
      exact ih
  | signal k _ _ ih =>
    rw [signal_get]
    exact ih

/-- A latched class that is not among those signalled stands. -/
theorem AlertSteps.latched (h : AlertSteps cs ks a b) {k : LatchedClass} (hk : k ∉ ks) (p : Port) :
    (b.ports.get p).classes.get (.latched k) = (a.ports.get p).classes.get (.latched k) := by
  induction h with
  | refl => rfl
  | present d now _ _ ih =>
    rcases present_get _ d now p with heq | heq
    · rw [heq]
      exact ih
    · rw [heq, PortAlert.raise_get_ne _ (by simp)]
      exact ih
  | signal j hj _ ih =>
    have hne : AlertClass.latched k ≠ .latched j := fun heq => hk (by cases heq; exact hj)
    rw [signal_get, PortAlert.raise_get_ne _ hne]
    exact ih

theorem conditions_set_ne {d e : ConditionClass} (v : PerCondition Bool) (x : Bool) (h : d ≠ e) :
    (v.set e x).get d = v.get d := by
  cases d <;> cases e <;> first | rfl | exact absurd rfl h

/-- A condition that is not among those presented stands. -/
theorem AlertSteps.condition (h : AlertSteps cs ks a b) {d : ConditionClass} (hd : d ∉ cs) :
    b.conditions.get d = a.conditions.get d ∧
      ∀ p, (b.ports.get p).classes.get (.condition d) = (a.ports.get p).classes.get (.condition d) := by
  induction h with
  | refl => exact ⟨rfl, fun _ => rfl⟩
  | present e now he _ ih =>
    obtain ⟨hcondition, hclass⟩ := ih
    have hne : d ≠ e := fun heq => hd (heq ▸ he)
    refine ⟨(conditions_set_ne _ now hne).trans hcondition, fun p => ?_⟩
    rcases present_get _ e now p with heq | heq
    · rw [heq]
      exact hclass p
    · rw [heq, PortAlert.raise_get_ne _ (by simpa using hne)]
      exact hclass p
  | signal k _ _ ih =>
    obtain ⟨hcondition, hclass⟩ := ih
    refine ⟨hcondition, fun p => ?_⟩
    rw [signal_get, PortAlert.raise_get_ne _ (by simp)]
    exact hclass p

end Steps

/-! ## What each block alerts (R93, R103, R114, R129) -/

section Blocks

variable {ks : List LatchedClass}

theorem steps_settleSwitch (w : Switch) (s : State) :
    AlertSteps [.armed] ks s.alert (settleSwitch w s).alert := (AlertSteps.refl _).present _ _ (by simp)

theorem steps_demand (m : Member) (add : Bool) (s : State) :
    AlertSteps [.armed, .creditExhausted] ks s.alert (demand m add s).alert := by
  unfold demand
  split
  · exact .refl _
  · have hrules : AlertSteps [.armed, .creditExhausted] ks s.alert
        (applyRules add { s with sw := { s.sw with set := s.sw.set.put m add } }).alert :=
      (steps_settleSwitch _ { s with sw := { s.sw with set := s.sw.set.put m add } }).mono (by simp) (List.Subset.refl _)
    dsimp only
    split
    · exact hrules.present _ _ (by simp)
    · exact hrules

/-- A demand of a member other than CREDIT presents ARMED alone (R93). -/
theorem steps_demand_other {m : Member} (add : Bool) (s : State) (h : m ≠ .credit) :
    AlertSteps [.armed] ks s.alert (demand m add s).alert := by
  by_cases hsame : s.sw.set.has m = add
  · rw [demand_of_same hsame]
    exact .refl _
  · unfold demand
    rw [if_neg hsame]
    dsimp only
    rw [if_neg h]
    exact steps_settleSwitch _ { s with sw := { s.sw with set := s.sw.set.put m add } }

theorem steps_takeHeld (held : List Instr) (s : State) :
    AlertSteps [.armed, .creditExhausted] ks s.alert (takeHeld held s).alert := by
  rw [takeHeld_eq]
  induction held generalizing s with
  | nil => exact .refl _
  | cons i held ih =>
    rw [List.foldl_cons]
    refine AlertSteps.trans ?_ (ih (heldTaken s i))
    unfold heldTaken
    split
    · exact steps_demand _ _ _
    · exact .refl _

theorem steps_tamperAgreed (s : State) : AlertSteps [.armed] ks s.alert (tamperAgreed s).alert :=
  steps_demand_other _ { s with tamper := s.tamper.resume s.pins } (by simp)

theorem steps_formHeldLatch (i : CoverInput) (s : State) :
    AlertSteps [.armed] [.tamper] s.alert (formHeldLatch i s).alert := by
  cases hlatch : s.tamper.latch.get i with
  | none =>
    rw [formHeldLatch_of_none hlatch]
    exact .refl _
  | some l =>
    have hdemand : AlertSteps [.armed] [.tamper] s.alert (eventDemand (coverKind i) (unlatched i s)).alert := by
      unfold eventDemand
      split
      · exact steps_demand_other true
          { unlatched i s with
            tamper := numberEvent (unlatched i s).active.policy.lockout (coverKind i) (unlatched i s).tamper } (by simp)
      · exact .refl _
    rw [formHeldLatch_of_some hlatch, formLatch, tamperEvent_eq]
    exact hdemand.signal .tamper (by simp)

theorem steps_resumeTamper (s : State) : AlertSteps [.armed] [.tamper] s.alert (resumeTamper s).alert := by
  rw [resumeTamper_eq]
  exact ((steps_tamperAgreed s).trans (steps_formHeldLatch .cover _)).trans (steps_formHeldLatch .terminal _)

/-- The presentations of an evaluation, in their order (R38). -/
theorem steps_evaluate (s : State) :
    AlertSteps [.emergencyAvailable, .lowCredit, .armed, .creditExhausted] ks s.alert (evaluate s).alert := by
  have hbefore : AlertSteps [.emergencyAvailable, .lowCredit, .armed, .creditExhausted] ks s.alert
      (deferralSettled (beforeCredit s)).alert :=
    ((AlertSteps.refl _).present _ _ (by simp)).present _ _ (by simp)
  have hdemand : AlertSteps [.emergencyAvailable, .lowCredit, .armed, .creditExhausted] ks s.alert
      (demand .credit (evaluate s).sw.set.credit (deferralSettled (beforeCredit s))).alert :=
    hbefore.trans ((steps_demand _ _ _).mono (by simp) (List.Subset.refl _))
  rw [evaluate_demands]
  exact hdemand.present _ _ (by simp)

theorem steps_resumeBill (kind : ResetCause) (s : State) :
    AlertSteps [.emergencyAvailable, .lowCredit, .armed, .creditExhausted] ks s.alert (resumeBill kind s).alert := by
  cases kind with
  | warm => exact .refl _
  | pin => exact .refl _
  | cold => exact steps_evaluate s

/-- The classes that SWITCH signals as it resolves its position (R103, R114). -/
def positionSignals (s : State) : List LatchedClass :=
  if (s.sw.state = .unknown ∧ s.sw.set.isEmpty = true) ∧ s.sw.position ≠ sensed s then [.supplyChanged] else []

theorem positioned_alert (s : State) :
    (positioned s).alert =
      if (s.sw.state = .unknown ∧ s.sw.set.isEmpty = true) ∧ s.sw.position ≠ sensed s then s.alert.signal .supplyChanged
      else s.alert := by
  unfold positioned
  by_cases hunknown : s.sw.state = .unknown ∧ s.sw.set.isEmpty = true
  · rw [if_pos hunknown]
    by_cases hsame : s.sw.position = sensed s
    · rw [if_neg (fun h => h.2 hsame)]
      change (believe (sensed s) 0 { s with sw := s.sw.resume }).alert = _
      rw [believe_of_same (s := { s with sw := s.sw.resume }) 0 hsame]
    · have hmoves : ¬(sensed s = s.sw.position ∨ sensed s = .unknown) := fun h =>
        h.elim (fun heq => hsame heq.symm) (sensed_ne_unknown s)
      rw [if_pos ⟨hunknown, hsame⟩]
      change (believe (sensed s) 0 { s with sw := s.sw.resume }).alert = _
      unfold believe
      exact congrArg State.alert (if_neg hmoves)
  · rw [if_neg hunknown, if_neg (fun h => hunknown h.1)]

theorem resumeSwitch_alert (s : State) :
    (resumeSwitch s).alert = (settleSwitch (restoreRules (resolved s)) (positioned s)).alert := by
  unfold resumeSwitch
  rw [startBypass_frame, resolvePosition_eq]

theorem steps_resumeSwitch (s : State) :
    AlertSteps [.armed] (positionSignals s) s.alert (resumeSwitch s).alert := by
  have hpositioned : AlertSteps [.armed] (positionSignals s) s.alert (positioned s).alert := by
    rw [positioned_alert]
    unfold positionSignals
    split
    · exact (AlertSteps.refl _).signal _ (by simp)
    · exact .refl _
  rw [resumeSwitch_alert]
  exact hpositioned.trans (steps_settleSwitch _ _)

/-- A position that SWITCH comes to believe is signalled once (R103, R114). -/
theorem resumeSwitch_signals {s : State} (hunknown : s.sw.state = .unknown) (hempty : s.sw.set.isEmpty = true)
    (hposition : s.sw.position ≠ sensed s) (p : Port) :
    Signalled (.latched .supplyChanged) (s.alert.ports.get p) ((resumeSwitch s).alert.ports.get p) := by
  have hsignal : (positioned s).alert = s.alert.signal .supplyChanged :=
    (positioned_alert s).trans (if_pos ⟨⟨hunknown, hempty⟩, hposition⟩)
  have hsettled := (steps_settleSwitch (ks := []) (restoreRules (resolved s)) (positioned s)).latched
    (k := .supplyChanged) (by simp) p
  unfold Signalled
  rw [resumeSwitch_alert, hsettled, hsignal, signal_get, PortAlert.raise_get_self]

end Blocks

/-! ## The whole restore (R191, R196) -/

theorem finishRestore_alert (b1 b0 : Bool) (s : State) :
    (finishRestore b1 b0 s).alert =
      (((restoredBlocks b1 b0 s).alert.present .evidenceThreshold
        (decide ((restoredBlocks b1 b0 s).log.threshold ≤ (restoredBlocks b1 b0 s).log.uncollected))).signal
          .powerRestored) := by
  rw [finishRestore_eq, resumeLog_eq]
  rfl

theorem steps_finishRestore (b1 b0 : Bool) (s : State) :
    AlertSteps [.evidenceThreshold] [.powerRestored] (restoredBlocks b1 b0 s).alert (finishRestore b1 b0 s).alert := by
  rw [finishRestore_alert]
  exact ((AlertSteps.refl _).present _ _ (by simp)).signal _ (by simp)

theorem steps_switchResumed (b1 b0 : Bool) (s : State) :
    AlertSteps [.armed, .creditExhausted] (positionSignals (restoreStart b1 b0 s)) (restoreStart b1 b0 s).alert
      (switchResumed b1 b0 s).alert :=
  ((steps_resumeSwitch _).mono (by simp) (List.Subset.refl _)).trans (steps_takeHeld _ _)

/-- What the blocks signal before LOG resumes. -/
theorem steps_restoredBlocks (b1 b0 : Bool) (s : State) :
    AlertSteps [.emergencyAvailable, .lowCredit, .armed, .creditExhausted]
      (positionSignals (restoreStart b1 b0 s) ++
        if (restoreStart b1 b0 s).tamper.latch = ⟨none, none⟩ then [] else [.tamper])
      (restoreStart b1 b0 s).alert (restoredBlocks b1 b0 s).alert := by
  have hswitch := (steps_switchResumed b1 b0 s).mono
    (ds := [.emergencyAvailable, .lowCredit, .armed, .creditExhausted])
    (js := positionSignals (restoreStart b1 b0 s) ++
      if (restoreStart b1 b0 s).tamper.latch = ⟨none, none⟩ then [] else [.tamper]) (by simp) (by simp)
  have htamper : AlertSteps [.emergencyAvailable, .lowCredit, .armed, .creditExhausted]
      (positionSignals (restoreStart b1 b0 s) ++
        if (restoreStart b1 b0 s).tamper.latch = ⟨none, none⟩ then [] else [.tamper])
      (switchResumed b1 b0 s).alert (tamperResumed b1 b0 s).alert := by
    by_cases hlatch : (restoreStart b1 b0 s).tamper.latch = ⟨none, none⟩
    · have hnone : (switchResumed b1 b0 s).tamper.latch = ⟨none, none⟩ := by rw [switchResumed_frame]; exact hlatch
      unfold tamperResumed
      rw [resumeTamper_of_no_latch hnone]
      exact (steps_tamperAgreed _).mono (by simp) (List.Subset.refl _)
    · rw [if_neg hlatch]
      exact (steps_resumeTamper _).mono (by simp) (by simp)
  exact (hswitch.trans htamper).trans (steps_resumeBill _ _)

end Sys2Proof.Machine

/-! PROOF. Conditions that a cold restore presents first (09, 9.4; 11, 11.1). -/

namespace Sys2Proof.Machine

/-- A condition that has not been presented since ALERT took its defaults (R196). -/
def Unpresented (c : ConditionClass) (a : Alert) : Prop :=
  a.conditions.get c = false ∧ ∀ p, (a.ports.get p).classes.get (.condition c) = ⟨false, 0#8⟩

/-- A condition that has had at most its onset since ALERT took its defaults (R191, R196). -/
def Onset (c : ConditionClass) (a : Alert) : Prop :=
  ∀ p, (p = .meter → c ≠ .evidenceThreshold) →
    (a.ports.get p).classes.get (.condition c) = if a.conditions.get c = true then ⟨true, 1#8⟩ else ⟨false, 0#8⟩

section Conditions

variable {c : ConditionClass} {cs : List ConditionClass} {ks : List LatchedClass} {a b : Alert}

theorem Unpresented.steps (h : Unpresented c a) (steps : AlertSteps cs ks a b) (hc : c ∉ cs) : Unpresented c b := by
  obtain ⟨hcondition, hclass⟩ := steps.condition hc
  exact ⟨hcondition.trans h.1, fun p => (hclass p).trans (h.2 p)⟩

theorem Onset.steps (h : Onset c a) (steps : AlertSteps cs ks a b) (hc : c ∉ cs) : Onset c b := by
  obtain ⟨hcondition, hclass⟩ := steps.condition hc
  intro p hp
  rw [hclass p, hcondition]
  exact h p hp

theorem Unpresented.onset (h : Unpresented c a) : Onset c a := fun p _ => by
  rw [h.1, h.2 p]
  rfl

theorem conditions_set_self (v : PerCondition Bool) (c : ConditionClass) (x : Bool) : (v.set c x).get c = x := by
  cases c <;> rfl

/-- The first presentation of a condition is its onset or nothing (R191). -/
theorem Unpresented.present (h : Unpresented c a) (now : Bool) : Onset c (a.present c now) := by
  obtain ⟨hcondition, hclass⟩ := h
  intro p hp
  rw [Alert.present_conditions, conditions_set_self]
  cases now with
  | false =>
    rw [present_of_no_onset (.inl rfl)]
    exact hclass p
  | true =>
    have hraised : ((a.present c true).ports.get p) = (a.ports.get p).raise (.condition c) := by
      unfold Alert.present
      rw [hcondition]
      cases p with
      | meter => exact if_pos ((onMeter_iff c).mpr (hp rfl))
      | network => rfl
    rw [hraised, PortAlert.raise_get_self, hclass p]
    rfl

/-- A repeated presentation does nothing (R191). -/
theorem Onset.present_same (h : Onset c a) {now : Bool} (hsame : a.conditions.get c = now) : Onset c (a.present c now) := by
  have hports : (a.present c now).ports = a.ports := by
    unfold Alert.present
    rw [hsame]
    cases now <;> rfl
  intro p hp
  rw [Alert.present_conditions, conditions_set_self, hports, ← hsame]
  exact h p hp

end Conditions

/-- CREDIT_EXHAUSTED after a demand of CREDIT from a state that has not presented it (R37, R93). -/
theorem onset_demand_credit {s : State} (add : Bool) (h : Unpresented .creditExhausted s.alert) :
    Onset .creditExhausted ((demand .credit add s).alert.present .creditExhausted add) := by
  by_cases hsame : s.sw.set.has .credit = add
  · rw [demand_of_same hsame]
    exact h.present add
  · have halert : (demand .credit add s).alert =
        (applyRules add { s with sw := { s.sw with set := s.sw.set.put .credit add } }).alert.present .creditExhausted add := by
      unfold demand
      rw [if_neg hsame]
      rfl
    have hrules : Unpresented .creditExhausted
        (applyRules add { s with sw := { s.sw with set := s.sw.set.put .credit add } }).alert :=
      h.steps (steps_settleSwitch (ks := []) _ { s with sw := { s.sw with set := s.sw.set.put .credit add } }) (by simp)
    rw [halert]
    exact (hrules.present add).present_same (by rw [Alert.present_conditions, conditions_set_self])

/-- An evaluation of BILL from a state that has presented nothing but ARMED (R38, R191). -/
theorem onset_evaluate {s : State} (h : ∀ c, c ≠ .armed → Unpresented c s.alert) {c : ConditionClass} (hc : c ≠ .armed) :
    Onset c (evaluate s).alert := by
  have hlow : AlertSteps [.lowCredit] [] (s.alert.present .emergencyAvailable (recomputed s == .available))
      (deferralSettled (beforeCredit s)).alert := (AlertSteps.refl _).present _ _ (by simp)
  have havailable : AlertSteps [.emergencyAvailable, .lowCredit] [] s.alert (deferralSettled (beforeCredit s)).alert :=
    ((AlertSteps.refl _).present _ _ (by simp)).present _ _ (by simp)
  have hcredit : AlertSteps [.armed, .creditExhausted] [] (deferralSettled (beforeCredit s)).alert (evaluate s).alert := by
    rw [evaluate_demands]
    exact (steps_demand _ _ _).present _ _ (by simp)
  cases c with
  | armed => exact absurd rfl hc
  | emergencyAvailable =>
    exact (((h .emergencyAvailable hc).present _).steps hlow (by simp)).steps hcredit (by simp)
  | lowCredit =>
    have hfirst : Unpresented .lowCredit (s.alert.present .emergencyAvailable (recomputed s == .available)) :=
      (h .lowCredit hc).steps ((AlertSteps.refl (cs := [.emergencyAvailable]) (ks := []) _).present _ _ (by simp)) (by simp)
    exact Onset.steps (hfirst.present _) hcredit (by simp)
  | creditExhausted =>
    rw [evaluate_demands]
    exact onset_demand_credit _ ((h .creditExhausted hc).steps havailable (by simp))
  | metrologyLost => exact ((h .metrologyLost hc).onset.steps havailable (by simp)).steps hcredit (by simp)
  | evidenceThreshold => exact ((h .evidenceThreshold hc).onset.steps havailable (by simp)).steps hcredit (by simp)

end Sys2Proof.Machine

/-! PROOF. Each block at the end of a restore, warm, pin or cold (09, 9.4). -/

namespace Sys2Proof.Machine

/-! ## The whole part (R167) -/

theorem restored_eq (b1 b0 : Bool) (s : State) :
    finishRestore b1 b0 s =
      { selected s with
        mlr := Mlr.restored, bill := (restoredBlocks b1 b0 s).bill, tariff := resumeTariff (selected s).tariff,
        sw := (restoredBlocks b1 b0 s).sw, tamper := (tamperResumed b1 b0 s).tamper,
        log := { (tamperResumed b1 b0 s).log with
          markRequest := resumedRequest (restoreKind s) (tamperResumed b1 b0 s).log },
        alert := (finishRestore b1 b0 s).alert,
        supmon := { (selected s).supmon with
          supply := .mainGood, origin := none, restoreTimer := .stopped, cause := restoreKind s, retention := true,
          lastDone := none,
          request := (selected s).supmon.request || decide ((selected s).tamper.latch ≠ ⟨none, none⟩) },
        ports := { (selected s).ports with baud := baudOf b1 b0, deaf := !(selected s).pins.mcsn },
        identity := (selected s).identity.resume (restoreKind s),
        pins := { (selected s).pins with baud1 := b1, baud0 := b0 },
        handed := (restoredBlocks b1 b0 s).handed } :=
  (finishRestore_frame b1 b0 s).trans (by rw [restoreStart_eq])

theorem restored_supmon (b1 b0 : Bool) (s : State) :
    (finishRestore b1 b0 s).supmon =
      { (selected s).supmon with
        supply := .mainGood, origin := none, restoreTimer := .stopped, cause := restoreKind s, retention := true,
        lastDone := none,
        request := (selected s).supmon.request || decide ((selected s).tamper.latch ≠ ⟨none, none⟩) } :=
  congrArg State.supmon (restored_eq b1 b0 s)

theorem restored_ports (b1 b0 : Bool) (s : State) :
    (finishRestore b1 b0 s).ports =
      { (loseMain s).ports with baud := baudOf b1 b0, deaf := !s.pins.mcsn } := by
  obtain ⟨hports, hpins, -⟩ := selected_rests s
  rw [restored_eq, hports, hpins]

theorem tamperResumed_tamper (b1 b0 : Bool) (s : State) :
    (tamperResumed b1 b0 s).tamper =
      { (selected s).tamper.resume s.pins with
        ts := (tamperResumed b1 b0 s).tamper.ts, tsLock := (tamperResumed b1 b0 s).tamper.tsLock,
        tsClear := (tamperResumed b1 b0 s).tamper.tsClear, hold := (tamperResumed b1 b0 s).tamper.hold,
        latch := ⟨none, none⟩ } := by
  have hresumed : (switchResumed b1 b0 s).tamper.resume (switchResumed b1 b0 s).pins = (selected s).tamper.resume s.pins := by
    rw [switchResumed_frame, restoreStart_eq, ← (selected_rests s).2.1]
    rfl
  have htamper := resumeTamper_tamper (switchResumed b1 b0 s)
  rw [hresumed] at htamper
  exact htamper

/-- The cover watches start where an input reads otherwise than its last sample (R121). -/
theorem resume_debounce {m : Tamper} (pins : Pins) (h : m.debounce = ⟨.stopped, .stopped⟩) (i : CoverInput) :
    (m.resume pins).debounce.get i = if pins.covers.get i = m.lastSample.get i then .stopped else .started := by
  have hidle : ((m.debounce.get i).running) = false := by
    rw [h]
    cases i <;> rfl
  have htimer : (m.resume pins).debounce.get i =
      if pins.covers.get i = m.lastSample.get i then .stopped
      else if (m.debounce.get i).running then m.debounce.get i else .started := by
    cases i <;> rfl
  rw [htimer, hidle]
  rfl

theorem tamperResumed_bill (b1 b0 : Bool) (s : State) : (tamperResumed b1 b0 s).bill = (selected s).bill := by
  rw [tamperResumed_frame, restoreStart_eq]

theorem restoredBlocks_bill (b1 b0 : Bool) (s : State) :
    (restoredBlocks b1 b0 s).bill =
      { (selected s).bill with
        emergency := (restoredBlocks b1 b0 s).bill.emergency, deferral := (restoredBlocks b1 b0 s).bill.deferral } := by
  have hbill := tamperResumed_bill b1 b0 s
  rw [restoredBlocks_eq, ← hbill]
  cases restoreKind s with
  | warm => rfl
  | pin => rfl
  | cold => exact evaluate_bill _

theorem restored_tamper (b1 b0 : Bool) (s : State) :
    (finishRestore b1 b0 s).tamper =
      { (selected s).tamper.resume s.pins with
        ts := (tamperResumed b1 b0 s).tamper.ts, tsLock := (tamperResumed b1 b0 s).tamper.tsLock,
        tsClear := (tamperResumed b1 b0 s).tamper.tsClear, hold := (tamperResumed b1 b0 s).tamper.hold,
        latch := ⟨none, none⟩ } := by
  rw [restored_eq]
  exact tamperResumed_tamper b1 b0 s

theorem restored_bill (b1 b0 : Bool) (s : State) :
    (finishRestore b1 b0 s).bill =
      { (selected s).bill with
        emergency := (restoredBlocks b1 b0 s).bill.emergency, deferral := (restoredBlocks b1 b0 s).bill.deferral } := by
  rw [restored_eq]
  exact restoredBlocks_bill b1 b0 s

theorem restored_resuming (b1 b0 : Bool) (s : State) :
    Resuming (resolved (restoreStart b1 b0 s)) (finishRestore b1 b0 s).sw := by
  rw [restored_eq]
  exact restoredBlocks_resuming b1 b0 s

theorem loseMain_sw (s : State) :
    (loseMain s).sw.set = s.sw.set ∧ (loseMain s).sw.confirm = s.sw.confirm ∧ (loseMain s).sw.fault = s.sw.fault := by
  have hstop := (stop_sw s.sw).1
  exact ⟨(congrArg Switch.set hstop).trans rfl, (congrArg Switch.confirm hstop).trans rfl,
    (congrArg Switch.fault hstop).trans rfl⟩

theorem resolved_overload (s : State) :
    (resolved s).overload = if s.sw.set.overload = true then .started else .stopped := by
  unfold resolved
  split <;> rfl

theorem restored_overload (b1 b0 : Bool) (s : State) :
    (finishRestore b1 b0 s).sw.overload = if (selected s).sw.set.overload = true then .started else .stopped := by
  have hoverload := (restored_resuming b1 b0 s).overload
  rw [resolved_overload, restoreStart_eq] at hoverload
  exact hoverload

/-! ## A restore with the retained values (R168) -/

section Retained

variable {s : State}

theorem retained_request (h : s.supmon.retention = true) :
    ((selected s).supmon.request || decide ((selected s).tamper.latch ≠ ⟨none, none⟩)) =
      (s.supmon.request || decide (s.supmon.writer ≠ .idle) || decide (s.tamper.latch ≠ ⟨none, none⟩)) := by
  have hsupmon : (loseMain s).supmon = s.supmon.stop := rfl
  rw [selected_of_retention h, hsupmon, stop_supmon]
  rfl

theorem restoreKind_ne_cold (h : s.supmon.retention = true) : restoreKind s ≠ .cold := by
  rw [restoreKind_of_retention h]
  split <;> simp

theorem resumeBill_of_retention (h : s.supmon.retention = true) (u : State) :
    resumeBill (restoreKind s) u = u.hand [.gapAccrual (BitVec.ofNat 32 u.cal.t)] := by
  rw [restoreKind_of_retention h]
  split <;> rfl

theorem restoredBlocks_handed_of_retention (b1 b0 : Bool) (h : s.supmon.retention = true) :
    (restoredBlocks b1 b0 s).handed = [.gapAccrual (BitVec.ofNat 32 s.cal.t)] := by
  have hhanded : (tamperResumed b1 b0 s).handed = [] := by
    rw [tamperResumed_frame, restoreStart_eq]
    exact (selected_rests s).2.2.1
  have hcal : (tamperResumed b1 b0 s).cal.t = s.cal.t := by
    rw [tamperResumed_frame, restoreStart_eq, selected_of_retention h]
    rfl
  rw [restoredBlocks_eq, resumeBill_of_retention h, State.hand_handed, hhanded, hcal]
  rfl

theorem restoredBlocks_bill_of_retention (b1 b0 : Bool) (h : s.supmon.retention = true) :
    (restoredBlocks b1 b0 s).bill = { s.bill with deferral := false, floor := false } := by
  rw [restoredBlocks_eq, resumeBill_of_retention h, State.hand_bill, tamperResumed_bill, selected_of_retention h]
  rfl

end Retained

theorem resumeTariff_keeps (t : TariffStore) :
    (resumeTariff t).active = t.active ∧ (resumeTariff t).slot = t.slot ∧ (resumeTariff t).commissioned = t.commissioned := by
  unfold resumeTariff
  split <;> exact ⟨rfl, rfl, rfl⟩

theorem selectedLog_same (s : State) : SameLog (selected s).log (selectedLog s) := by
  cases hretention : s.supmon.retention with
  | true =>
    rw [selectedLog, selected_of_retention hretention, selectState_of_retention hretention]
    exact (keeps_stageRoutine _ _).sameLog
  | false =>
    rw [selectedLog, selected_of_lost hretention, restoreKind_of_lost hretention, selectState_cold]
    exact (keeps_coldRecords _ _).sameLog

/-- LOG keeps its records, its marks and its threshold through the resumption of the blocks. -/
theorem tamperResumed_sameLog (b1 b0 : Bool) (s : State) :
    SameLog (selected s).log (tamperResumed b1 b0 s).log := by
  have hphase := (restoreStart_atRest b1 b0 s).phase
  have hkeeps : Keeps (restoreStart b1 b0 s) (tamperResumed b1 b0 s) :=
    (keeps_resumeSwitch hphase).trans ((keeps_takeHeld _ _).trans (keeps_resumeTamper _))
  have hsame := hkeeps.sameLog
  rw [restoreStart_eq] at hsame
  exact (selectedLog_same s).trans hsame

/-- LOG after a restore but for its records of it (R146, R150, R151). -/
theorem restored_log (b1 b0 : Bool) (s : State) :
    (finishRestore b1 b0 s).log =
      { (selected s).log with
        staging := (tamperResumed b1 b0 s).log.staging, next := (tamperResumed b1 b0 s).log.next,
        overflow := (tamperResumed b1 b0 s).log.overflow, dropped := (tamperResumed b1 b0 s).log.dropped,
        markRequest := resumedRequest (restoreKind s) (selected s).log } := by
  have hsame := tamperResumed_sameLog b1 b0 s
  obtain ⟨hheld, hgoverning⟩ := hsame.marks
  have hrequest : resumedRequest (restoreKind s) (tamperResumed b1 b0 s).log = resumedRequest (restoreKind s) (selected s).log := by
    unfold resumedRequest
    rw [hheld, hgoverning]
  rw [restored_eq, hrequest]
  dsimp only
  rw [hsame]

/-! ## The alerts (R191, R196) -/

theorem restoreStart_alert (b1 b0 : Bool) (s : State) :
    (restoreStart b1 b0 s).alert = (selected s).alert.present .metrologyLost false := by
  rw [restoreStart_eq]

/-- All that a restore alerts. -/
theorem steps_restore (b1 b0 : Bool) (s : State) :
    AlertSteps [.emergencyAvailable, .lowCredit, .armed, .creditExhausted, .metrologyLost, .evidenceThreshold]
      [.supplyChanged, .tamper, .powerRestored] (selected s).alert (finishRestore b1 b0 s).alert := by
  have hstart : AlertSteps
      [.emergencyAvailable, .lowCredit, .armed, .creditExhausted, .metrologyLost, .evidenceThreshold]
      [.supplyChanged, .tamper, .powerRestored] (selected s).alert (restoreStart b1 b0 s).alert := by
    rw [restoreStart_alert]
    exact (AlertSteps.refl _).present _ _ (by simp)
  refine (hstart.trans ((steps_restoredBlocks b1 b0 s).mono (by simp) ?_)).trans
    ((steps_finishRestore b1 b0 s).mono (by simp) (by simp))
  unfold positionSignals
  split <;> split <;> simp

/-- The restore is signalled on both ports (R167). -/
theorem restored_signals (b1 b0 : Bool) (s : State) (p : Port) :
    Signalled (.latched .powerRestored) ((selected s).alert.ports.get p) ((finishRestore b1 b0 s).alert.ports.get p) := by
  have hblocks : ∀ p, ((restoredBlocks b1 b0 s).alert.ports.get p).classes.get (.latched .powerRestored) =
      ((selected s).alert.ports.get p).classes.get (.latched .powerRestored) := fun p => by
    rw [(steps_restoredBlocks b1 b0 s).latched (by unfold positionSignals; split <;> split <;> simp) p, restoreStart_alert]
    exact ((AlertSteps.refl (cs := [.metrologyLost]) (ks := []) _).present _ _ (by simp)).latched (by simp) p
  have hthreshold : ((((restoredBlocks b1 b0 s).alert.present .evidenceThreshold
      (decide ((restoredBlocks b1 b0 s).log.threshold ≤ (restoredBlocks b1 b0 s).log.uncollected))).ports.get p).classes.get
        (.latched .powerRestored)) =
      ((restoredBlocks b1 b0 s).alert.ports.get p).classes.get (.latched .powerRestored) :=
    ((AlertSteps.refl (cs := [.evidenceThreshold]) (ks := []) _).present _ _ (by simp)).latched (by simp) p
  unfold Signalled
  rw [finishRestore_alert, signal_get, PortAlert.raise_get_self, hthreshold, hblocks p]

/-! ## What a restore with the retained values gives back (R168) -/

theorem restored_bill_of_retention (b1 b0 : Bool) {s : State} (h : s.supmon.retention = true) :
    (finishRestore b1 b0 s).bill = { s.bill with deferral := false, floor := false } := by
  rw [restored_eq]
  exact restoredBlocks_bill_of_retention b1 b0 h

/-- The blocks that a stop leaves to the backup domain come back as they were (R44, R63, R91, R163, R168). -/
theorem restored_kept (b1 b0 : Bool) {s : State} (h : s.supmon.retention = true) :
    (finishRestore b1 b0 s).totals = s.totals ∧ (finishRestore b1 b0 s).cal = { s.cal with hold := [] } ∧
      (finishRestore b1 b0 s).code = s.code.stop ∧ (finishRestore b1 b0 s).tariff = resumeTariff s.tariff.stop ∧
      (finishRestore b1 b0 s).identity.working = s.identity.working ∧
      (finishRestore b1 b0 s).tamper.debounced = s.tamper.lastSample ∧
      (finishRestore b1 b0 s).supmon.nextSeq = s.supmon.nextSeq ∧
      (finishRestore b1 b0 s).supmon.failTime = s.supmon.failTime := by
  have hstop : (loseMain s).supmon = s.supmon.stop := rfl
  have hsel := selected_of_retention h
  rw [restored_supmon, restored_tamper, restored_eq, hsel, hstop, stop_supmon]
  exact ⟨rfl, rfl, rfl, rfl, resume_working _ _, rfl, rfl, rfl⟩

theorem restored_log_of_retention (b1 b0 : Bool) {s : State} (h : s.supmon.retention = true) :
    (finishRestore b1 b0 s).log.records = s.log.records ∧ (finishRestore b1 b0 s).log.heldMark = s.log.heldMark ∧
      (finishRestore b1 b0 s).log.threshold = s.log.threshold := by
  rw [restored_log, selected_of_retention h]
  exact ⟨rfl, rfl, rfl⟩

/-- After a restore with the retained values the alerts go on from those the stop left (R196). -/
theorem restored_alert_of_retention (b1 b0 : Bool) {s : State} (h : s.supmon.retention = true) (p : Port) :
    ((finishRestore b1 b0 s).alert.ports.get p).levels = (s.alert.ports.get p).levels ∧
      ((finishRestore b1 b0 s).alert.ports.get p).threshold = (s.alert.ports.get p).threshold ∧
      Signalled (.latched .powerRestored) (s.alert.ports.get p) ((finishRestore b1 b0 s).alert.ports.get p) ∧
      ((finishRestore b1 b0 s).alert.ports.get p).classes.get (.latched .codeDone) =
        (s.alert.ports.get p).classes.get (.latched .codeDone) := by
  have halert : (selected s).alert = s.alert := by
    rw [selected_of_retention h]
    rfl
  have hsteps := steps_restore b1 b0 s
  have hsignals := restored_signals b1 b0 s p
  rw [halert] at hsteps hsignals
  obtain ⟨hlevels, hthreshold⟩ := hsteps.levels p
  exact ⟨hlevels, hthreshold, hsignals, hsteps.latched (by simp) p⟩

theorem restored_handed_of_retention (b1 b0 : Bool) {s : State} (h : s.supmon.retention = true) :
    (finishRestore b1 b0 s).handed = [.gapAccrual (BitVec.ofNat 32 s.cal.t)] := by
  rw [restored_eq]
  exact restoredBlocks_handed_of_retention b1 b0 h

end Sys2Proof.Machine

/-! PROOF. A cold restore: the values it loads, and what SWITCH, TAMPER, BILL and ALERT make of them (09, 9.4). -/

namespace Sys2Proof.Machine

/-! ## The loaded values (R170, R171) -/

theorem durable_of_governing {s : State} {k : Checkpoint} (h : governing s.supmon.ring = some k) :
    durable (loseMain s) = k := by
  have hring : (loseMain s).supmon.ring = s.supmon.ring := (congrArg Supmon.ring (stop_supmon s.supmon)).trans rfl
  rw [durable, hring, h]
  rfl

theorem durable_of_none {s : State} (h : governing s.supmon.ring = none) :
    durable (loseMain s) = emptyCheckpoint (fallbackTariff s.tariff.image) := by
  have hring : (loseMain s).supmon.ring = s.supmon.ring := (congrArg Supmon.ring (stop_supmon s.supmon)).trans rfl
  rw [durable, hring, h]
  rfl

section Cold

variable {s : State} (hlost : s.supmon.retention = false)
include hlost

theorem cold_supmon (b1 b0 : Bool) :
    (finishRestore b1 b0 s).supmon.cause = .cold ∧ (finishRestore b1 b0 s).supmon.request = true ∧
      (finishRestore b1 b0 s).supmon.failTime = none ∧
      (finishRestore b1 b0 s).supmon.nextSeq = (durable (loseMain s)).seq + 1 := by
  rw [restored_supmon, selected_of_lost hlost]
  exact ⟨restoreKind_of_lost hlost, rfl, rfl, rfl⟩

theorem cold_blocks (b1 b0 : Bool) :
    (finishRestore b1 b0 s).totals = (durable (loseMain s)).totals ∧
      (finishRestore b1 b0 s).cal =
        { s.cal with t := (durable (loseMain s)).time, phase := 0, offset := 0, valid := false, hold := [] } ∧
      (finishRestore b1 b0 s).code =
        { s.code.stop with
          accepted := (durable (loseMain s)).accepted, lowMark := (durable (loseMain s)).lowMark,
          lockout := ⟨Lockout.clear, Lockout.clear⟩ } ∧
      (finishRestore b1 b0 s).tariff =
        resumeTariff { s.tariff.stop with
          active := (durable (loseMain s)).active, slot := .empty, commissioned := (durable (loseMain s)).commissioned } ∧
      (finishRestore b1 b0 s).tamper.debounced = ⟨.closed, .closed⟩ := by
  rw [restored_tamper, restored_eq, selected_of_lost hlost]
  exact ⟨rfl, rfl, rfl, rfl, rfl⟩

theorem cold_bill (b1 b0 : Bool) :
    (finishRestore b1 b0 s).bill.b = (durable (loseMain s)).b ∧ (finishRestore b1 b0 s).bill.r = (durable (loseMain s)).r ∧
      (finishRestore b1 b0 s).bill.q = (durable (loseMain s)).q ∧ (finishRestore b1 b0 s).bill.h = (durable (loseMain s)).h ∧
      (finishRestore b1 b0 s).bill.d = (durable (loseMain s)).d := by
  rw [restored_bill, selected_of_lost hlost]
  exact ⟨rfl, rfl, rfl, rfl, rfl⟩

theorem cold_log (b1 b0 : Bool) :
    (finishRestore b1 b0 s).log.records = s.log.records ∧ (finishRestore b1 b0 s).log.threshold = 32 ∧
      (finishRestore b1 b0 s).log.heldMark = (governingMark s.log).getD 0 := by
  rw [restored_log, selected_of_lost hlost]
  exact ⟨rfl, rfl, rfl⟩

/-! ## SWITCH and TAMPER (R114, R137) -/

theorem restoreStart_of_lost (b1 b0 : Bool) :
    (restoreStart b1 b0 s).sw = { s.sw.stop with
        set := (durable (loseMain s)).set, confirm := (durable (loseMain s)).confirm, state := .unknown,
        position := .unknown, fault := false } ∧
      (restoreStart b1 b0 s).tamper.latch = ⟨none, none⟩ ∧
      (restoreStart b1 b0 s).tamper.ts = (durable (loseMain s)).ts ∧
      (restoreStart b1 b0 s).tamper.tsLock = (durable (loseMain s)).tsLock ∧
      (restoreStart b1 b0 s).tamper.tsClear = (durable (loseMain s)).tsClear := by
  rw [restoreStart_eq, selected_of_lost hlost]
  exact ⟨rfl, rfl, rfl, rfl, rfl⟩

end Cold

/-- Where no latch is set TAMPER only makes its member agree (R137). -/
theorem tamperResumed_of_no_latch {b1 b0 : Bool} {s : State} (h : (restoreStart b1 b0 s).tamper.latch = ⟨none, none⟩) :
    tamperResumed b1 b0 s = latchesHeld b1 b0 s := by
  have hnone : (switchResumed b1 b0 s).tamper.latch = ⟨none, none⟩ := by rw [switchResumed_frame]; exact h
  exact resumeTamper_of_no_latch hnone

theorem latchesHeld_set (b1 b0 : Bool) (s : State) :
    (latchesHeld b1 b0 s).sw.set =
      { (switchResumed b1 b0 s).sw.set with
        tamper := decide ((restoreStart b1 b0 s).tamper.tsClear < (restoreStart b1 b0 s).tamper.tsLock) } := by
  have htamper : (switchResumed b1 b0 s).tamper = (restoreStart b1 b0 s).tamper := by rw [switchResumed_frame]
  unfold latchesHeld tamperAgreed
  rw [demand_set, htamper]
  rfl

theorem switchResumed_set (b1 b0 : Bool) (s : State) :
    (s.handed = [] → (switchResumed b1 b0 s).sw.set = (restoreStart b1 b0 s).sw.set) ∧
      ∀ m x, s.handed = [.demandSetRequest m x] →
        (switchResumed b1 b0 s).sw.set = (restoreStart b1 b0 s).sw.set.put m x := by
  refine ⟨fun h => ?_, fun m x h => ?_⟩
  · rw [switchResumed, h, ← resumeSwitch_set (restoreStart b1 b0 s)]
    rfl
  · rw [switchResumed, h, ← resumeSwitch_set (restoreStart b1 b0 s)]
    exact demand_set _ _ _

theorem latchesHeld_numbers (b1 b0 : Bool) (s : State) :
    (latchesHeld b1 b0 s).tamper.ts = (restoreStart b1 b0 s).tamper.ts ∧
      (latchesHeld b1 b0 s).tamper.tsLock = (restoreStart b1 b0 s).tamper.tsLock ∧
      (latchesHeld b1 b0 s).tamper.tsClear = (restoreStart b1 b0 s).tamper.tsClear := by
  rw [latchesHeld_tamper]
  exact ⟨rfl, rfl, rfl⟩

theorem restored_tamper_numbers {b1 b0 : Bool} {s : State} (h : (restoreStart b1 b0 s).tamper.latch = ⟨none, none⟩) :
    (finishRestore b1 b0 s).tamper.ts = (restoreStart b1 b0 s).tamper.ts ∧
      (finishRestore b1 b0 s).tamper.tsLock = (restoreStart b1 b0 s).tamper.tsLock ∧
      (finishRestore b1 b0 s).tamper.tsClear = (restoreStart b1 b0 s).tamper.tsClear := by
  rw [restored_tamper, tamperResumed_of_no_latch h]
  exact latchesHeld_numbers b1 b0 s

/-! ## A switch with no member in its set, and those that then join it (R94, R95) -/

/-- The state of a switch that a member has joined. -/
def joinedState : SwitchState → SwitchState
  | .closed | .closing | .opening => .opening
  | .opened | .armed => .opened
  | .unknown => .unknown

/-- A member that joins moves the state, and one that stays out does not (R94, R95). -/
theorem demand_state {m : Member} {add : Bool} {s : State} (hgood : mainGood s = true)
    (hout : add = true ∨ s.sw.set.has m = false) :
    (demand m add s).sw.state =
      if add = true ∧ s.sw.set.has m = false then joinedState s.sw.state else s.sw.state := by
  by_cases hsame : s.sw.set.has m = add
  · rw [demand_of_same hsame, if_neg]
    rintro ⟨rfl, hno⟩
    simp [hno] at hsame
  · have hadd : add = true := hout.elim id fun h => by
      cases add
      · exact absurd h hsame
      · rfl
    subst hadd
    obtain ⟨hopens, -, -, -, hrests⟩ := joined_sw m hgood hsame
    rw [if_pos ⟨rfl, Bool.eq_false_iff.mpr hsame⟩]
    cases hstate : s.sw.state with
    | closed => exact (hopens (.inl hstate)).1
    | closing => exact (hopens (.inr hstate)).1
    | opened => exact (hrests (.inl hstate)).1
    | armed => exact (hrests (.inr hstate)).1
    | opening =>
      rw [demand_sw hsame, rules_of_opening (w := s.sw.withMember m true) (.inl hstate), advance_frame]
      exact hstate
    | unknown =>
      rw [demand_sw hsame, rules_of_opening (w := s.sw.withMember m true) (.inr hstate), advance_frame]
      exact hstate

theorem joinedState_joinedState (x : SwitchState) : joinedState (joinedState x) = joinedState x := by
  cases x <;> rfl

end Sys2Proof.Machine

/-! PROOF. What SWITCH, BILL and ALERT stand at after a cold restore (09, 9.4). -/

namespace Sys2Proof.Machine

theorem resolved_keeps (s : State) : (resolved s).confirm = s.sw.confirm ∧ (resolved s).fault = s.sw.fault := by
  unfold resolved
  split <;> exact ⟨rfl, rfl⟩

theorem resolved_position (s : State) :
    (resolved s).position =
      if s.sw.state = .unknown ∧ s.sw.set.isEmpty = true then sensed s else s.sw.position := by
  unfold resolved
  split <;> rfl

theorem restoreStart_lsense (b1 b0 : Bool) (s : State) : (restoreStart b1 b0 s).pins.lsense = s.pins.lsense := by
  rw [restoreStart_eq]
  change (selected s).pins.lsense = _
  rw [(selected_rests s).2.1]

theorem mainGood_switchResumed (b1 b0 : Bool) (s : State) : mainGood (switchResumed b1 b0 s) = true := by
  have hsupmon : (switchResumed b1 b0 s).supmon = (restoreStart b1 b0 s).supmon := by rw [switchResumed_frame]
  unfold mainGood
  rw [hsupmon, restoreStart_eq]
  rfl

theorem mainGood_latchesHeld (b1 b0 : Bool) (s : State) : mainGood (latchesHeld b1 b0 s) = true := by
  have hsupmon : (latchesHeld b1 b0 s).supmon = (switchResumed b1 b0 s).supmon := demand_supmon ..
  exact (congrArg (fun m : Supmon => m.supply == .mainGood) hsupmon).trans (mainGood_switchResumed b1 b0 s)

/-! ## An opening goes on (R94) -/

theorem demand_of_opening {s : State} (m : Member) (add : Bool) (h : s.sw.state = .opening) :
    (demand m add s).sw.state = .opening := by
  by_cases hsame : s.sw.set.has m = add
  · rw [demand_of_same hsame]
    exact h
  · rw [demand_sw hsame, rules_of_opening (w := s.sw.withMember m add) (.inl h), advance_frame]
    exact h

theorem takeHeld_of_opening {s : State} (held : List Instr) (h : s.sw.state = .opening) :
    (takeHeld held s).sw.state = .opening := by
  rw [takeHeld_eq]
  induction held generalizing s with
  | nil => exact h
  | cons i held ih =>
    rw [List.foldl_cons]
    refine ih ?_
    unfold heldTaken
    split
    · exact demand_of_opening _ _ h
    · exact h

/-- Where members stand in the set of a switch whose state is not known, it opens (R114). -/
theorem resumeSwitch_of_members {s : State} (hunknown : s.sw.state = .unknown) (hmembers : s.sw.set.isEmpty = false) :
    (resumeSwitch s).sw.state = .opening := by
  have hresolved : resolved s = s.sw.resume := if_neg fun h => by simp [hmembers] at h
  have hopens : restoreRules (resolved s) = (resolved s).startOpening := if_pos (by rw [hresolved]; exact hunknown)
  rw [resumeSwitch_state, hopens]
  rfl

/-- Where the set of a switch whose state is not known is empty, it is what LSENSE shows (R114, R115). -/
theorem resumeSwitch_of_empty {s : State} (hunknown : s.sw.state = .unknown) (hempty : s.sw.set.isEmpty = true) :
    (resumeSwitch s).sw.state =
      if s.pins.lsense = true then .closed else if s.sw.confirm = true then .armed else .closing := by
  have hresolved : resolved s =
      { s.sw.resume with position := sensed s, state := if s.pins.lsense then .closed else .opened } :=
    if_pos ⟨hunknown, hempty⟩
  have hset : (resolved s).set.isEmpty = true := by
    rw [hresolved]
    exact hempty
  have hconfirm := (resolved_keeps s).1
  rw [resumeSwitch_state, restoreRules]
  cases hsense : s.pins.lsense with
  | true =>
    have hstate : (resolved s).state = .closed := by rw [hresolved, hsense]; rfl
    rw [if_neg (by simp [hstate]), rules_of_closed hstate, hset]
    exact hstate
  | false =>
    have hstate : (resolved s).state = .opened := by rw [hresolved, hsense]; rfl
    rw [if_neg (by simp [hstate]), rules_of_opened hstate, hset, hconfirm]
    cases s.sw.confirm <;> rfl

/-- LOG's resumption and the signal of the restore leave the other blocks. -/
theorem finishRestore_of_blocks (b1 b0 : Bool) (s : State) :
    (finishRestore b1 b0 s).bill = (restoredBlocks b1 b0 s).bill ∧
      (finishRestore b1 b0 s).sw = (restoredBlocks b1 b0 s).sw ∧
      (finishRestore b1 b0 s).tariff = (restoredBlocks b1 b0 s).tariff ∧
      (finishRestore b1 b0 s).cal = (restoredBlocks b1 b0 s).cal := by
  rw [finishRestore_eq, resumeLog_eq]
  exact ⟨rfl, rfl, rfl, rfl⟩

section Cold

variable {s : State} (hlost : s.supmon.retention = false)
include hlost

theorem restoredBlocks_of_lost (b1 b0 : Bool) : restoredBlocks b1 b0 s = evaluate (latchesHeld b1 b0 s) := by
  obtain ⟨-, hlatch, -⟩ := restoreStart_of_lost hlost b1 b0
  rw [restoredBlocks_eq, restoreKind_of_lost hlost, tamperResumed_of_no_latch hlatch]
  rfl

theorem cold_sw (b1 b0 : Bool) :
    (finishRestore b1 b0 s).sw =
      (demand .credit (finishRestore b1 b0 s).sw.set.credit (latchesHeld b1 b0 s)).sw := by
  have hsw : (finishRestore b1 b0 s).sw = (evaluate (latchesHeld b1 b0 s)).sw := by
    rw [restored_eq, restoredBlocks_of_lost hlost]
  rw [hsw]
  exact evaluate_sw _

theorem cold_handed (b1 b0 : Bool) : (finishRestore b1 b0 s).handed = [] := by
  have hhanded : (latchesHeld b1 b0 s).handed = (switchResumed b1 b0 s).handed := demand_handed ..
  rw [restored_eq]
  change (restoredBlocks b1 b0 s).handed = []
  rw [restoredBlocks_of_lost hlost, evaluate_handed, hhanded, switchResumed_frame, restoreStart_eq]
  exact (selected_rests s).2.2.1

/-- The set after a cold restore: what was loaded and held, and what TAMPER and BILL ask for (R45, R113, R137). -/
theorem cold_set (b1 b0 : Bool) :
    (finishRestore b1 b0 s).sw.set =
      { (switchResumed b1 b0 s).sw.set with
        credit := (finishRestore b1 b0 s).sw.set.credit,
        tamper := decide ((durable (loseMain s)).tsClear < (durable (loseMain s)).tsLock) } := by
  obtain ⟨-, -, -, hlock, hclear⟩ := restoreStart_of_lost hlost b1 b0
  have hset : (finishRestore b1 b0 s).sw.set =
      { (latchesHeld b1 b0 s).sw.set with credit := (finishRestore b1 b0 s).sw.set.credit } :=
    (congrArg Switch.set (cold_sw hlost b1 b0)).trans (demand_set _ _ _)
  rw [latchesHeld_set, hlock, hclear] at hset
  exact hset

/-- BILL's evaluation at the end of a cold restore (R45). -/
theorem cold_evaluated (b1 b0 : Bool) :
    CreditEvaluated (durable (loseMain s)).emergency (switchResumed b1 b0 s).sw.set.credit (finishRestore b1 b0 s) := by
  obtain ⟨-, hlatch, -⟩ := restoreStart_of_lost hlost b1 b0
  have hbefore : (latchesHeld b1 b0 s).bill.emergency = (durable (loseMain s)).emergency := by
    rw [← tamperResumed_of_no_latch hlatch, tamperResumed_bill, selected_of_lost hlost]
    rfl
  have hcredit : (latchesHeld b1 b0 s).sw.set.credit = (switchResumed b1 b0 s).sw.set.credit := by rw [latchesHeld_set]
  have hevaluated := creditEvaluated_evaluate (latchesHeld b1 b0 s)
  obtain ⟨hbill, hsw, htariff, hcal⟩ := finishRestore_of_blocks b1 b0 s
  have hcondition : ∀ {c : ConditionClass}, c ≠ .evidenceThreshold →
      (finishRestore b1 b0 s).alert.conditions.get c = (restoredBlocks b1 b0 s).alert.conditions.get c := fun hc =>
    ((steps_finishRestore b1 b0 s).condition (by simpa using hc)).1
  have hactive : (finishRestore b1 b0 s).active = (restoredBlocks b1 b0 s).active := congrArg TariffStore.active htariff
  have hexhaustion : exhaustion (finishRestore b1 b0 s) = exhaustion (restoredBlocks b1 b0 s) :=
    exhaustion_congr htariff (by rw [hbill])
  have hfriendly : friendlyNow (finishRestore b1 b0 s) = friendlyNow (restoredBlocks b1 b0 s) := friendlyNow_congr htariff hcal
  have havailable := hcondition (c := .emergencyAvailable) (by simp)
  have hlow := hcondition (c := .lowCredit) (by simp)
  have hexhausted := hcondition (c := .creditExhausted) (by simp)
  rw [← restoredBlocks_of_lost hlost, hbefore, hcredit] at hevaluated
  unfold CreditEvaluated at hevaluated ⊢
  dsimp only [PerCondition.get] at havailable hlow hexhausted
  rw [hexhaustion, hactive, hbill, hsw, hfriendly, havailable, hlow, hexhausted]
  exact hevaluated

/-- Where the loaded set has members SWITCH opens, whatever was held (R114). -/
theorem cold_opening (b1 b0 : Bool) (hmembers : (durable (loseMain s)).set.isEmpty = false) :
    (finishRestore b1 b0 s).sw.state = .opening := by
  have hsw := (restoreStart_of_lost hlost b1 b0).1
  have hopens : (resumeSwitch (restoreStart b1 b0 s)).sw.state = .opening :=
    resumeSwitch_of_members (by rw [hsw]) (by rw [hsw]; exact hmembers)
  have hheld : (switchResumed b1 b0 s).sw.state = .opening := takeHeld_of_opening _ hopens
  have hagreed : (latchesHeld b1 b0 s).sw.state = .opening :=
    demand_of_opening (s := { switchResumed b1 b0 s with
      tamper := (switchResumed b1 b0 s).tamper.resume (switchResumed b1 b0 s).pins }) _ _ hheld
  rw [cold_sw hlost]
  exact demand_of_opening _ _ hagreed

/-- Where the loaded set is empty SWITCH is what LSENSE shows, or opens, or stays open, when TAMPER or BILL adds a member
(R114, R115). -/
theorem cold_state (b1 b0 : Bool) (hhanded : s.handed = []) (hempty : (durable (loseMain s)).set.isEmpty = true) :
    (finishRestore b1 b0 s).sw.state =
      if (finishRestore b1 b0 s).sw.set.isEmpty = true then (switchResumed b1 b0 s).sw.state
      else joinedState (switchResumed b1 b0 s).sw.state := by
  obtain ⟨hsw, -, -, hlock, hclear⟩ := restoreStart_of_lost hlost b1 b0
  have hswset : (restoreStart b1 b0 s).sw.set = (durable (loseMain s)).set := congrArg Switch.set hsw
  have hset : (switchResumed b1 b0 s).sw.set = (durable (loseMain s)).set :=
    ((switchResumed_set b1 b0 s).1 hhanded).trans hswset
  simp only [DemandSet.isEmpty, Bool.not_eq_true', Bool.or_eq_false_iff] at hempty
  obtain ⟨⟨⟨⟨hcredit, hoverload⟩, htamper⟩, hremote⟩, huncommissioned⟩ := hempty
  have hfirst : (latchesHeld b1 b0 s).sw.state =
      if (durable (loseMain s)).tsClear < (durable (loseMain s)).tsLock then joinedState (switchResumed b1 b0 s).sw.state
      else (switchResumed b1 b0 s).sw.state := by
    have hout : (switchResumed b1 b0 s).sw.set.has .tamper = false := by rw [hset]; exact htamper
    have hnumbers : (switchResumed b1 b0 s).tamper = (restoreStart b1 b0 s).tamper := by rw [switchResumed_frame]
    have hstate := demand_state (m := .tamper)
      (add := decide ((switchResumed b1 b0 s).tamper.tsClear < (switchResumed b1 b0 s).tamper.tsLock))
      (s := { switchResumed b1 b0 s with
        tamper := (switchResumed b1 b0 s).tamper.resume (switchResumed b1 b0 s).pins })
      (mainGood_switchResumed b1 b0 s) (.inr hout)
    refine hstate.trans ?_
    simp only [hout, and_true, decide_eq_true_eq, hnumbers, hlock, hclear]
  have hsecond : (finishRestore b1 b0 s).sw.state =
      if (finishRestore b1 b0 s).sw.set.credit = true then joinedState (latchesHeld b1 b0 s).sw.state
      else (latchesHeld b1 b0 s).sw.state := by
    have hout : (latchesHeld b1 b0 s).sw.set.has .credit = false := by
      rw [latchesHeld_set, hset]
      exact hcredit
    have hstate := demand_state (m := .credit) (add := (finishRestore b1 b0 s).sw.set.credit)
      (mainGood_latchesHeld b1 b0 s) (.inr hout)
    rw [← cold_sw hlost] at hstate
    simpa only [hout, and_true] using hstate
  have hfinal := cold_set hlost b1 b0
  have hisEmpty : (finishRestore b1 b0 s).sw.set.isEmpty =
      !((finishRestore b1 b0 s).sw.set.credit || decide ((durable (loseMain s)).tsClear < (durable (loseMain s)).tsLock)) := by
    rw [hfinal, hset]
    simp [DemandSet.isEmpty, hoverload, hremote, huncommissioned]
  rw [hsecond, hfirst, hisEmpty]
  by_cases hlocked : (durable (loseMain s)).tsClear < (durable (loseMain s)).tsLock
  · cases (finishRestore b1 b0 s).sw.set.credit <;> simp [hlocked, joinedState_joinedState]
  · cases (finishRestore b1 b0 s).sw.set.credit <;> simp [hlocked]

/-! ## ALERT (R191, R196) -/

theorem selected_alert_of_lost : (selected s).alert = Alert.default := by
  rw [selected_of_lost hlost]
  rfl

theorem restoreStart_alert_of_lost (b1 b0 : Bool) : (restoreStart b1 b0 s).alert = Alert.default := by
  rw [restoreStart_alert, selected_alert_of_lost hlost]
  rfl

/-- What a cold restore signals: the position it comes to believe, and the restore (R103, R167). -/
theorem cold_steps (b1 b0 : Bool) :
    AlertSteps [.emergencyAvailable, .lowCredit, .armed, .creditExhausted, .evidenceThreshold]
      (positionSignals (restoreStart b1 b0 s) ++ [.powerRestored]) Alert.default (finishRestore b1 b0 s).alert := by
  obtain ⟨-, hlatch, -⟩ := restoreStart_of_lost hlost b1 b0
  have hblocks := steps_restoredBlocks b1 b0 s
  rw [if_pos hlatch, List.append_nil, restoreStart_alert_of_lost hlost] at hblocks
  exact (hblocks.mono (by simp) (by simp)).trans ((steps_finishRestore b1 b0 s).mono (by simp) (by simp))

theorem cold_position (b1 b0 : Bool) :
    (restoreStart b1 b0 s).sw.position = .unknown ∧
      (restoreStart b1 b0 s).sw.position ≠ sensed (restoreStart b1 b0 s) := by
  obtain ⟨hsw, -⟩ := restoreStart_of_lost hlost b1 b0
  have hposition : (restoreStart b1 b0 s).sw.position = .unknown := by rw [hsw]
  exact ⟨hposition, hposition ▸ (sensed_ne_unknown _).symm⟩

theorem cold_positionSignals (b1 b0 : Bool) :
    positionSignals (restoreStart b1 b0 s) =
      if (durable (loseMain s)).set.isEmpty = true then [.supplyChanged] else [] := by
  obtain ⟨hsw, -⟩ := restoreStart_of_lost hlost b1 b0
  have hstate : (restoreStart b1 b0 s).sw.state = .unknown := by rw [hsw]
  have hset : (restoreStart b1 b0 s).sw.set = (durable (loseMain s)).set := by rw [hsw]
  unfold positionSignals
  simp only [(cold_position hlost b1 b0).2, hstate, hset, ne_eq, not_false_eq_true, and_true, true_and]

/-- The believed position is signalled once, where the loaded set is empty (R114). -/
theorem cold_supplyChanged (b1 b0 : Bool) (p : Port) :
    ((finishRestore b1 b0 s).alert.ports.get p).classes.get (.latched .supplyChanged) =
      if (durable (loseMain s)).set.isEmpty = true then ⟨true, 1#8⟩ else ⟨false, 0#8⟩ := by
  have hdefault : (Alert.default.ports.get p).classes.get (.latched .supplyChanged) = ⟨false, 0#8⟩ := by
    cases p <;> rfl
  by_cases hempty : (durable (loseMain s)).set.isEmpty = true
  · obtain ⟨hsw, hlatch, -⟩ := restoreStart_of_lost hlost b1 b0
    have hsignals := resumeSwitch_signals (s := restoreStart b1 b0 s) (by rw [hsw]) (by rw [hsw]; exact hempty)
      (cold_position hlost b1 b0).2 p
    have hheld := (steps_takeHeld (ks := []) s.handed (resumeSwitch (restoreStart b1 b0 s))).latched
      (k := .supplyChanged) (by simp) p
    have hagreed := (steps_tamperAgreed (ks := []) (switchResumed b1 b0 s)).latched (k := .supplyChanged) (by simp) p
    have hbill := (steps_evaluate (ks := []) (latchesHeld b1 b0 s)).latched (k := .supplyChanged) (by simp) p
    have hend := (steps_finishRestore b1 b0 s).latched (k := .supplyChanged) (by simp) p
    rw [restoredBlocks_of_lost hlost] at hend
    unfold Signalled at hsignals
    rw [restoreStart_alert_of_lost hlost, hdefault] at hsignals
    rw [if_pos hempty, hend, hbill]
    exact (hagreed.trans hheld).trans hsignals
  · have hsteps := cold_steps hlost b1 b0
    rw [cold_positionSignals hlost, if_neg hempty] at hsteps
    rw [if_neg hempty, ← hdefault]
    exact hsteps.latched (by simp) p

theorem cold_powerRestored (b1 b0 : Bool) (p : Port) :
    ((finishRestore b1 b0 s).alert.ports.get p).classes.get (.latched .powerRestored) = ⟨true, 1#8⟩ := by
  have hsignals := restored_signals b1 b0 s p
  rw [selected_alert_of_lost hlost] at hsignals
  refine hsignals.trans ?_
  cases p <;> rfl

/-- A class that a cold restore does not signal stands at its default (R196). -/
theorem cold_unsignalled (b1 b0 : Bool) {k : LatchedClass} (hsupply : k ≠ .supplyChanged) (hpower : k ≠ .powerRestored)
    (p : Port) : ((finishRestore b1 b0 s).alert.ports.get p).classes.get (.latched k) = ⟨false, 0#8⟩ := by
  have hsteps := cold_steps hlost b1 b0
  have hnot : k ∉ positionSignals (restoreStart b1 b0 s) ++ [.powerRestored] := by
    rw [cold_positionSignals hlost]
    split <;> simp [hsupply, hpower]
  rw [hsteps.latched hnot p]
  cases p <;> cases k <;> rfl

/-- The conditions of a cold restore are onsets of their classes (R191, R196). -/
theorem cold_onset (b1 b0 : Bool) (hhanded : s.handed = []) {c : ConditionClass} (hc : c ≠ .armed) :
    Onset c (finishRestore b1 b0 s).alert := by
  have hdefault : ∀ c, Unpresented c Alert.default := fun c => by
    refine ⟨?_, fun p => ?_⟩
    · cases c <;> rfl
    · cases p <;> cases c <;> rfl
  have hheld : switchResumed b1 b0 s = resumeSwitch (restoreStart b1 b0 s) := by
    rw [switchResumed, hhanded]
    rfl
  have hbefore : ∀ c, c ≠ .armed → Unpresented c (latchesHeld b1 b0 s).alert := fun c hc => by
    have hswitch : Unpresented c (switchResumed b1 b0 s).alert := by
      have hsteps := steps_resumeSwitch (restoreStart b1 b0 s)
      rw [restoreStart_alert_of_lost hlost, ← hheld] at hsteps
      exact (hdefault c).steps hsteps (by simpa using hc)
    exact hswitch.steps (steps_tamperAgreed (ks := []) (switchResumed b1 b0 s)) (by simpa using hc)
  have hevaluated := onset_evaluate hbefore hc
  rw [← restoredBlocks_of_lost hlost] at hevaluated
  by_cases hthreshold : c = .evidenceThreshold
  · subst hthreshold
    have hunpresented : Unpresented .evidenceThreshold (restoredBlocks b1 b0 s).alert := by
      rw [restoredBlocks_of_lost hlost]
      exact (hbefore _ hc).steps (steps_evaluate (ks := []) _) (by simp)
    rw [finishRestore_alert]
    exact Onset.steps (hunpresented.present _) ((AlertSteps.refl (cs := []) (ks := [.powerRestored]) _).signal _ (by simp))
      (by simp)
  · exact hevaluated.steps (steps_finishRestore b1 b0 s) (by simpa using hthreshold)

/-- SWITCH after a cold restore (R114, R115). -/
theorem cold_switch (b1 b0 : Bool) :
    (finishRestore b1 b0 s).sw.fault = false ∧ (finishRestore b1 b0 s).sw.attempts = 0 ∧
      (finishRestore b1 b0 s).sw.confirm =
        ((durable (loseMain s)).confirm || decide ((finishRestore b1 b0 s).sw.state = .opening)) ∧
      (finishRestore b1 b0 s).sw.overload =
        (if (durable (loseMain s)).set.overload = true then .started else .stopped) ∧
      (finishRestore b1 b0 s).sw.position =
        if (durable (loseMain s)).set.isEmpty = true then (if s.pins.lsense = true then .closed else .opened) else .unknown := by
  have hresuming := restored_resuming b1 b0 s
  obtain ⟨hsw, -⟩ := restoreStart_of_lost hlost b1 b0
  obtain ⟨hconfirm, hfault⟩ := resolved_keeps (restoreStart b1 b0 s)
  have hsensed : sensed (restoreStart b1 b0 s) = if s.pins.lsense = true then .closed else .opened := by
    rw [sensed, restoreStart_lsense]
  have hposition : (resolved (restoreStart b1 b0 s)).position =
      if (durable (loseMain s)).set.isEmpty = true then sensed (restoreStart b1 b0 s) else .unknown := by
    unfold resolved
    have hstate : (restoreStart b1 b0 s).sw.state = .unknown := by rw [hsw]
    have hset : (restoreStart b1 b0 s).sw.set = (durable (loseMain s)).set := by rw [hsw]
    simp only [hstate, hset, true_and]
    split
    · rfl
    · exact (cold_position hlost b1 b0).1
  refine ⟨hresuming.fault.trans (hfault.trans (by rw [hsw])), hresuming.attempts, ?_, ?_,
    hresuming.position.trans (by rw [hposition, hsensed])⟩
  · rw [hresuming.confirm, hconfirm, hsw]
  · rw [restored_overload, selected_of_lost hlost]
    rfl

/-- SWITCH's state once what was held has been taken, where nothing was (R114, R115). -/
theorem cold_resolved (b1 b0 : Bool) (hhanded : s.handed = []) (hempty : (durable (loseMain s)).set.isEmpty = true) :
    (switchResumed b1 b0 s).sw.state =
      if s.pins.lsense = true then .closed else if (durable (loseMain s)).confirm = true then .armed else .closing := by
  obtain ⟨hsw, -⟩ := restoreStart_of_lost hlost b1 b0
  have hpins := restoreStart_lsense b1 b0 s
  have hstate := resumeSwitch_of_empty (s := restoreStart b1 b0 s) (by rw [hsw]) (by rw [hsw]; exact hempty)
  have hconfirm : (restoreStart b1 b0 s).sw.confirm = (durable (loseMain s)).confirm := by rw [hsw]
  rw [hpins, hconfirm] at hstate
  rw [switchResumed, hhanded]
  exact hstate

end Cold

/-! ## SWITCH with the retained values (R114, R115, R137) -/

/-- In a state that was kept SWITCH applies its rules to what it kept (R115). -/
theorem resumeSwitch_of_known {s : State} (hknown : s.sw.state ≠ .unknown) :
    resolved s = s.sw.resume ∧ (resumeSwitch s).sw.state = (s.sw.resume.rules false).state := by
  have hresolved : resolved s = s.sw.resume := if_neg fun h => hknown h.1
  refine ⟨hresolved, ?_⟩
  rw [resumeSwitch_state, hresolved]
  exact congrArg Switch.state (if_neg hknown)

theorem resumeSwitch_of_closed {s : State} (h : s.sw.state = .closed) :
    (resumeSwitch s).sw.state = if s.sw.set.isEmpty = true ∨ s.sw.fault = true then .closed else .opening := by
  have hkept : s.sw.resume.state = .closed := h
  rw [(resumeSwitch_of_known (by simp [h])).2, rules_of_closed hkept]
  have hset : s.sw.resume.set = s.sw.set := rfl
  have hfault : s.sw.resume.fault = s.sw.fault := rfl
  rw [hset, hfault]
  cases s.sw.set.isEmpty <;> cases s.sw.fault <;> first | exact hkept | rfl

theorem resumeSwitch_of_opened {s : State} (h : s.sw.state = .opened) :
    (resumeSwitch s).sw.state =
      if s.sw.set.isEmpty = false then .opened else if s.sw.confirm = true then .armed else .closing := by
  have hkept : s.sw.resume.state = .opened := h
  rw [(resumeSwitch_of_known (by simp [h])).2, rules_of_opened hkept]
  have hset : s.sw.resume.set = s.sw.set := rfl
  have hconfirm : s.sw.resume.confirm = s.sw.confirm := rfl
  rw [hset, hconfirm]
  cases s.sw.set.isEmpty <;> cases s.sw.confirm <;> first | exact hkept | rfl

theorem resumeSwitch_of_armed {s : State} (h : s.sw.state = .armed) (hempty : s.sw.set.isEmpty = true)
    (hconfirm : s.sw.confirm = true) : (resumeSwitch s).sw.state = .armed := by
  have hkept : s.sw.resume.state = .armed := h
  have hset : s.sw.resume.set.isEmpty = true := hempty
  have hasks : s.sw.resume.confirm = true := hconfirm
  rw [(resumeSwitch_of_known (by simp [h])).2, rules_of_armed hkept, hset, hasks]
  exact hkept

/-- A closing that starts as SWITCH resolves its position waits for the hold-off (R96, R107, R114). -/
theorem resumeSwitch_waits {s : State} (hrest : AtRest s.sw) (hunknown : s.sw.state = .unknown)
    (hempty : s.sw.set.isEmpty = true) (hclosing : (resumeSwitch s).sw.state = .closing) :
    (resumeSwitch s).sw.phase = some .waitPermit := by
  have hresolved : resolved s =
      { s.sw.resume with position := sensed s, state := if s.pins.lsense then .closed else .opened } :=
    if_pos ⟨hunknown, hempty⟩
  have hset : (resolved s).set.isEmpty = true := by
    rw [hresolved]
    exact hempty
  rw [resumeSwitch_state, restoreRules] at hclosing
  rw [resumeSwitch_sw, restoreRules]
  cases hsense : s.pins.lsense with
  | true =>
    have hstate : (resolved s).state = .closed := by rw [hresolved, hsense]; rfl
    rw [if_neg (by simp [hstate]), rules_of_closed hstate, hset] at hclosing
    rw [show (resolved s).state = .closing from hclosing] at hstate
    cases hstate
  | false =>
    have hstate : (resolved s).state = .opened := by rw [hresolved, hsense]; rfl
    rw [if_neg (by simp [hstate]), rules_of_opened hstate, hset] at hclosing ⊢
    cases hconfirm : (resolved s).confirm with
    | true =>
      rw [hconfirm] at hclosing
      cases hclosing
    | false =>
      have hwithheld : permits { positioned s with sw := (resolved s).startClosing } .closeCoil = false :=
        permits_closeCoil (resuming_resolved hrest).holdOff
      exact congrArg Switch.phase
        (settleSwitch_of_withheld (w := (resolved s).startClosing) (coil_of_closing rfl) hwithheld)

/-- SWITCH as it resolves its position, state by state (R114, R115). -/
theorem resumeSwitch_outcomes {s : State} (hrest : AtRest s.sw) :
    let t := resumeSwitch s
    t.sw.set = s.sw.set ∧ t.sw.fault = s.sw.fault ∧
      (s.sw.state = .unknown → s.sw.set.isEmpty = false →
        t.sw.state = .opening ∧ t.sw.position = s.sw.position ∧ t.sw.confirm = true ∧ t.sw.attempts = 0) ∧
      (s.sw.state = .unknown → s.sw.set.isEmpty = true → s.pins.lsense = true →
        t.sw.state = .closed ∧ t.sw.position = .closed ∧ t.sw.confirm = s.sw.confirm) ∧
      (s.sw.state = .unknown → s.sw.set.isEmpty = true → s.pins.lsense = false →
        t.sw.position = .opened ∧ t.sw.confirm = s.sw.confirm ∧ (s.sw.confirm = true → t.sw.state = .armed) ∧
        (s.sw.confirm = false → t.sw.state = .closing ∧ t.sw.phase = some .waitPermit)) ∧
      (s.sw.state = .closed → t.sw.position = s.sw.position ∧
        t.sw.state = if s.sw.set.isEmpty = true ∨ s.sw.fault = true then .closed else .opening) ∧
      (s.sw.state = .opened → t.sw.position = s.sw.position ∧ t.sw.confirm = s.sw.confirm ∧
        t.sw.state =
          if s.sw.set.isEmpty = false then .opened else if s.sw.confirm = true then .armed else .closing) ∧
      (s.sw.state = .armed → s.sw.set.isEmpty = true → s.sw.confirm = true →
        t.sw.position = s.sw.position ∧ t.sw.state = .armed ∧ t.alert.conditions.armed = true) := by
  have hresuming := resuming_resumeSwitch hrest
  obtain ⟨hconfirm, hfault⟩ := resolved_keeps s
  have hposition := hresuming.position.trans (resolved_position s)
  have hkept (hknown : s.sw.state ≠ .unknown) : (resumeSwitch s).sw.position = s.sw.position :=
    hposition.trans (if_neg fun h => hknown h.1)
  have hasks := hresuming.confirm
  rw [hconfirm] at hasks
  have hunasked {x : SwitchState} (hx : (resumeSwitch s).sw.state = x) (hnot : x ≠ .opening) :
      (resumeSwitch s).sw.confirm = s.sw.confirm := by rw [hasks, hx, decide_eq_false hnot, Bool.or_false]
  refine ⟨resumeSwitch_set s, hresuming.fault.trans hfault, fun hstate hmembers => ?members,
    fun hstate hempty hsense => ?present, fun hstate hempty hsense => ?absent, fun hstate => ?closed,
    fun hstate => ?opened, fun hstate hempty harmed => ?armed⟩
  case members =>
    have hopens := resumeSwitch_of_members hstate hmembers
    refine ⟨hopens, hposition.trans (if_neg fun h => by simp [hmembers] at h), ?_, hresuming.attempts⟩
    rw [hasks, hopens]
    exact Bool.or_true _
  case present =>
    have hshown := resumeSwitch_of_empty hstate hempty
    have hsensed : sensed s = .closed := if_pos hsense
    rw [if_pos hsense] at hshown
    exact ⟨hshown, hposition.trans ((if_pos ⟨hstate, hempty⟩).trans hsensed), hunasked hshown (by simp)⟩
  case absent =>
    have hshown := resumeSwitch_of_empty hstate hempty
    have hsensed : sensed s = .opened := if_neg (by simp [hsense])
    rw [if_neg (by simp [hsense])] at hshown
    refine ⟨hposition.trans ((if_pos ⟨hstate, hempty⟩).trans hsensed), hunasked hshown (by split <;> simp),
      fun hasked => hshown.trans (if_pos hasked), fun hno => ?_⟩
    have hcloses := hshown.trans (if_neg (by simp [hno]))
    exact ⟨hcloses, resumeSwitch_waits hrest hstate hempty hcloses⟩
  case closed => exact ⟨hkept (by simp [hstate]), resumeSwitch_of_closed hstate⟩
  case opened =>
    have hrests := resumeSwitch_of_opened hstate
    refine ⟨hkept (by simp [hstate]), hunasked hrests ?_, hrests⟩
    split
    · simp
    · split <;> simp
  case armed =>
    have hrests := resumeSwitch_of_armed hstate hempty harmed
    exact ⟨hkept (by simp [hstate]), hrests, (resumeSwitch_armed s).trans (decide_eq_true hrests)⟩

section Retained

variable {s : State} (hretention : s.supmon.retention = true)
include hretention

theorem restoreStart_of_retention (b1 b0 : Bool) :
    (restoreStart b1 b0 s).sw = s.sw.stop ∧ (restoreStart b1 b0 s).tamper = s.tamper.stop := by
  rw [restoreStart_eq, selected_of_retention hretention]
  exact ⟨rfl, rfl⟩

theorem retained_sw (b1 b0 : Bool) (hlatch : s.tamper.latch = ⟨none, none⟩) :
    (finishRestore b1 b0 s).sw = (latchesHeld b1 b0 s).sw ∧
      (restoredBlocks b1 b0 s).alert = (latchesHeld b1 b0 s).alert := by
  obtain ⟨-, htamper⟩ := restoreStart_of_retention hretention b1 b0
  have hnone : (restoreStart b1 b0 s).tamper.latch = ⟨none, none⟩ := by
    rw [htamper]
    exact hlatch
  have hblocks : restoredBlocks b1 b0 s =
      (latchesHeld b1 b0 s).hand [.gapAccrual (BitVec.ofNat 32 (latchesHeld b1 b0 s).cal.t)] := by
    rw [restoredBlocks_eq, resumeBill_of_retention hretention, tamperResumed_of_no_latch hnone]
  rw [(finishRestore_of_blocks b1 b0 s).2.1, hblocks]
  exact ⟨rfl, rfl⟩

theorem retained_set (b1 b0 : Bool) (hlatch : s.tamper.latch = ⟨none, none⟩) :
    (finishRestore b1 b0 s).sw.set =
      { (switchResumed b1 b0 s).sw.set with tamper := decide (s.tamper.tsClear < s.tamper.tsLock) } := by
  have hset := latchesHeld_set b1 b0 s
  rw [(restoreStart_of_retention hretention b1 b0).2, ← (retained_sw hretention b1 b0 hlatch).1] at hset
  exact hset

/-- Where nothing was held and TAMPER's member agrees, SWITCH stands as it resolved its position. -/
theorem retained_resolved (b1 b0 : Bool) (hlatch : s.tamper.latch = ⟨none, none⟩) (hhanded : s.handed = [])
    (hagrees : s.sw.set.tamper = decide (s.tamper.tsClear < s.tamper.tsLock)) :
    (finishRestore b1 b0 s).sw = (resumeSwitch (restoreStart b1 b0 s)).sw ∧
      (finishRestore b1 b0 s).alert.conditions.armed =
        (resumeSwitch (restoreStart b1 b0 s)).alert.conditions.armed := by
  obtain ⟨hsw, htamper⟩ := restoreStart_of_retention hretention b1 b0
  have hheld : switchResumed b1 b0 s = resumeSwitch (restoreStart b1 b0 s) := by
    rw [switchResumed, hhanded]
    rfl
  have hset : (switchResumed b1 b0 s).sw.set = s.sw.set := by
    rw [(switchResumed_set b1 b0 s).1 hhanded, hsw]
    exact (loseMain_sw s).1
  have hnumbers : (switchResumed b1 b0 s).tamper = s.tamper.stop := by rw [switchResumed_frame, htamper]
  have hsame : latchesHeld b1 b0 s =
      { switchResumed b1 b0 s with
        tamper := (switchResumed b1 b0 s).tamper.resume (switchResumed b1 b0 s).pins } := by
    refine demand_of_same ?_
    rw [hnumbers]
    exact (congrArg DemandSet.tamper hset).trans hagrees
  obtain ⟨hfinal, halert⟩ := retained_sw hretention b1 b0 hlatch
  have harmed := ((steps_finishRestore b1 b0 s).condition (d := .armed) (by simp)).1
  rw [halert, hsame] at harmed
  rw [hsame] at hfinal
  rw [← hheld]
  exact ⟨hfinal, harmed⟩

end Retained

/-! ## The mark that the log copy holds (R146, R151) -/

theorem governingMark_of_a {l : EvidenceLog} {x : MarkCopy} (hx : l.markA = some x)
    (hy : l.markB.all (fun y => decide (y.count ≤ x.count)) = true) : governingMark l = some x.mark := by
  unfold governingMark
  rw [hx]
  cases hmark : l.markB with
  | none => rfl
  | some y =>
    rw [hmark] at hy
    exact if_neg (not_lt.mpr (of_decide_eq_true hy))

theorem governingMark_of_b {l : EvidenceLog} {y : MarkCopy} (hy : l.markB = some y)
    (hx : l.markA.all (fun x => decide (x.count < y.count)) = true) : governingMark l = some y.mark := by
  unfold governingMark
  rw [hy]
  cases hmark : l.markA with
  | none => rfl
  | some x =>
    rw [hmark] at hx
    exact if_pos (of_decide_eq_true hx)

theorem governingMark_of_none {l : EvidenceLog} (hx : l.markA = none) (hy : l.markB = none) : governingMark l = none := by
  unfold governingMark
  rw [hx, hy]

end Sys2Proof.Machine

/-! PROOF. The end of a restore (09, 9.3 and 9.4). -/

namespace Sys2Proof.Machine

theorem exec_restoreEnd_of_due {b1 b0 : Bool} {s : State} (h : RestoreDue s) :
    exec (.restoreEnd b1 b0) s = .next (finishRestore b1 b0 s) := by
  obtain ⟨hsupply, hrun, hms⟩ := h
  rw [exec_restoreEnd, if_pos ⟨hsupply, Timer.due_eq_true hrun hms⟩]

theorem exec_restoreEnd_of_early {b1 b0 : Bool} {s : State}
    (h : s.supmon.supply ≠ .restoring ∨ s.supmon.restoreTimer.running = false ∨ s.supmon.restoreTimer.ms < 64) :
    exec (.restoreEnd b1 b0) s = .next s := by
  rw [exec_restoreEnd, if_neg fun hdue => ?_]
  rcases h with hsupply | htimer
  · exact hsupply hdue.1
  · have hnot : s.supmon.restoreTimer.due restoreMs = false := Timer.due_eq_false htimer
    simp [hnot] at hdue

/-! ## The writes of a restore (R62, R150, R185) -/

theorem restored_markRequest (b1 b0 : Bool) (s : State) :
    (finishRestore b1 b0 s).log.markRequest =
      (s.supmon.retention && decide (governingMark s.log ≠ some s.log.heldMark)) := by
  rw [restored_log]
  cases hretention : s.supmon.retention with
  | true =>
    rw [selected_of_retention hretention, restoreKind_of_retention hretention]
    split <;> rfl
  | false =>
    rw [restoreKind_of_lost hretention]
    rfl

/-- The tariff image agrees with the active tariff, or is written (R62). -/
theorem restored_image (b1 b0 : Bool) (s : State) :
    (s.tariff.image = .holds (finishRestore b1 b0 s).tariff.active →
        (finishRestore b1 b0 s).tariff.imageState = .current ∧ (finishRestore b1 b0 s).tariff.imageWriting = none) ∧
      (s.tariff.image ≠ .holds (finishRestore b1 b0 s).tariff.active →
        (finishRestore b1 b0 s).tariff.imageState = .writing ∧ (finishRestore b1 b0 s).tariff.image = .failing ∧
          (finishRestore b1 b0 s).tariff.imageWriting = some ⟨(finishRestore b1 b0 s).tariff.active, 0⟩) := by
  have htariff : (finishRestore b1 b0 s).tariff = resumeTariff (selected s).tariff :=
    congrArg State.tariff (restored_eq b1 b0 s)
  have hstopped : (selected s).tariff.image = s.tariff.image ∧ (selected s).tariff.imageWriting = none := by
    unfold selected
    split <;> exact ⟨rfl, rfl⟩
  obtain ⟨himage, hwriting⟩ := hstopped
  have hactive := (resumeTariff_keeps (selected s).tariff).1
  rw [htariff, hactive, ← himage]
  unfold resumeTariff
  refine ⟨fun h => ?_, fun h => ?_⟩
  · rw [if_pos h]
    exact ⟨rfl, hwriting⟩
  · rw [if_neg h]
    exact ⟨rfl, rfl, rfl⟩

/-- The identity as a restore finds it: no write goes on (R184). -/
def foundIdentity (s : State) : Identity := { s.identity with writing := none, again := false }

theorem restored_identity (b1 b0 : Bool) (s : State) :
    (finishRestore b1 b0 s).identity =
      (if s.supmon.retention = true then foundIdentity s else coldIdentity (foundIdentity s)).resume (restoreKind s) := by
  refine (congrArg State.identity (restored_eq b1 b0 s)).trans ?_
  unfold selected
  split <;> rfl

section Identity

variable {i : Identity}

theorem resume_of_agreeing {kind : ResetCause} (hkind : kind ≠ .cold) (ha : i.placeA ≠ none) (hb : i.placeB ≠ none)
    (hdata : i.image.map (·.data) = some i.working) : i.resume kind = i := by
  have hholds : (i.placeFails || !(i.image.any (fun c => decide (c.data = i.working)))) = false := by
    obtain ⟨x, hx⟩ := Option.ne_none_iff_exists'.mp ha
    obtain ⟨y, hy⟩ := Option.ne_none_iff_exists'.mp hb
    obtain ⟨c, hc, hcopy⟩ := Option.map_eq_some_iff.mp hdata
    simp [Identity.placeFails, hx, hy, hc, hcopy]
  unfold Identity.resume
  cases kind with
  | cold => exact absurd rfl hkind
  | warm => exact if_neg (by simp [hholds])
  | pin => exact if_neg (by simp [hholds])

theorem resume_of_differing {kind : ResetCause} (hkind : kind ≠ .cold)
    (h : i.placeA = none ∨ i.placeB = none ∨ i.image.map (·.data) ≠ some i.working) : i.resume kind = i.startWrite := by
  have hdiffers : (i.placeFails || !(i.image.any (fun c => decide (c.data = i.working)))) = true := by
    unfold Identity.placeFails
    rcases h with ha | hb | hdata
    · simp [ha]
    · simp [hb]
    · cases himage : i.image with
      | none => simp
      | some c =>
        have hne : c.data ≠ i.working := fun heq => hdata (by rw [himage, ← heq]; rfl)
        simp [hne]
  unfold Identity.resume
  cases kind with
  | cold => exact absurd rfl hkind
  | warm => exact if_pos hdiffers
  | pin => exact if_pos hdiffers

/-- After a cold restore the identity is written where exactly one place fails (R185). -/
theorem resume_cold (i : Identity) :
    (i.placeA.isNone = i.placeB.isNone → i.resume .cold = i) ∧
      (i.placeA.isNone ≠ i.placeB.isNone → i.resume .cold = i.startWrite) := by
  have himage : (i.placeFails && i.image.isSome) = (i.placeA.isNone != i.placeB.isNone) := by
    unfold Identity.placeFails Identity.image
    cases i.placeA <;> cases i.placeB <;> simp
  unfold Identity.resume
  dsimp only
  rw [himage]
  exact ⟨fun h => if_neg (by simp [h]), fun h => if_pos (by simpa using h)⟩

theorem coldIdentity_working (i : Identity) :
    (coldIdentity i).working = (i.image.map (·.data)).getD IdentityRecord.none := by
  unfold coldIdentity
  cases i.image <;> rfl

end Identity

/-! ## The governing checkpoint (R169) -/

/-- The better of the best checkpoint so far and a slot (R169). -/
def betterSlot (best : Option Checkpoint) (x : Slot) : Option Checkpoint :=
  match x, best with
  | .valid c, some b => if b.seq < c.seq then some c else some b
  | .valid c, none => some c
  | .empty, _ | .invalid, _ => best

theorem governing_eq (ring : List Slot) : governing ring = ring.foldl betterSlot none := by
  unfold governing
  congr
  funext best x
  cases x <;> cases best <;> rfl

theorem betterSlot_of_first (c : Checkpoint) : betterSlot none (.valid c) = some c := rfl

theorem betterSlot_of_valid (b c : Checkpoint) :
    betterSlot (some b) (.valid c) = if b.seq < c.seq then some c else some b := rfl

theorem betterSlot_of_other {x : Slot} (best : Option Checkpoint) (h : ∀ c, x ≠ .valid c) : betterSlot best x = best := by
  cases x with
  | empty => rfl
  | invalid => rfl
  | valid c => exact absurd rfl (h c)

theorem seq_le_of_some {b d : Checkpoint} (h : some b = some d) : b.seq ≤ d.seq := by
  rw [Option.some.inj h]

theorem seq_le_of_valid {c d : Checkpoint} (h : Slot.valid c = .valid d) : d.seq ≤ c.seq := by
  rw [Slot.valid.inj h]

theorem betterSlot_bounds {best : Option Checkpoint} {x : Slot} {k : Checkpoint} (h : betterSlot best x = some k) :
    (∀ b, best = some b → b.seq ≤ k.seq) ∧ ∀ c, x = .valid c → c.seq ≤ k.seq := by
  by_cases hvalid : ∃ c, x = .valid c
  · obtain ⟨c, rfl⟩ := hvalid
    cases best with
    | none =>
      rw [betterSlot_of_first] at h
      exact ⟨fun b hb => absurd hb.symm (Option.some_ne_none b), fun d hd => (seq_le_of_valid hd).trans (seq_le_of_some h)⟩
    | some b =>
      rw [betterSlot_of_valid] at h
      split at h
      next hlt =>
        have hk := seq_le_of_some h
        exact ⟨fun d hd => (seq_le_of_some hd.symm).trans (hlt.le.trans hk), fun d hd => (seq_le_of_valid hd).trans hk⟩
      next hge =>
        have hk := seq_le_of_some h
        exact ⟨fun d hd => (seq_le_of_some hd.symm).trans hk,
          fun d hd => (seq_le_of_valid hd).trans ((not_lt.mp hge).trans hk)⟩
  · rw [betterSlot_of_other best fun c hc => hvalid ⟨c, hc⟩] at h
    exact ⟨fun b hb => seq_le_of_some (hb.symm.trans h), fun c hc => absurd ⟨c, hc⟩ hvalid⟩

theorem betterSlot_eq_none {best : Option Checkpoint} {x : Slot} (h : betterSlot best x = none) :
    best = none ∧ ∀ c, x ≠ .valid c := by
  by_cases hvalid : ∃ c, x = .valid c
  · obtain ⟨c, rfl⟩ := hvalid
    cases best with
    | none => exact absurd h (Option.some_ne_none c)
    | some b =>
      rw [betterSlot_of_valid] at h
      split at h <;> exact absurd h (Option.some_ne_none _)
  · have hother : ∀ c, x ≠ .valid c := fun c hc => hvalid ⟨c, hc⟩
    exact ⟨(betterSlot_of_other best hother).symm.trans h, hother⟩

/-- No valid slot counts above the governing one. -/
theorem foldl_betterSlot_bounds {ring : List Slot} {best : Option Checkpoint} {k : Checkpoint}
    (h : ring.foldl betterSlot best = some k) :
    (∀ b, best = some b → b.seq ≤ k.seq) ∧ ∀ c, Slot.valid c ∈ ring → c.seq ≤ k.seq := by
  induction ring generalizing best with
  | nil =>
    rw [List.foldl_nil] at h
    exact ⟨fun _ hb => seq_le_of_some (hb.symm.trans h), by simp⟩
  | cons x ring ih =>
    rw [List.foldl_cons] at h
    obtain ⟨hfirst, hrest⟩ := ih h
    cases hbetter : betterSlot best x with
    | none =>
      obtain ⟨hnone, hslot⟩ := betterSlot_eq_none hbetter
      refine ⟨fun b hb => ?_, fun c hc => ?_⟩
      · rw [hnone] at hb
        exact absurd hb.symm (Option.some_ne_none b)
      rcases List.mem_cons.mp hc with heq | hmem
      · exact absurd heq.symm (hslot c)
      · exact hrest c hmem
    | some d =>
      obtain ⟨hbest, hslot⟩ := betterSlot_bounds hbetter
      have hd := hfirst d hbetter
      refine ⟨fun b hb => (hbest b hb).trans hd, fun c hc => ?_⟩
      rcases List.mem_cons.mp hc with heq | hmem
      · exact (hslot c heq.symm).trans hd
      · exact hrest c hmem

theorem foldl_betterSlot_isSome {ring : List Slot} {best : Option Checkpoint} (h : best.isSome = true) :
    (ring.foldl betterSlot best).isSome = true := by
  induction ring generalizing best with
  | nil => exact h
  | cons x ring ih =>
    rw [List.foldl_cons]
    refine ih ?_
    cases x with
    | empty => exact h
    | invalid => exact h
    | valid c =>
      cases best with
      | none => cases h
      | some b =>
        change (if b.seq < c.seq then some c else some b).isSome = true
        split <;> rfl

theorem governing_none_iff (ring : List Slot) : governing ring = none ↔ ∀ x, Slot.valid x ∉ ring := by
  rw [governing_eq]
  induction ring with
  | nil => simp
  | cons x ring ih =>
    rw [List.foldl_cons]
    cases x with
    | empty => exact ih.trans (by simp)
    | invalid => exact ih.trans (by simp)
    | valid c =>
      have hsome : (ring.foldl betterSlot (betterSlot none (.valid c))).isSome = true := foldl_betterSlot_isSome rfl
      refine ⟨fun hnone => ?_, fun hno => absurd (List.mem_cons_self ..) (hno c)⟩
      rw [hnone] at hsome
      cases hsome

end Sys2Proof.Machine

/-! PROOF. The records of a restore, warm, pin or cold (05, 5.5; 06, 6.2; 07, 7.6; 09, 9.4). -/

namespace Sys2Proof.Machine

/-! ## The latches of a restore (R120, R126, R128) -/

theorem latchRecords_of_none {i : CoverInput} {s : State} (h : s.tamper.latch.get i = none) : latchRecords i s = [] := by
  unfold latchRecords
  rw [h]

theorem latchRecords_of_some {i : CoverInput} {l : LatchTime} {s : State} (h : s.tamper.latch.get i = some l) :
    latchRecords i s = [eventRecord (coverKind i) l.time l.valid s] := by
  unfold latchRecords
  rw [h]

theorem length_latchRecords (i : CoverInput) (s : State) : (latchRecords i s).length ≤ 1 := by
  unfold latchRecords
  split <;> simp

theorem length_positionRecords (s : State) : (positionRecords s).length ≤ 1 := by
  unfold positionRecords
  split <;> simp

theorem eventRecord_of_unsaturated (k : TamperKind) (time : Nat) (valid : Bool) {s : State} (h : s.tamper.ts + 1 ≤ max32) :
    eventRecord k time valid s =
      { time := time, valid := valid, kind := .tamper, tamper := some ⟨s.tamper.ts + 1, some k⟩,
        energy := some s.totals.imported } := by
  unfold eventRecord
  rw [min_eq_left h]

/-- The records of LOG after a restore, behind those that stood there. -/
theorem restored_log_of_staged {b1 b0 : Bool} {s : State} {l : EvidenceLog} {n : Nat} {rs : List Record}
    (h : (tamperResumed b1 b0 s).log = l.withStaged n rs) :
    (finishRestore b1 b0 s).log.staging = l.staging ++ numbered n rs ∧
      (finishRestore b1 b0 s).log.next = some (n + rs.length) ∧
      (finishRestore b1 b0 s).log.overflow = l.overflow ∧ (finishRestore b1 b0 s).log.dropped = l.dropped := by
  rw [restored_log, h]
  exact ⟨rfl, rfl, rfl, rfl⟩

theorem latchesHeld_totals (b1 b0 : Bool) (s : State) : (latchesHeld b1 b0 s).totals = (selected s).totals := by
  have htotals : (latchesHeld b1 b0 s).totals = (switchResumed b1 b0 s).totals := demand_totals ..
  rw [htotals, switchResumed_frame, restoreStart_eq]

section Retained

variable {s : State} (hretention : s.supmon.retention = true)
include hretention

theorem retained_latches (b1 b0 : Bool) :
    (latchesHeld b1 b0 s).tamper.latch = s.tamper.latch ∧ (latchesHeld b1 b0 s).tamper.ts = s.tamper.ts := by
  have htamper := (restoreStart_of_retention hretention b1 b0).2
  rw [latchesHeld_tamper, htamper]
  exact ⟨rfl, rfl⟩

theorem retained_ts (b1 b0 : Bool) (h : s.tamper.ts ≤ max32) :
    (finishRestore b1 b0 s).tamper.ts =
      min (s.tamper.ts + (if s.tamper.latch.cover = none then 0 else 1) +
        (if s.tamper.latch.terminal = none then 0 else 1)) max32 := by
  have htamper : (switchResumed b1 b0 s).tamper = s.tamper.stop := by
    rw [switchResumed_frame]
    exact (restoreStart_of_retention hretention b1 b0).2
  have hts := resumeTamper_ts (s := switchResumed b1 b0 s) (by rw [htamper]; exact h)
  rw [htamper] at hts
  rw [restored_tamper]
  exact hts

/-- SUPMON's record, SWITCH's and those of the latches take the next numbers (R103, R120, R151, R167). -/
theorem retained_records (b1 b0 : Bool) {n : Nat} (hnext : s.log.next = some n) (hnumbers : n + 4 ≤ max32)
    (hroom : s.log.staging.length ≤ 4) :
    (tamperResumed b1 b0 s).log =
      (loseMain s).log.withStaged n
        ([recordNow .powerRestore s] ++ positionRecords (restoreStart b1 b0 s) ++
          latchRecords .cover (latchesHeld b1 b0 s) ++
          latchRecords .terminal (formHeldLatch .cover (latchesHeld b1 b0 s))) := by
  have hstaging : (loseMain s).log.staging.length ≤ 4 := hroom
  have hposition := length_positionRecords (restoreStart b1 b0 s)
  have hcover := length_latchRecords .cover (latchesHeld b1 b0 s)
  refine staged_tamperResumed (selectedLog_of_retention hretention hnext ?_) ?_
  · exact ⟨by rw [List.length_nil]; omega, by rw [List.length_nil]; omega⟩
  · refine ⟨?_, ?_⟩
    all_goals
      rw [List.length_append, List.length_append, List.length_singleton]
      omega

theorem retained_coverRecord (b1 b0 : Bool) {l : LatchTime} (h : s.tamper.latch.cover = some l)
    (hts : s.tamper.ts + 2 ≤ max32) :
    latchRecords .cover (latchesHeld b1 b0 s) =
      [{ time := l.time, valid := l.valid, kind := .tamper, tamper := some ⟨s.tamper.ts + 1, some .coverOpen⟩,
         energy := some s.totals.imported }] := by
  obtain ⟨hlatch, hnumber⟩ := retained_latches hretention b1 b0
  have htotals : (latchesHeld b1 b0 s).totals = s.totals := by
    rw [latchesHeld_totals, selected_of_retention hretention]
    rfl
  rw [latchRecords_of_some (l := l) (by rw [hlatch]; exact h),
    eventRecord_of_unsaturated _ _ _ (by rw [hnumber]; omega), hnumber, htotals]
  rfl

/-- The latch of the terminal cover is formed behind that of the cover (R120). -/
theorem retained_terminalRecord (b1 b0 : Bool) {l : LatchTime} (h : s.tamper.latch.terminal = some l)
    (hts : s.tamper.ts + 2 ≤ max32) :
    latchRecords .terminal (formHeldLatch .cover (latchesHeld b1 b0 s)) =
      [{ time := l.time, valid := l.valid, kind := .tamper,
         tamper := some ⟨s.tamper.ts + (if s.tamper.latch.cover = none then 1 else 2), some .tcoverOpen⟩,
         energy := some s.totals.imported }] := by
  obtain ⟨hlatch, hnumber⟩ := retained_latches hretention b1 b0
  have hformed := formHeldLatch_tamper .cover (latchesHeld b1 b0 s)
  rw [hlatch, hnumber] at hformed
  have hheld : (formHeldLatch .cover (latchesHeld b1 b0 s)).tamper.latch.get .terminal = some l := by
    rw [hformed]
    exact h
  have hformedTs : (formHeldLatch .cover (latchesHeld b1 b0 s)).tamper.ts + 1 =
      s.tamper.ts + (if s.tamper.latch.cover = none then 1 else 2) := by
    rw [hformed]
    change (if s.tamper.latch.cover = none then s.tamper.ts else min (s.tamper.ts + 1) max32) + 1 = _
    split <;> omega
  have htotals : (formHeldLatch .cover (latchesHeld b1 b0 s)).totals = s.totals := by
    rw [formHeldLatch_frame]
    change (latchesHeld b1 b0 s).totals = _
    rw [latchesHeld_totals, selected_of_retention hretention]
    rfl
  rw [latchRecords_of_some hheld, eventRecord_of_unsaturated _ _ _ (by rw [hformedTs]; split <;> omega), hformedTs, htotals]
  rfl

end Retained

/-! ## A cold restore (R151, R170, R171) -/

/-- The number above those of the records that LOG finds (R151). -/
def numberAbove (l : EvidenceLog) : Nat := ((l.records.getLast?.map (·.number)).getD 0) + 1

theorem coldNext_of_none {l : EvidenceLog} (h : numberAbove l ≤ max32) : coldNext none l = some (numberAbove l) := by
  unfold numberAbove at *
  unfold coldNext
  cases hlast : l.records.getLast? with
  | none => exact if_pos (by rw [hlast] at h; exact h)
  | some r => exact if_pos (by rw [hlast] at h; exact h)

theorem coldNext_of_counter {c : Nat} {l : EvidenceLog} (hc : c ≠ 0) (h : max c (numberAbove l) ≤ max32) :
    coldNext (some c) l = some (max c (numberAbove l)) := by
  obtain ⟨m, rfl⟩ := Nat.exists_eq_succ_of_ne_zero hc
  unfold numberAbove at *
  unfold coldNext
  cases hlast : l.records.getLast? with
  | none => exact if_pos (by rw [hlast] at h; exact h)
  | some r => exact if_pos (by rw [hlast] at h; exact h)

/-- SUPMON's records of a cold restore (R151, R167, R171). -/
def coldBodies (lost : Bool) (s : State) : List Record :=
  { recordNow .coldStart s with energy := some s.totals.imported } ::
    (if lost then [recordNow .checkpointLost s, recordNow .powerRestore s] else [recordNow .powerRestore s])

theorem Staged.coldRecords {l : EvidenceLog} {n : Nat} {s : State} (h : Staged l n [] s) (hnumber : n + 2 < max32)
    (hroom : l.staging.length + 2 < 8) (lost : Bool) : Staged l n (coldBodies lost s) (coldRecords lost s) := by
  have hfit : ∀ rs : List Record, rs.length ≤ 2 → Fits l n rs := fun rs hrs => ⟨by omega, by omega⟩
  have hstart := h.supmon (hfit _ (by simp)) { recordNow .coldStart s with energy := some s.totals.imported }
  cases lost with
  | false => exact hstart.routine (hfit _ (by simp)) _
  | true => exact (hstart.supmon (hfit _ (by simp)) (recordNow .checkpointLost s)).routine (hfit _ (by simp)) _

section Cold

variable {s : State} (hlost : s.supmon.retention = false)
include hlost

theorem selectedLog_of_lost :
    selectedLog s = (coldRecords (governing (loseMain s).supmon.ring).isNone (loaded (loseMain s))).log := by
  rw [selectedLog, restoreKind_of_lost hlost, selectState_cold]

/-- The position that SWITCH comes to believe, where the loaded set is empty (R103, R114). -/
theorem cold_positionRecords (b1 b0 : Bool) :
    positionRecords (restoreStart b1 b0 s) =
      if (durable (loseMain s)).set.isEmpty = true then
        [{ time := (durable (loseMain s)).time, valid := false,
           kind := if s.pins.lsense = true then .relayClosed else .relayOpened,
           relay := some ⟨.unknown, if s.pins.lsense = true then .closed else .opened, (durable (loseMain s)).set, 0⟩ }]
      else [] := by
  obtain ⟨hsw, -⟩ := restoreStart_of_lost hlost b1 b0
  obtain ⟨hposition, hchanged⟩ := cold_position hlost b1 b0
  have hstate : (restoreStart b1 b0 s).sw.state = .unknown := by rw [hsw]
  have hset : (restoreStart b1 b0 s).sw.set = (durable (loseMain s)).set := by rw [hsw]
  have hcal : (restoreStart b1 b0 s).cal.t = (durable (loseMain s)).time ∧ (restoreStart b1 b0 s).cal.valid = false := by
    rw [restoreStart_eq, selected_of_lost hlost]
    exact ⟨rfl, rfl⟩
  have hrecord : positionRecord (sensed (restoreStart b1 b0 s)) 0 (restoreStart b1 b0 s) =
      { time := (durable (loseMain s)).time, valid := false,
        kind := if s.pins.lsense = true then .relayClosed else .relayOpened,
        relay := some ⟨.unknown, if s.pins.lsense = true then .closed else .opened, (durable (loseMain s)).set, 0⟩ } := by
    unfold positionRecord sensed
    rw [hposition, hset, hcal.1, hcal.2, restoreStart_lsense]
    cases s.pins.lsense <;> rfl
  unfold positionRecords
  rw [hstate, hset, hrecord]
  by_cases hempty : (durable (loseMain s)).set.isEmpty = true
  · rw [if_pos hempty, if_pos ⟨⟨rfl, hempty⟩, hchanged⟩]
  · rw [if_neg hempty, if_neg fun h => hempty h.1.2]

/-- Where no checkpoint governs there is one record more of SUPMON, and none of SWITCH (R114, R171). -/
theorem length_coldRecords (b1 b0 : Bool) :
    (coldBodies (governing (loseMain s).supmon.ring).isNone (loaded (loseMain s)) ++
      positionRecords (restoreStart b1 b0 s)).length ≤ 3 := by
  rw [List.length_append]
  cases hgoverning : governing (loseMain s).supmon.ring with
  | none =>
    have hmembers : (durable (loseMain s)).set.isEmpty = false := by
      rw [durable, hgoverning]
      rfl
    rw [cold_positionRecords hlost, if_neg (by simp [hmembers])]
    exact Nat.le_refl 3
  | some k => exact Nat.add_le_add_left (length_positionRecords _) 2

/-- The records of a cold restore, where the record counter gives a number (R103, R151). -/
theorem cold_records (b1 b0 : Bool) {n : Nat} (hnext : (loaded (loseMain s)).log.next = some n) (hnumbers : n + 4 ≤ max32) :
    (tamperResumed b1 b0 s).log =
      (loaded (loseMain s)).log.withStaged n
        (coldBodies (governing (loseMain s).supmon.ring).isNone (loaded (loseMain s)) ++
          positionRecords (restoreStart b1 b0 s)) := by
  have hlatch := (restoreStart_of_lost hlost b1 b0).2.1
  have hempty : (loaded (loseMain s)).log.staging = [] := rfl
  have hstaged : Staged (loaded (loseMain s)).log n [] (loaded (loseMain s)) :=
    ⟨(withStaged_nil hnext).symm, rfl, (selected_of_lost hlost ▸ atRest_selected s).waiting, rfl⟩
  have hselected := (hstaged.coldRecords (by omega) (by rw [hempty]; simp) (governing (loseMain s).supmon.ring).isNone).log
  rw [← selectedLog_of_lost hlost] at hselected
  have hheld : (latchesHeld b1 b0 s).tamper.latch = ⟨none, none⟩ := by
    rw [latchesHeld_tamper]
    exact hlatch
  have hcover : latchRecords .cover (latchesHeld b1 b0 s) = [] := latchRecords_of_none (by rw [hheld]; rfl)
  have hterminal : latchRecords .terminal (formHeldLatch .cover (latchesHeld b1 b0 s)) = [] := by
    rw [formHeldLatch_of_none (i := .cover) (by rw [hheld]; rfl)]
    exact latchRecords_of_none (by rw [hheld]; rfl)
  have hlength := length_coldRecords hlost b1 b0
  have hall := staged_tamperResumed (b1 := b1) (b0 := b0) hselected
    (by rw [hcover, List.append_nil]; exact ⟨by omega, by rw [hempty, List.length_nil]; omega⟩)
  rw [hcover, hterminal, List.append_nil, List.append_nil] at hall
  exact hall

theorem cold_staging (b1 b0 : Bool) {n : Nat} (hnext : (loaded (loseMain s)).log.next = some n) (hnumbers : n + 4 ≤ max32) :
    (finishRestore b1 b0 s).log.staging =
        numbered n (coldBodies (governing (loseMain s).supmon.ring).isNone (loaded (loseMain s)) ++
          positionRecords (restoreStart b1 b0 s)) ∧
      (finishRestore b1 b0 s).log.next = some (n + (finishRestore b1 b0 s).log.staging.length) ∧
      (finishRestore b1 b0 s).log.overflow = 0 ∧ (finishRestore b1 b0 s).log.dropped = 0 := by
  obtain ⟨hstaging, hlast, hoverflow, hdropped⟩ := restored_log_of_staged (cold_records hlost b1 b0 hnext hnumbers)
  have hall : (finishRestore b1 b0 s).log.staging =
      numbered n (coldBodies (governing (loseMain s).supmon.ring).isNone (loaded (loseMain s)) ++
        positionRecords (restoreStart b1 b0 s)) := hstaging
  exact ⟨hall, by rw [hlast, hall, length_numbered], hoverflow, hdropped⟩

/-- Where the numbers are exhausted the records of a cold restore are only counted (R140, R144). -/
theorem cold_exhausted (b1 b0 : Bool) (hgoverning : (governing (loseMain s).supmon.ring).isNone = false)
    (hnext : (loaded (loseMain s)).log.next = none) :
    (tamperResumed b1 b0 s).log =
      { (loaded (loseMain s)).log with
        overflow := 1, dropped := if (durable (loseMain s)).set.isEmpty = true then 2 else 1 } := by
  obtain ⟨hsw, hlatch, -⟩ := restoreStart_of_lost hlost b1 b0
  have hselected : selectedLog s = { (loaded (loseMain s)).log with overflow := 1, dropped := 1 } := by
    rw [selectedLog_of_lost hlost, hgoverning]
    change (((loaded (loseMain s)).log.offerEvidence _).getD _).offerRoutine _ _ = _
    rw [offerEvidence_of_exhausted _ hnext]
    exact offerRoutine_of_dropped _ (.inr (.inr hnext))
  have hstart : (restoreStart b1 b0 s).log = { (loaded (loseMain s)).log with overflow := 1, dropped := 1 } := by
    rw [restoreStart_eq]
    exact hselected
  have hset : (restoreStart b1 b0 s).sw.set = (durable (loseMain s)).set := by rw [hsw]
  have hstate : (restoreStart b1 b0 s).sw.state = .unknown := by rw [hsw]
  have hagreed : (latchesHeld b1 b0 s).log = (switchResumed b1 b0 s).log := demand_log ..
  have hheld : (switchResumed b1 b0 s).log = (resumeSwitch (restoreStart b1 b0 s)).log := by rw [switchResumed_frame]
  rw [tamperResumed_of_no_latch hlatch, hagreed, hheld, resumeSwitch_log, positioned_log, hstate, hset, hstart]
  by_cases hempty : (durable (loseMain s)).set.isEmpty = true
  · rw [if_pos ⟨⟨rfl, hempty⟩, (cold_position hlost b1 b0).2⟩, if_pos hempty]
    exact offerRoutine_of_dropped _ (.inr (.inr hnext))
  · rw [if_neg fun h => hempty h.1.2, if_neg hempty]

end Cold

end Sys2Proof.Machine

/-! PROOF. The end of a restore (09, 9.3 and 9.4). -/

namespace Sys2Proof.Machine

/-- Settles O48, by the state that a restore selects and by the blocks that resume one after another. -/
theorem restoresSelectState : Obligations.RestoresSelectState := by
  refine ⟨⟨fun b1 b0 s hearly => exec_restoreEnd_of_early hearly, fun b1 b0 s hdue => ?state⟩,
    fun b1 b0 s t hdue hexec hretention hlatch => ?members, fun b1 b0 s t hdue hexec hretention => ?records,
    fun b1 b0 s t hdue hexec hlost => ?coldRecords, fun b1 b0 s t hdue hexec => ?writes, fun ring => ?governing⟩
  case state =>
    obtain ⟨hports, hpins, hhanded, hfloor, hqueue, hflight, hbrown, hwriter, hflag, hmagnetic, hrelease, hdebounce, -, -⟩ :=
      selected_rests s
    have hsw := restored_resuming b1 b0 s
    have htamper := restored_tamper b1 b0 s
    have hsupmon := restored_supmon b1 b0 s
    have hlines := restored_ports b1 b0 s
    have hall := restored_eq b1 b0 s
    refine ⟨_, exec_restoreEnd_of_due hdue, congrArg Supmon.supply hsupmon, congrArg Supmon.origin hsupmon,
      congrArg State.mlr hall, congrArg Ports.interByte hlines, congrArg Ports.msdo hlines, hsw.streak, hsw.bypassRaised,
      congrArg Tamper.presence htamper, (congrArg Tamper.release htamper).trans hrelease,
      (congrArg Tamper.feFlag htamper).trans hflag, fun i => ?debounce,
      (congrArg Bill.floor (restored_bill b1 b0 s)).trans hfloor, hsw.holdOff, congrArg Supmon.lastDone hsupmon,
      (congrArg (fun u => u.code.queue) hall).trans hqueue, (congrArg (fun u => u.code.flight) hall).trans hflight,
      hsw.deadCoil, (congrArg Supmon.brownOut hsupmon).trans hbrown, (congrArg Supmon.writer hsupmon).trans hwriter,
      (congrArg Tamper.magnetic htamper).trans hmagnetic, congrArg Tamper.sampling htamper, congrArg Tamper.latch htamper,
      congrArg Ports.line hlines, congrArg Ports.deaf hlines, (congrArg Ports.stale hlines).trans rfl, ?baud,
      fun hretention => ?warm, fun hlost => ?cold⟩
    case debounce =>
      rw [htamper]
      exact resume_debounce s.pins hdebounce i
    case baud =>
      refine (congrArg Ports.baud hlines).trans ?_
      cases b1 <;> cases b0 <;> rfl
    case warm =>
      have hbill := restored_bill_of_retention b1 b0 hretention
      obtain ⟨htotals, hcal, hcode, htariff, hworking, hdebounced, hseq, hfail⟩ := restored_kept b1 b0 hretention
      obtain ⟨hrecords, hheld, hthreshold⟩ := restored_log_of_retention b1 b0 hretention
      obtain ⟨hactive, hslot, hcommissioned⟩ := resumeTariff_keeps s.tariff.stop
      have hoverload := restored_overload b1 b0 s
      rw [selected_of_retention hretention, (loseMain_sw s).1] at hoverload
      refine ⟨(congrArg Supmon.cause hsupmon).trans (restoreKind_of_retention hretention), by rw [hcal], by rw [hcal],
        by rw [hcal], by rw [hbill], by rw [hbill], by rw [hbill], by rw [hbill], by rw [hbill], htotals,
        (congrArg TariffStore.active htariff).trans hactive, (congrArg TariffStore.slot htariff).trans hslot,
        (congrArg TariffStore.commissioned htariff).trans hcommissioned, by rw [hcode]; rfl, by rw [hcode]; rfl, hrecords,
        hheld, hworking, hdebounced, hseq, hfail, (congrArg Supmon.request hsupmon).trans (retained_request hretention),
        by rw [hcode]; rfl, by rw [hbill], by rw [hbill], hthreshold, hoverload,
        restored_alert_of_retention b1 b0 hretention, restored_handed_of_retention b1 b0 hretention⟩
    case cold =>
      obtain ⟨hcause, hrequest, hfail, hseq⟩ := cold_supmon hlost b1 b0
      obtain ⟨htotals, hcal, hcode, htariff, hdebounced⟩ := cold_blocks hlost b1 b0
      obtain ⟨hb, hr, hq, hh, hd⟩ := cold_bill hlost b1 b0
      obtain ⟨hrecords, hthreshold, hheld⟩ := cold_log hlost b1 b0
      obtain ⟨hfault, hattempts, hconfirm, hoverload, hposition⟩ := cold_switch hlost b1 b0
      obtain ⟨-, hlatch, hts, hlock, hclear⟩ := restoreStart_of_lost hlost b1 b0
      obtain ⟨hts', hlock', hclear'⟩ := restored_tamper_numbers hlatch
      obtain ⟨hactive, hslot, hcommissioned⟩ := resumeTariff_keeps
        { s.tariff.stop with
          active := (durable (loseMain s)).active, slot := .empty, commissioned := (durable (loseMain s)).commissioned }
      have hlevels := (cold_steps hlost b1 b0).levels
      have hsupply := cold_supplyChanged hlost b1 b0
      have hset := cold_set hlost b1 b0
      have hevaluated := cold_evaluated hlost b1 b0
      obtain ⟨hnoneHeld, honeHeld⟩ := switchResumed_set b1 b0 s
      have hsw := (restoreStart_of_lost hlost b1 b0).1
      have hstartSet : (restoreStart b1 b0 s).sw.set = (durable (loseMain s)).set := by rw [hsw]
      have hopening := cold_opening hlost b1 b0
      have hstate := cold_state hlost b1 b0
      have hresolved := cold_resolved hlost b1 b0
      rw [hstartSet] at hnoneHeld honeHeld
      refine ⟨hcause, hrequest, hfail, by rw [hcal], by rw [hcal], (congrArg TariffStore.slot htariff).trans hslot,
        by rw [hcode], hrecords, hthreshold, hdebounced, cold_handed hlost b1 b0, cold_powerRestored hlost b1 b0,
        (hlevels .meter).1, (hlevels .network).1, fun p => ⟨(hlevels p).2.trans (by cases p <;> rfl), fun c hc => ?_⟩,
        fun hhanded c hc => ?_, fun hx hy => ?_, fun x hx hy => ?_, fun y hy hx => ?_, hfault, fun k hk => ?checkpoint,
        fun hnone => ?none⟩
      · exact cold_unsignalled hlost b1 b0 (by rintro rfl; simp at hc) (by rintro rfl; simp at hc) p
      · have honset := cold_onset hlost b1 b0 hhanded hc
        exact ⟨honset .network (by simp), fun hnot => honset .meter fun _ => hnot⟩
      · rw [hheld, governingMark_of_none hx hy]
        rfl
      · rw [hheld, governingMark_of_a hx hy]
        rfl
      · rw [hheld, governingMark_of_b hy hx]
        rfl
      case checkpoint =>
        rw [durable_of_governing hk] at *
        refine ⟨hseq, by rw [hcal], hb, hr, hq, hh, hd, htotals, by rw [hcode], by rw [hcode], hts'.trans hts,
          hlock'.trans hlock, hclear'.trans hclear, (congrArg TariffStore.commissioned htariff).trans hcommissioned,
          (congrArg TariffStore.active htariff).trans hactive, hconfirm, hoverload, fun hmembers => ?_, fun hempty => ?_,
          fun hhanded => ⟨?_, ?_, fun hempty hfinal => ?_, fun hempty hfinal => ?_⟩, fun m x hhanded => ⟨?_, ?_⟩⟩
        · refine ⟨hopening hmembers, hposition.trans (if_neg (by simp [hmembers])), hattempts, fun p => ?_⟩
          exact (hsupply p).trans (if_neg (by simp [hmembers]))
        · exact ⟨hposition.trans (if_pos hempty), fun p => (hsupply p).trans (if_pos hempty)⟩
        · rw [hnoneHeld hhanded] at hevaluated
          exact hevaluated
        · rw [hnoneHeld hhanded] at hset
          exact hset
        · rw [hstate hhanded hempty, if_pos hfinal, hresolved hhanded hempty]
        · rw [hstate hhanded hempty, if_neg (by simp [hfinal]), hresolved hhanded hempty]
          cases s.pins.lsense <;> cases k.confirm <;> rfl
        · rw [honeHeld m x hhanded] at hevaluated
          exact hevaluated
        · rw [honeHeld m x hhanded] at hset
          exact hset
      case none =>
        rw [durable_of_none hnone] at *
        refine ⟨hseq, by rw [hcal]; rfl, hb, hr, hq, hh, hd, htotals, by rw [hcode]; rfl, by rw [hcode]; rfl, hts'.trans hts,
          (congrArg TariffStore.commissioned htariff).trans hcommissioned, hopening rfl, ?_, hposition, hattempts, hoverload,
          hsupply, fun hhanded => ⟨?_, ?_⟩, ?_⟩
        · rw [hconfirm, hopening rfl]
          rfl
        · rw [hnoneHeld hhanded] at hevaluated
          exact hevaluated
        · rw [hnoneHeld hhanded] at hset
          exact hset
        · refine ((congrArg TariffStore.active htariff).trans hactive).trans ?_
          cases s.tariff.image <;> rfl
  case members =>
    rw [exec_restoreEnd_of_due hdue] at hexec
    cases hexec
    obtain ⟨hsw, htamper⟩ := restoreStart_of_retention hretention b1 b0
    obtain ⟨hts, hlock, hclear⟩ := restored_tamper_numbers (b1 := b1) (b0 := b0) (by rw [htamper]; exact hlatch)
    rw [htamper] at hts hlock hclear
    have hset := retained_set hretention b1 b0 hlatch
    obtain ⟨hnoneHeld, honeHeld⟩ := switchResumed_set b1 b0 s
    have hstartSet : (restoreStart b1 b0 s).sw.set = s.sw.set := by rw [hsw]; exact (loseMain_sw s).1
    refine ⟨hts, hlock, hclear, by rw [hset], fun m x hhanded => ?_, fun hhanded hagrees => ?_⟩
    · rw [hset, honeHeld m x hhanded, hstartSet]
    obtain ⟨hfinal, harmed⟩ := retained_resolved hretention b1 b0 hlatch hhanded hagrees
    obtain ⟨hset', hfault, hmembers, hpresent, habsent, hclosed, hopened, harmedState⟩ :=
      resumeSwitch_outcomes (restoreStart_atRest b1 b0 s)
    obtain ⟨-, hstartConfirm, hstartFault⟩ := loseMain_sw s
    have hkeptConfirm : (restoreStart b1 b0 s).sw.confirm = s.sw.confirm := by rw [hsw]; exact hstartConfirm
    have hkeptFault : (restoreStart b1 b0 s).sw.fault = s.sw.fault := by rw [hsw]; exact hstartFault
    have hkept : ∀ {x : SwitchState}, s.sw.state = x → x ≠ .opening → x ≠ .closing →
        (restoreStart b1 b0 s).sw.state = x ∧ (restoreStart b1 b0 s).sw.position = s.sw.position := fun hx ho hc => by
      rw [hsw, ← hx]
      exact (stop_sw s.sw).2.2 (hx ▸ ho) (hx ▸ hc)
    rw [hstartSet] at hset' hmembers hpresent habsent hclosed hopened harmedState
    rw [hkeptConfirm] at hpresent habsent hopened harmedState
    rw [hkeptFault] at hfault hclosed
    rw [restoreStart_lsense] at hpresent habsent
    rw [hfinal, harmed]
    refine ⟨hset', hfault, fun hx => ?_, fun hx => ?_, fun hx => ?_, fun hx => ?_, fun hx => ?_, fun hx => ?_⟩
    all_goals obtain ⟨hstate, hposition⟩ := hkept hx (by simp) (by simp)
    · rw [← hposition]
      exact hmembers hstate
    · exact hpresent hstate
    · exact habsent hstate
    · rw [← hposition]
      exact hclosed hstate
    · rw [← hposition]
      exact hopened hstate
    · rw [← hposition]
      exact harmedState hstate
  case records =>
    rw [exec_restoreEnd_of_due hdue] at hexec
    cases hexec
    refine ⟨retained_ts hretention b1 b0, fun n hnext hnumbers hroom hts => ?_⟩
    have hrecords := retained_records hretention b1 b0 hnext hnumbers hroom
    rw [List.append_assoc, List.append_assoc, List.singleton_append] at hrecords
    obtain ⟨hstaging, hlast, hoverflow, hdropped⟩ := restored_log_of_staged hrecords
    refine ⟨⟨_, hstaging, fun l hcover => ?_, fun l hterminal => ?_⟩, ?_, hoverflow, hdropped⟩
    · rw [bodies_numbered, retained_coverRecord hretention b1 b0 hcover hts]
      simp
    · rw [bodies_numbered, retained_terminalRecord hretention b1 b0 hterminal hts]
      simp
    · rw [hlast, hstaging, List.length_append, length_numbered]
      exact congrArg (fun k => some (n + k)) (Nat.add_sub_cancel_left ..).symm
  case coldRecords =>
    rw [exec_restoreEnd_of_due hdue] at hexec
    cases hexec
    have htime : (finishRestore b1 b0 s).cal.t = (durable (loseMain s)).time :=
      congrArg Calendar.t (cold_blocks hlost b1 b0).2.1
    have hposition := cold_positionRecords hlost b1 b0
    have hring : (loseMain s).supmon.ring = s.supmon.ring := (congrArg Supmon.ring (stop_supmon s.supmon)).trans rfl
    have hcounts : (loaded (loseMain s)).log.next =
        coldNext ((governing (loseMain s).supmon.ring).map (·.counter)) (loseMain s).log := rfl
    rw [htime]
    refine ⟨fun k hk hcounter hnumbers => ?_, fun hnone hnumbers => ?_, fun k hk hcounter => ?_⟩
    · have hnext := hcounts
      rw [hring, hk] at hnext
      obtain ⟨hstaging, hrest⟩ := cold_staging hlost b1 b0
        (hnext.trans (coldNext_of_counter (l := (loseMain s).log) hcounter (Nat.le_of_add_right_le hnumbers))) hnumbers
      refine ⟨hstaging.trans ?_, hrest⟩
      have hloaded : (loaded (loseMain s)).totals = k.totals ∧ (loaded (loseMain s)).cal.t = k.time := by
        rw [← durable_of_governing hk]
        exact ⟨rfl, rfl⟩
      rw [hring, hk, hposition, durable_of_governing hk]
      simp only [Option.isNone_some, coldBodies, recordNow, hloaded, Bool.false_eq_true, if_false]
      split <;> rfl
    · have hnext := hcounts
      rw [hring, hnone] at hnext
      obtain ⟨hstaging, hlast, hrest⟩ := cold_staging hlost b1 b0
        (hnext.trans (coldNext_of_none (l := (loseMain s).log) (Nat.le_of_add_right_le hnumbers))) hnumbers
      have hloaded : (loaded (loseMain s)).totals.imported = 0 ∧
          (loaded (loseMain s)).cal.t = (durable (loseMain s)).time := by
        unfold loaded
        rw [durable_of_none hnone]
        exact ⟨rfl, rfl⟩
      have hmembers : (durable (loseMain s)).set.isEmpty = false := by
        rw [durable_of_none hnone]
        rfl
      rw [hring, hnone, hposition, if_neg (by simp [hmembers])] at hstaging
      refine ⟨hstaging.trans ?_, by rw [hlast, hstaging]; rfl, hrest⟩
      simp only [Option.isNone_none, coldBodies, recordNow, hloaded, if_true]
      rfl
    · have hexhausted := cold_exhausted hlost b1 b0 (by rw [hring, hk]; rfl)
        (by rw [hcounts, hring, hk, Option.map_some, hcounter]; rfl)
      rw [durable_of_governing hk] at hexhausted
      rw [restored_log, hexhausted]
      exact ⟨by rw [hcounts, hring, hk, Option.map_some, hcounter]; rfl, rfl, rfl, rfl⟩
  case writes =>
    rw [exec_restoreEnd_of_due hdue] at hexec
    cases hexec
    obtain ⟨himage, hwritten⟩ := restored_image b1 b0 s
    have hidentity := restored_identity b1 b0 s
    refine ⟨restored_markRequest b1 b0 s, himage, hwritten, fun hretention => ?_, fun hlost => ?_⟩
    · have hkind := restoreKind_ne_cold hretention
      rw [if_pos hretention] at hidentity
      rw [hidentity]
      refine ⟨fun ha hb hdata => resume_of_agreeing (i := foundIdentity s) hkind ha hb hdata, fun hdiffers => ?_⟩
      rw [resume_of_differing (i := foundIdentity s) hkind hdiffers]
      exact (identityWriteAsked_startWrite (i := foundIdentity s) rfl).2
    · obtain ⟨hsame, hother⟩ := resume_cold (coldIdentity (foundIdentity s))
      rw [if_neg (by simp [hlost]), restoreKind_of_lost hlost] at hidentity
      rw [hidentity]
      refine ⟨(resume_working _ _).trans (coldIdentity_working _), fun hboth => ?_, fun ha hb => ?_, fun ha hb => ?_⟩
      · have hagree : (coldIdentity (foundIdentity s)).placeA.isNone = (coldIdentity (foundIdentity s)).placeB.isNone := by
          change s.identity.placeA.isNone = s.identity.placeB.isNone
          rcases hboth with ⟨ha, hb⟩ | ⟨ha, hb⟩
          · rw [Option.isNone_eq_false_iff.mpr (Option.isSome_iff_ne_none.mpr ha),
              Option.isNone_eq_false_iff.mpr (Option.isSome_iff_ne_none.mpr hb)]
          · rw [ha, hb]
        rw [hsame hagree]
        rfl
      · have hdiffer :
            (coldIdentity (foundIdentity s)).placeA.isNone ≠ (coldIdentity (foundIdentity s)).placeB.isNone := by
          change s.identity.placeA.isNone ≠ s.identity.placeB.isNone
          rw [ha, Option.isNone_eq_false_iff.mpr (Option.isSome_iff_ne_none.mpr hb)]
          simp
        rw [hother hdiffer]
        exact (identityWriteAsked_startWrite (i := coldIdentity (foundIdentity s)) rfl).2
      · have hdiffer :
            (coldIdentity (foundIdentity s)).placeA.isNone ≠ (coldIdentity (foundIdentity s)).placeB.isNone := by
          change s.identity.placeA.isNone ≠ s.identity.placeB.isNone
          rw [hb, Option.isNone_eq_false_iff.mpr (Option.isSome_iff_ne_none.mpr ha)]
          simp
        rw [hother hdiffer]
        exact (identityWriteAsked_startWrite (i := coldIdentity (foundIdentity s)) rfl).2
  case governing =>
    refine ⟨fun k hk => ⟨governing_mem hk, ?_⟩, governing_none_iff ring⟩
    rw [governing_eq] at hk
    exact (foldl_betterSlot_bounds hk).2

end Sys2Proof.Machine
